-- ==== Sys2Proof/Word.lean ====
section
/-! DEFINITION. The words and the numbering types of the SX-824 (spec 00_scope.md 1.6, "Numbering"). -/

namespace Sys2Proof

/-- One byte on either line. -/
abbrev Byte := BitVec 8

/-- A field of two bytes on either line, sent high byte first. -/
abbrev Half := BitVec 16

/-- Crossing n of the manual (1 to 8) is the index n - 1. -/
abbrev CrossingId := Fin 8

/-- Station address a of the manual (1 to 24) is the index a - 1. -/
abbrev StationId := Fin 24

/-- Pattern k of the manual (1 to 16) is the index k - 1; pattern 0, silence, is no PatternId. -/
abbrev PatternId := Fin 16

/-- Clip k of the manual (1 to 64) is the index k - 1; clip 0, none, is no ClipId. -/
abbrev ClipId := Fin 64

/-- The two kerbs of a crossing. -/
inductive Approach where
  | a
  | b
deriving DecidableEq, Repr

/-- The two channels of a crossing's head. -/
inductive Aspect where
  | walk
  | dont
deriving DecidableEq, Repr

end Sys2Proof
end

