-- ==== Sys2Proof/Syntax.lean ====
section
/-! DEFINITION. The commands: one constructor of `Instr` for each row of spec/opcode_table.json, with the row's operands
as the manual's formats give them (chapter 12). A host request carries its tag and its payload's fields as they stand on
the line, in range or not; filler bytes, which R176 says are not examined, are no operand. -/

namespace Sys2Proof

/-- The fields of a SET PLAN after the crossing number (Table 12-5). -/
structure PlanFields where
  planId : Byte
  cycle : Half
  openAt : Half
  endAt : Half
  minWalk : Half
  extension : Byte
  distance : Half
  normalSpeed : Byte
  accessibleSpeed : Byte
  buffer : Byte
  dwell : Byte
  countdown : Byte
  locator : Byte
  walkPattern : Byte
  clearancePattern : Byte
  acknowledge : Byte
  walkClip : Byte
deriving DecidableEq, Repr

/-- The fields of a BIND STATION after address, crossing and approach (Table 12-6). -/
structure BindFields where
  margin : Half
  floor : Half
  dayCeiling : Half
  nightCeiling : Half
  holdThreshold : Byte
  rampRate : Byte
  locateClip : Byte
  tactile : Byte
deriving DecidableEq, Repr

/-- One toggle point of a SET PATTERN (Table 12-7). -/
structure PointFields where
  offset : Byte
  level : Byte
deriving DecidableEq, Repr

/-- The two slots the Plan Store keeps for a crossing (R16). -/
inductive PlanSlot where
  | active
  | planned
deriving DecidableEq, Repr

/-- A difference that appears in a store (R27, R148). `plan`: in the record a slot holds, small enough to be corrected
or not. `clipByte`: a stored byte of a clip becomes another. -/
inductive Upset where
  | plan (n : CrossingId) (slot : PlanSlot) (correctable : Bool)
  | clipByte (k : ClipId) (offset : Nat) (value : Byte)
deriving DecidableEq, Repr

/-- One piece of the work a tick brings, which may meet another in either order: one crossing's work (R55, R95), the swap
of a wrap (R25), the count of freshness with the loss of the host it may bring (R79), the ramp steps and each channel's open
test (R95). -/
inductive TickWork where
  | crossing (n : CrossingId)
  | swap
  | freshness
  | ramps
  | test (n : CrossingId) (x : Aspect)
deriving DecidableEq, Repr

/-- One effect of an accepted SYNC that may meet another in either order (R25, R147): the fall of a crossing's permit
(R13, R70), the change of the day/night flag (R14), the handling of the position (R5). -/
inductive SyncWork where
  | fall (n : CrossingId)
  | turn
  | position
deriving DecidableEq, Repr

/-- What reaches the part from outside with one tick. `load`: the current in mA in the load of channel i + 1 (R91).
`upsets`: the differences that appear in the stores before the next tick. `order`: the order in which the part takes the
tick's work, where the manual allows each; work it does not name comes after the work it names. -/
structure TickInputs where
  load : Vector Nat 16
  upsets : List Upset
  order : List TickWork
deriving DecidableEq, Repr

/-- The seven checks (Table 11-2). -/
inductive Machine.Check where
  | configRom
  | workMemory
  | planMemory
  | clipMemory
  | headDrivers
  | kerbLine
  | streetLine
deriving DecidableEq, Repr

/-- One pulse of the HEAD_DRIVERS check (R172): the pulse's current and the current sensed, in mA, and whether a short
is sensed. -/
structure Pulse where
  driven : Nat
  sensed : Nat
  short : Bool
deriving DecidableEq, Repr

/-- The four bytes the part hears of its own beacon, `none` where a byte is not heard (R99). -/
structure Heard where
  b0 : Option Byte
  b1 : Option Byte
  b2 : Option Byte
  b3 : Option Byte
deriving DecidableEq, Repr

/-- A completed self-test check and what it finds (R172). `selfTest` and `check`: the number of the self-test it belongs to and
its name in Table 11-2 (R175, log 38). `good` is the result of a check of a store or of the Street Link's driver;
`pulses` is read by HEAD_DRIVERS, `heard` by KERB_LINE. -/
structure CheckInputs where
  selfTest : Nat
  check : Machine.Check
  good : Bool
  pulses : Vector Pulse 16
  heard : Heard
deriving DecidableEq, Repr

/-- What comes back for a transaction within its timeout (R100): `none` when no reply comes, otherwise its bytes. -/
abbrev KerbReply := Option (List Byte)

/-- The commands of the block, in the table's order. -/
inductive Instr where
  /-- POWER_ON (R171): power is applied. -/
  | powerOn
  /-- SELF_TEST_START (R170): the last byte of an accepted RESTART's reply has been sent. -/
  | selfTestStart
  /-- SELF_TEST_CHECK_COMPLETE (R172): a check of a self-test completes with what it found. -/
  | selfTestCheckComplete (found : CheckInputs)
  /-- TICK (R2): 100 ms have passed. -/
  | tick (inputs : TickInputs)
  /-- HOST_LOST (R11): the freshness counter reaches its limit. -/
  | hostLost
  /-- LEAD_END (R62): a crossing's lead count reaches 0. -/
  | leadEnd (n : CrossingId)
  /-- WALK_END (R65): a crossing's walk count reaches 0. -/
  | walkEnd (n : CrossingId)
  /-- CLEARANCE_END (R68): a crossing's clearance count reaches 0. -/
  | clearanceEnd (n : CrossingId)
  /-- BUFFER_END (R69): a crossing's buffer count reaches 0. -/
  | bufferEnd (n : CrossingId)
  /-- LAMP_OPEN_DETECTED (R92): a channel's third open sample is taken. -/
  | lampOpenDetected (n : CrossingId) (aspect : Aspect)
  /-- LAMP_SHORT_SENSED (R93): a short is sensed on a channel. -/
  | lampShortSensed (n : CrossingId) (aspect : Aspect)
  /-- BEACON_CHECK (R99): the four bytes heard of the beacon on the line. -/
  | beaconCheck (heard : Heard)
  /-- BEACON_RETRY (R110): the four bytes heard of a beacon attempted in FAULT. -/
  | beaconRetry (heard : Heard)
  /-- LINE_FAULT_REVERSION (R111): the fault age reaches its limit. -/
  | lineFaultReversion
  /-- QUIET_PERIOD_END (R113): the quiet counter reaches 0. -/
  | quietPeriodEnd
  /-- POLL (R102): the poll or probe in progress ends. -/
  | poll (reply : KerbReply)
  /-- PLAY_TRANSACTION (R140): the PLAY in progress ends. -/
  | playTransaction (reply : KerbReply)
  /-- ACK_TRANSACTION (R107): the ACK in progress ends. -/
  | ackTransaction (reply : KerbReply)
  /-- SET_LEVEL_TRANSACTION (R107): the SET LEVEL in progress ends. -/
  | setLevelTransaction (reply : KerbReply)
  /-- CONFIG_TRANSACTION (R107): the CONFIG in progress ends. -/
  | configTransaction (reply : KerbReply)
  /-- PATTERN_TRANSACTION (R107): the PATTERN in progress ends. -/
  | patternTransaction (reply : KerbReply)
  /-- TAKE_OVER_TRANSACTION (R107): the TAKE-OVER in progress ends. -/
  | takeOverTransaction (reply : KerbReply)
  /-- SLOT_OPEN_TRANSACTION (R105): the SLOT OPEN in progress ends. -/
  | slotOpenTransaction (reply : KerbReply)
  /-- BLOCK_TRANSACTION (R105): the clip BLOCK in progress ends. -/
  | blockTransaction (reply : KerbReply)
  /-- SLOT_COMMIT_TRANSACTION (R157): the SLOT COMMIT in progress ends. -/
  | slotCommitTransaction (reply : KerbReply)
  /-- SYNC (R5), Table 12-3. -/
  | sync (tag : Byte) (cycle position : Half) (mask dayNight : Byte)
  /-- SET_PLAN (R20), Table 12-5. -/
  | setPlan (tag crossing : Byte) (fields : PlanFields)
  /-- SET_MODE (R53), Table 12-18. -/
  | setMode (tag crossing mode : Byte)
  /-- CLEAR_FAULT (R76), Table 12-18. -/
  | clearFault (tag crossing : Byte)
  /-- PLACE_CALL (R43), Table 12-18. -/
  | placeCall (tag crossing approach accessible : Byte)
  /-- CANCEL_CALL (R44), Table 12-18. -/
  | cancelCall (tag crossing approach : Byte)
  /-- SET_HEAD (R89), Table 12-18. -/
  | setHead (tag crossing aspect coarse dayFine nightFine ramp : Byte)
  /-- BIND_STATION (R118), Table 12-6. -/
  | bindStation (tag address crossing approach : Byte) (fields : BindFields)
  /-- UNBIND_STATION (R120), Table 12-18. -/
  | unbindStation (tag address : Byte)
  /-- CONFIGURE (R121). -/
  | configure (tag : Byte)
  /-- UNCONFIGURE (R122). -/
  | unconfigure (tag : Byte)
  /-- RESET_KERB_LINK (R112). -/
  | resetKerbLink (tag : Byte)
  /-- SET_PATTERN (R135), Table 12-7; the point count is the length of the list. -/
  | setPattern (tag pattern period cadence initial : Byte) (points : List PointFields)
  /-- CLIP_OPEN (R149), Table 12-8. -/
  | clipOpen (tag clip : Byte) (length check : Half)
  /-- CLIP_DATA (R150), Table 12-8. -/
  | clipData (tag clip : Byte) (offset : Half) (data : List Byte)
  /-- CLIP_CLOSE (R151), Table 12-8. -/
  | clipClose (tag clip : Byte)
  /-- CLIP_ERASE (R152), Table 12-8. -/
  | clipErase (tag clip : Byte)
  /-- QUERY_CROSSING (R165). -/
  | queryCrossing (tag crossing : Byte)
  /-- QUERY_STATION (R131). -/
  | queryStation (tag address : Byte)
  /-- QUERY_CLIP (R159). -/
  | queryClip (tag clip : Byte)
  /-- QUERY_START_UP (R174). -/
  | queryStartUp (tag : Byte)
  /-- RESTART (R174). -/
  | restart (tag : Byte)
  /-- UNKNOWN_KIND (R163): a complete frame with a good CRC whose kind is no request kind. -/
  | unknownKind (kind tag : Byte) (payload : List Byte)
  /-- REQUEST_WHILE_BUSY (R163): a good frame completes while an earlier reply has not begun. -/
  | requestWhileBusy
  /-- BAD_CRC_FRAME (R162): a frame completes whose CRC does not match. -/
  | badCrcFrame
  /-- BYTE_GAP_TIMEOUT (R162): more than 5 ms pass between two bytes. -/
  | byteGapTimeout
  /-- FRAMING_ERROR (R162): a byte arrives without its stop bit. -/
  | framingError
  /-- REPLY_BEGIN (R168): the free outgoing line begins the waiting reply. -/
  | replyBegin
  /-- NOTICE_BEGIN (R168): the free outgoing line begins the head notice. -/
  | noticeBegin
  /-- FRAME_SENT (R168): the last byte of the frame being sent has gone. -/
  | frameSent
  /-- STREET_LINK_BYTE_RECEIVED (R162): a byte arrives on the incoming line. -/
  | streetLinkByteReceived (byte : Byte)
deriving DecidableEq, Repr

end Sys2Proof
end

