-- ==== Sys2Proof/Decode.lean ====
section
/-! DEFINITION. The table gives no row of this block any bits: no word spells a command. -/

namespace Sys2Proof

/-- The command a word spells by the table's bits: none, for no row carries bits (log 25). -/
def decodeTableWord (_nbits _w : Nat) : Option Instr := none

end Sys2Proof
end

