-- ==== Sys2Proof/Config.lean ====
section
/-! DEFINITION. The fixed numbers the manual gives the part, and the choices of order it leaves free. -/

namespace Sys2Proof.Config

/-- R11: the ticks without an accepted SYNC after which the host is LOST. -/
def freshLimit : Nat := 30

/-- R5, R8: the greatest drift that is corrected gradually. -/
def driftLimit : Nat := 20

/-- R61: the ticks of lead between a commit and the lighting of WALK. -/
def leadTicks : Nat := 2

/-- R87: the rating of the cabinet supply, in mA. -/
def cabinetLimit : Nat := 2400

/-- R87: the applied target a clamped channel is held to, in mA. -/
def clampTarget : Nat := 200

/-- R91: the least actual drive at which a lit channel is tested, in mA. -/
def testDrive : Nat := 20

/-- R91: the open samples that disable a channel. -/
def openLimit : Nat := 3

/-- R98, Figure 6-1: the length of a Kerb Link frame in microseconds. -/
def frameMicros : Nat := 100000

/-- R106: the guard that closes a frame, in microseconds. -/
def guardMicros : Nat := 2000

/-- R99: the duration of the beacon in microseconds. -/
def beaconMicros : Nat := 460

/-- R110: the frames between two beacon attempts in FAULT. -/
def retryLimit : Nat := 10

/-- R111: the fault age at which the part gives its stations up. -/
def faultAgeLimit : Nat := 20

/-- R112: the frames of a kerb reset's quiet period. -/
def quietFrames : Nat := 20

/-- R107: the failures in a row that make a station LOST. -/
def failureLimit : Nat := 3

/-- R145: the distance of target and commanded level at which the level follows, in 0.1 dB. -/
def levelHysteresis : Nat := 20

/-- R116: A_f at a binding, in 0.1 dB. -/
def ambientStart : Nat := 600

/-- R148: the blocks of the clip store. -/
def storeBlocks : Nat := 4096

/-- R105: the bytes of a store block. -/
def blockBytes : Nat := 128

/-- R167: the places of the notice queue. -/
def noticePlaces : Nat := 32

/-- R25, R147: the order in which the part takes the effects of an accepted SYNC where it has more than one, a free value
for each SYNC (log 16), but that a change of day and night comes before the position (R5). Effects that it leaves out come after those it names; others that it names do not arise. -/
opaque syncOrder : Nat → List SyncWork

/-- R102, R147: whether the part takes the ambient sample of a poll reply before its press, a free value for each reply where
it can be seen (log 41). -/
opaque sampleFirst : Nat → Bool

/-- R95: the order in which the part takes the crossings that one event moves, where it moves more than one, a free value for
each such event (log 43). Crossings that it leaves out come after those it names. -/
opaque crossingOrder : Nat → List CrossingId

end Sys2Proof.Config
end

