-- ==== Sys2Proof/Machine/State.lean ====
section
/-! DEFINITION. The state of the part, as plain data, and its values after reset. Each structure's docstring names the
rule and table of spec/ that list its items. -/

namespace Sys2Proof.Machine

/-! ### Stops -/

/-- Why the part would stop. The manual names no event that stops it: a crossing's fault causes, a disabled channel, a
line fault, HALTED and a refused request are all effects on the state. No constructor, so no meaning can fault (log 24). -/
inductive Fault : Type
deriving DecidableEq, Repr

/-- Why the model would give a command no meaning. -/
inductive Refusal : Type where
  /-- A row of the table that has no meaning yet. No arm of `exec` answers it in this model. Safe: nothing follows. -/
  | notModelled (mnemonic : String)
deriving DecidableEq, Repr

/-! ### Cycle Timebase (R1, Table 1-2) -/

inductive DayNight where
  | day
  | night
deriving DecidableEq, Repr

inductive Presence where
  | present
  | lost
deriving DecidableEq, Repr

/-- Causes of CYCLE notices (R15, Table 1-4). -/
inductive CycleCause where
  | step
  | length
  | lost
  | regained
deriving DecidableEq, Repr

/-- R1, Table 1-2. `tickPos` is the model's own: the position the most recent tick produced, which R33, R64 and R66 use. -/
structure Timebase where
  pos : Nat := 0
  cycle : Nat := 0
  mask : BitVec 8 := 0
  dayNight : DayNight := .day
  presence : Presence := .lost
  fresh : Nat := 30
  correction : Int := 0
  tickPos : Nat := 0
deriving DecidableEq, Repr

/-! ### Plan Store (R16, R17) -/

/-- The fields of a plan record (R17, Table 2-2). -/
structure Plan where
  planId : Nat
  cycle : Nat
  openAt : Nat
  endAt : Nat
  minWalk : Nat
  extension : Nat
  distance : Nat
  normalSpeed : Nat
  accessibleSpeed : Nat
  buffer : Nat
  dwell : Bool
  countdown : Bool
  locator : Nat
  walkPattern : Nat
  clearancePattern : Nat
  acknowledge : Nat
  walkClip : Nat
deriving DecidableEq, Repr

/-- What a read of a record against its check code finds (R27). -/
inductive Integrity where
  | sound
  | correctable
  | uncorrectable
deriving DecidableEq, Repr

/-- A record in a slot, with the standing of its check code. -/
structure SlotRecord where
  plan : Plan
  check : Integrity
deriving DecidableEq, Repr

/-! ### Call Register (R32, R33) -/

/-- Who made a call (Table 3-2): `none` is HOST. -/
abbrev CallSource := Option StationId

/-- A call record (R33, Table 3-2). -/
structure Call where
  accessible : Bool
  source : CallSource
  first : Nat
  presses : Nat
deriving DecidableEq, Repr

/-- A station's press state (R32); `last = none` is UNSET. -/
structure PressState where
  last : Option Byte := none
  upgraded : Bool := false
deriving DecidableEq, Repr

/-! ### Crossing Sequencer (R51, Tables 4-1 and 4-2) -/

inductive Mode where
  | off
  | normal
  | recall
  | hold
deriving DecidableEq, Repr

inductive IntervalState where
  | dark
  | rest
  | starting
  | walk
  | clearance
  | buffer
  | hold
  | fault
deriving DecidableEq, Repr

inductive Cause where
  | conflict
  | walkLamp
  | dontLamp
  | planMemory
deriving DecidableEq, Repr

/-- A fault cause set (Table 4-1). -/
structure CauseSet where
  conflict : Bool := false
  walkLamp : Bool := false
  dontLamp : Bool := false
  planMemory : Bool := false
deriving DecidableEq, Repr

/-- Truncation causes (Table 4-6). -/
inductive TruncationCause where
  | conflict
  | hostLoss
  | modeOff
  | modeHold
  | walkLamp
  | planMemory
deriving DecidableEq, Repr

/-- A walk record (Table 4-2). `count` is the count of the interval in hand: the lead, walk, clearance or buffer
remaining, as the interval state says. `consumedA`, `consumedB` are the consumed calls. -/
structure Walk where
  accessible : Bool
  count : Nat
  walkLength : Nat
  clearance : Nat
  buffer : Nat
  lampStart : Nat
  release : Nat
  truncation : Option TruncationCause
  consumedA : Option Call
  consumedB : Option Call
  target : IntervalState
deriving DecidableEq, Repr

/-! ### Head Outputs (R82, Table 5-1) -/

/-- One channel (Table 5-1). `enabled = false` is DISABLED_FAULT. Currents are in mA. -/
structure Channel where
  coarse : Nat := 1
  dayFine : Nat := 0
  nightFine : Nat := 0
  ramp : Nat := 10
  nominal : Nat := 0
  inUse : Bool := false
  applied : Nat := 0
  actual : Nat := 0
  openCount : Nat := 0
  enabled : Bool := true
deriving DecidableEq, Repr

/-- All that the blocks hold for one crossing: Plan Store (R16), Call Register (R32), Sequencer (R51), Head Outputs
(R82). `countdownOn` is the model's own: the countdown field read at clearance entry, which holds for the whole of that
clearance (R85). -/
structure Crossing where
  active : Option SlotRecord := none
  unusable : Bool := false
  planned : Option SlotRecord := none
  placeA : Option Call := none
  placeB : Option Call := none
  mode : Mode := .off
  state : IntervalState := .dark
  causes : CauseSet := {}
  served : Bool := false
  inWindow : Bool := false
  walk : Option Walk := none
  countdown : Option Nat := none
  countdownOn : Bool := false
  walkLamp : Channel := {}
  dontLamp : Channel := {}
deriving DecidableEq, Repr

/-! ### Aid Engine (R133, R134, R136) -/

/-- A defined pattern record (R134); a toggle point is an offset and a level, ON as `true`. -/
structure Pattern where
  period : Nat
  repeating : Bool
  initial : Bool
  points : List (Nat × Bool)
deriving DecidableEq, Repr

/-- A PLAY: its content and its launch frame (R136, Table 8-2). -/
structure Play where
  pattern : Nat
  clip : Nat
  tactile : Bool
  lamp : Bool
  level : Nat
  launch : Byte
deriving DecidableEq, Repr

/-- An ACK's content (R141): a pattern with clip 0, or a clip with pattern 0. -/
structure Ack where
  pattern : Nat
  clip : Nat
deriving DecidableEq, Repr

/-! ### Stations: Kerb Link work (R97), Station Table (R116, R117), caches (R154) -/

/-- An entry of an urgent list (R103). -/
inductive Urgent where
  | play (p : Play)
  | ack (a : Ack)
deriving DecidableEq, Repr

/-- A settings-to-send set (R104); bit k - 1 of `patterns` is PATTERN k. -/
structure SettingsSet where
  takeOver : Bool := false
  config : Bool := false
  patterns : BitVec 16 := 0
  level : Bool := false
deriving DecidableEq, Repr

inductive JobState where
  | opening
  | sending
  | committing
deriving DecidableEq, Repr

/-- A transfer job (R105, R156). -/
structure Job where
  slot : Fin 4
  clip : ClipId
  state : JobState
  next : Nat
  total : Nat
  attempt : Nat
deriving DecidableEq, Repr

/-- A station's settings (R117, Table 7-2). -/
structure Settings where
  margin : Nat
  floor : Nat
  dayCeiling : Nat
  nightCeiling : Nat
  holdThreshold : Nat
  rampRate : Nat
  locateClip : Nat
  tactile : Bool
deriving DecidableEq, Repr

/-- What a bound address serves, and the settings it is to carry (R116, R117). -/
structure Binding where
  crossing : CrossingId
  approach : Approach
  settings : Settings
deriving DecidableEq, Repr

inductive Ownership where
  | absent
  | local
  | taking
  | owned
  | lost
deriving DecidableEq, Repr

/-- The station mode a poll reply reports. -/
inductive StationMode where
  | local
  | owned
deriving DecidableEq, Repr

inductive MirrorState where
  | empty
  | filling
  | resident
  | stale
deriving DecidableEq, Repr

/-- A slot of a cache mirror (R154); clip 0 is none. -/
structure MirrorSlot where
  clip : Nat := 0
  state : MirrorState := .empty
deriving DecidableEq, Repr

/-- A cache mirror (R154): four slots and the commit order, oldest commit first. -/
structure Mirror where
  slots : Vector MirrorSlot 4 := Vector.replicate 4 {}
  order : List (Fin 4) := []
deriving DecidableEq, Repr

/-- All that the blocks hold for one station address: Station Table (R116), Call Register (R32), Aid Engine (R133), Kerb
Link work (R97), Clip Library (R154). -/
structure Station where
  binding : Option Binding := none
  owner : Ownership := .absent
  failures : Nat := 0
  lastMode : Option StationMode := none
  ambient : Nat := 600
  level : Nat := 0
  speaker : Bool := false
  tactile : Bool := false
  mic : Bool := false
  latePlay : Bool := false
  mirror : Mirror := {}
  clipFault : Bool := false
  barred : List ClipId := []
  press : PressState := {}
  held : Option Play := none
  urgent : List Urgent := []
  settings : SettingsSet := {}
  job : Option Job := none
deriving DecidableEq, Repr

/-! ### Kerb Link (R97, Table 6-1) -/

inductive LineState where
  | up
  | fault
deriving DecidableEq, Repr

/-- What a transaction carries (Table 6-2). -/
inductive Item where
  | poll
  | play (p : Play)
  | ack
  | takeOver
  | config
  | pattern (k : PatternId)
  | level
  | slotOpen
  | block
  | slotCommit
deriving DecidableEq, Repr

/-- A transaction in progress. `discard`: its station's work was cleared, so its outcome is discarded (R108). `again`:
its urgent entry was replaced or its settings item marked again, so the item stays (R103, R104). -/
structure Transaction where
  station : StationId
  item : Item
  discard : Bool
  again : Bool
deriving DecidableEq, Repr

/-- What the line carries. `beacon`: one sent and not yet compared with its echo; `retried` when it was attempted in
FAULT (R110). -/
inductive Activity where
  | idle
  | beacon (retried : Bool)
  | transaction (t : Transaction)
deriving DecidableEq, Repr

/-- Table 6-1, and the model's own: `keepNumber` (the next frame keeps its number, R98), `used` (microseconds used of the
frame in progress, to the end of the transaction in progress), `activity`, `closed` (the frame carries nothing further,
R112, R113) and `sent` (the bytes of the message last begun on the line). -/
structure Link where
  frame : Byte := 0
  line : LineState := .up
  faultAge : Nat := 0
  retry : Nat := 0
  quiet : Nat := 0
  pointer : StationId := 23
  keepNumber : Bool := true
  used : Nat := 0
  activity : Activity := .idle
  closed : Bool := false
  sent : List Byte := []
deriving DecidableEq, Repr

/-! ### Clip Library (R148, Table 9-1) -/

inductive ClipState where
  | empty
  | loading
  | valid
deriving DecidableEq, Repr

/-- A clip record (Table 9-1) and the bytes stored for it. -/
structure Clip where
  state : ClipState := .empty
  length : Nat := 0
  blocks : Nat := 0
  check : Half := 0
  received : Nat := 0
  data : List Byte := []
deriving DecidableEq, Repr

/-! ### Start-up Sequencer (R171, Table 11-1) -/

inductive OperatingState where
  | selfTest
  | running
  | halted
deriving DecidableEq, Repr

/-- A set of check names. -/
structure CheckSet where
  configRom : Bool := false
  workMemory : Bool := false
  planMemory : Bool := false
  clipMemory : Bool := false
  headDrivers : Bool := false
  kerbLine : Bool := false
  streetLine : Bool := false
deriving DecidableEq, Repr

/-- Table 11-1. Entry i of `failedChannels` says whether channel i + 1 is in the list of failed channels. `number` is the
model's own: the self-test starts so far, each of which ends the self-test before it (R175, log 38). -/
structure StartUp where
  operating : OperatingState := .selfTest
  check : Option Check := some .configRom
  done : CheckSet := {}
  failed : CheckSet := {}
  failedChannels : Vector Bool 16 := Vector.replicate 16 false
  number : Nat := 0
deriving DecidableEq, Repr

/-! ### Street Link (R161, Table 10-1) -/

/-- The notices (Table 10-4) with their fields (Tables 12-9, 12-10, 12-22). -/
inductive Notice where
  | call (n : CrossingId) (approach : Approach) (accessible : Bool) (source : CallSource)
  | walk (n : CrossingId) (lampStart walkLength clearance buffer release : Nat)
  | extend (n : CrossingId) (walkEnd release : Nat)
  | truncate (n : CrossingId) (cause : TruncationCause)
  | release (n : CrossingId)
  | noDemand (n : CrossingId)
  | windowMissed (n : CrossingId)
  | fault (n : CrossingId) (causes : CauseSet)
  | station (a : StationId) (owner : Ownership) (speaker tactile mic clip : Bool)
  | cycle (cause : CycleCause)
  | startUp (done failed : CheckSet) (operating : OperatingState)
deriving DecidableEq, Repr

/-- The receiver and the frame under reception (R162): in `body`, the length byte and the bytes stored so far. -/
inductive Receiver where
  | hunt
  | length
  | body (length : Byte) (got : List Byte)
deriving DecidableEq, Repr

/-- What an outgoing frame is: `restartReply` is the reply to an accepted RESTART, whose last byte begins the self-test
(R170). -/
inductive FrameClass where
  | reply
  | restartReply
  | notice
deriving DecidableEq, Repr

/-- An outgoing frame with all its bytes (Table 12-1). -/
structure OutFrame where
  cls : FrameClass
  bytes : List Byte
deriving DecidableEq, Repr

/-- Table 10-1. -/
structure Street where
  receiver : Receiver := .hunt
  busy : Bool := false
  reply : Option OutFrame := none
  sending : Option OutFrame := none
  notices : List Notice := []
  lost : Bool := false
deriving DecidableEq, Repr

/-! ### The whole part -/

/-- Pattern 1 after a start (Table 8-1). -/
def defaultLocator : Pattern := ⟨100, true, false, [(0, true), (4, false)]⟩
/-- Pattern 2 after a start (Table 8-1). -/
def defaultWalk : Pattern := ⟨12, true, false, [(0, true), (3, false)]⟩
/-- Pattern 3 after a start (Table 8-1). -/
def defaultAcknowledge : Pattern := ⟨50, false, false, [(0, true), (10, false), (15, true), (25, false)]⟩
/-- Pattern 4 after a start (Table 8-1). -/
def defaultClearance : Pattern := ⟨100, true, false, [(0, true), (4, false)]⟩

/-- Table 8-1: the pattern table after power-on and restart. -/
def defaultPatterns : Vector (Option Pattern) 16 :=
  #v[some defaultLocator, some defaultWalk, some defaultAcknowledge, some defaultClearance,
    none, none, none, none, none, none, none, none, none, none, none, none]

/-- The state of the part, and the queue of the commands that wait. `draws` is the model's own: the free orders read so
far, each of which is its own (Config.syncOrder, Config.sampleFirst,
Config.crossingOrder). -/
structure State where
  tb : Timebase := {}
  crossings : Vector Crossing 8 := Vector.replicate 8 {}
  budgetLimit : Bool := false
  stations : Vector Station 24 := Vector.replicate 24 {}
  configured : Bool := false
  link : Link := {}
  patterns : Vector (Option Pattern) 16 := defaultPatterns
  libraryEnabled : Bool := true
  clips : Vector Clip 64 := Vector.replicate 64 {}
  street : Street := {}
  startUp : StartUp := {}
  draws : Nat := 0
  pending : List Instr := []
deriving DecidableEq, Repr

/-- The part right after power-on: every item at its value of Tables 1-2, 2-1, 3-1, 4-1, 5-1, 6-1, 7-1, 8-1, 9-1, 10-1
and 11-1 (R171), and no command waiting. -/
def State.reset : State := {}

end Sys2Proof.Machine
end

