-- ==== Sys2Proof/Machine/Bytes.lean ====
section
/-! DEFINITION. Bytes, checks and codes: the CRC-16 and the encodings of chapter 12. -/

namespace Sys2Proof.Machine

/-! ### Numbers and checks -/

def byte (n : Nat) : Byte := BitVec.ofNat 8 n

/-- R176, Numbers: a number in two bytes, high byte first. -/
def half (n : Nat) : List Byte := [byte (n / 256), byte n]

/-- R176, Yes/no fields. -/
def yesNo (b : Bool) : Byte := if b then 1 else 0

/-- A byte whose bit i is the i-th entry of the list. -/
def bits : List Bool → Byte
  | [] => 0
  | b :: bs => (bits bs <<< 1) ||| yesNo b

/-- The two-byte number at the head of a list of bytes, high byte first. -/
def halfOf (hi lo : Byte) : Half := hi ++ lo

/-- One bit of the CRC-16 (R151): x^16 + x^12 + x^5 + 1, most significant bit first. -/
def crcShift (c : Half) : Half :=
  if c.msb then (c <<< 1) ^^^ 0x1021 else c <<< 1

def crcShifts : Nat → Half → Half
  | 0, c => c
  | n + 1, c => crcShifts n (crcShift c)

def crcByte (c : Half) (b : Byte) : Half :=
  crcShifts 8 (c ^^^ ((b.setWidth 16) <<< 8))

/-- The CRC-16 of R151 and chapter 10: initial value 0xFFFF, no reflection, no final inversion. -/
def crc16 (bs : List Byte) : Half := bs.foldl crcByte 0xFFFF

/-- A message followed by the CRC-16 over all of it, high byte first. -/
def withCrc (bs : List Byte) : List Byte := bs ++ half (crc16 bs).toNat

/-! ### Codes of named values (Table 12-2) -/

def approachCode : Approach → Byte
  | .a => 0
  | .b => 1

def Mode.code : Mode → Byte
  | .off => 0
  | .normal => 1
  | .recall => 2
  | .hold => 3

def IntervalState.code : IntervalState → Byte
  | .dark => 0
  | .rest => 1
  | .starting => 2
  | .walk => 3
  | .clearance => 4
  | .buffer => 5
  | .hold => 6
  | .fault => 7

def CauseSet.code (c : CauseSet) : Byte := bits [c.conflict, c.walkLamp, c.dontLamp, c.planMemory]

def TruncationCause.code : TruncationCause → Byte
  | .conflict => 0
  | .hostLoss => 1
  | .modeOff => 2
  | .modeHold => 3
  | .walkLamp => 4
  | .planMemory => 5

/-- Truncation cause in a reply: 0xFF for none. -/
def truncationCode : Option TruncationCause → Byte
  | none => 0xFF
  | some c => c.code

def CycleCause.code : CycleCause → Byte
  | .step => 0
  | .length => 1
  | .lost => 2
  | .regained => 3

/-- A crossing's number, 1 to 8, as a byte. -/
def crossingCode (n : CrossingId) : Byte := byte (n.val + 1)

/-- A station's address, 1 to 24, as a byte. -/
def stationCode (a : StationId) : Byte := byte (a.val + 1)

/-- Call source: 0 HOST, otherwise the station address. -/
def sourceCode : CallSource → Byte
  | none => 0
  | some a => stationCode a

def Ownership.code : Ownership → Byte
  | .absent => 0
  | .local => 1
  | .taking => 2
  | .owned => 3
  | .lost => 4

/-- Last reported mode: 2 for none. -/
def modeCode : Option StationMode → Byte
  | some .local => 0
  | some .owned => 1
  | none => 2

def OperatingState.code : OperatingState → Byte
  | .selfTest => 0
  | .running => 1
  | .halted => 2

def Check.code : Check → Byte
  | .configRom => 1
  | .workMemory => 2
  | .planMemory => 3
  | .clipMemory => 4
  | .headDrivers => 5
  | .kerbLine => 6
  | .streetLine => 7

/-- Check in progress: 0 for none. -/
def checkCode : Option Check → Byte
  | none => 0
  | some c => c.code

def CheckSet.code (c : CheckSet) : Byte :=
  bits [c.configRom, c.workMemory, c.planMemory, c.clipMemory, c.headDrivers, c.kerbLine, c.streetLine]

def ClipState.code : ClipState → Byte
  | .empty => 0
  | .loading => 1
  | .valid => 2

def MirrorState.code : MirrorState → Byte
  | .empty => 0
  | .filling => 1
  | .resident => 2
  | .stale => 3

def JobState.code : JobState → Byte
  | .opening => 0
  | .sending => 1
  | .committing => 2

/-- Channel state: 0 ENABLED, 1 DISABLED_FAULT. -/
def channelCode (enabled : Bool) : Byte := if enabled then 0 else 1

/-- Countdown value: 0xFF for blank. -/
def countdownCode : Option Nat → Byte
  | none => 0xFF
  | some v => byte v

/-- Urgent entry kind at a place of the list: 0 none, 1 PLAY, 2 ACK. -/
def urgentCode : Option Urgent → Byte
  | none => 0
  | some (.play _) => 1
  | some (.ack _) => 2

/-! ### Street Link frames (Table 12-1) -/

/-- R176, Filler: a payload of fewer than two bytes is filled out to two. -/
def padded (bs : List Byte) : List Byte := bs ++ List.replicate (2 - bs.length) 0

/-- A frame: start byte, length, kind, tag, payload and CRC-16. -/
def frameOf (kind tag : Byte) (payload : List Byte) : List Byte :=
  0xA5 :: withCrc (byte (payload.length + 2) :: kind :: tag :: payload)

/-- A notice's kind and payload (Tables 10-4, 12-9, 12-10, 12-22), before filler. -/
def Notice.fields : Notice → Byte × List Byte
  | .call n ap acc src => (0xC0, [crossingCode n, approachCode ap, yesNo acc, sourceCode src])
  | .walk n lamp w f b rel =>
    (0xC1, crossingCode n :: half lamp ++ half w ++ half f ++ [byte b] ++ half rel)
  | .extend n e rel => (0xC2, crossingCode n :: half e ++ half rel)
  | .truncate n c => (0xC3, [crossingCode n, c.code])
  | .release n => (0xC4, [crossingCode n])
  | .noDemand n => (0xC5, [crossingCode n])
  | .windowMissed n => (0xC6, [crossingCode n])
  | .fault n cs => (0xC7, [crossingCode n, cs.code])
  | .station a o sp ta mi cl => (0xC8, [stationCode a, o.code, bits [sp, ta, mi, cl]])
  | .cycle c => (0xC9, [c.code])
  | .startUp d f o => (0xCA, [d.code, f.code, o.code])

/-- A notice frame; its tag is 0 (R167). -/
def Notice.frame (n : Notice) : List Byte := frameOf n.fields.1 0 (padded n.fields.2)

/-! ### Replies on the Street Link -/

/-- Status codes (Table 10-3). -/
inductive Status where
  | ok
  | unknownKind
  | badLength
  | badField
  | badState
  | noSpace
  | checkFailed
deriving DecidableEq, Repr

def Status.code : Status → Byte
  | .ok => 0
  | .unknownKind => 1
  | .badLength => 2
  | .badField => 3
  | .badState => 4
  | .noSpace => 5
  | .checkFailed => 6

/-- The kind of a reply (R163): the request kind plus 0x80, or 0xFF for a kind of 0x00 or of 0x80 and above. -/
def replyKind (kind : Byte) : Byte :=
  if kind = 0 ∨ 0x80 ≤ kind.toNat then 0xFF else kind + 0x80

/-- A reply frame (R176): the status, and the fields only where the status is OK. -/
def replyFrame (kind tag : Byte) (status : Status) (fields : List Byte) : List Byte :=
  frameOf (replyKind kind) tag (padded (status.code :: if status = .ok then fields else []))

/-! ### Kerb Link messages (chapter 12.2) -/

/-- The transaction types (Table 12-11). -/
def Item.code : Item → Byte
  | .poll => 0x01
  | .play _ => 0x02
  | .ack => 0x03
  | .level => 0x04
  | .config => 0x05
  | .pattern _ => 0x06
  | .takeOver => 0x07
  | .slotOpen => 0x08
  | .block => 0x09
  | .slotCommit => 0x0A

/-- The bytes of a reply (Table 6-2). -/
def Item.replyBytes : Item → Nat
  | .poll => 12
  | _ => 6

/-- R100: the duration in microseconds of a transaction of so many request and reply bytes. -/
def durationOf (request reply : Nat) : Nat := 40 * (request + reply) + 300

/-- The beacon (Table 12-12): the frame number, the CONFIGURED bit and the check. -/
def beaconBytes (frame : Byte) (configured : Bool) : List Byte :=
  [0, frame, yesNo configured, 0xFF ^^^ frame ^^^ yesNo configured]

/-- A poll request (Table 12-13). -/
def pollBytes (a : StationId) (frame : Byte) : List Byte :=
  withCrc [stationCode a, 0x01, frame, 0]

/-- A PLAY request (Table 12-15). -/
def playBytes (a : StationId) (p : Play) : List Byte :=
  withCrc ([stationCode a, 0x02, byte p.pattern, byte p.clip, bits [p.tactile, p.lamp]] ++ half p.level
    ++ [p.launch, 0, 0])

/-- An ACK request (Table 12-17). -/
def ackBytes (a : StationId) (k : Ack) : List Byte :=
  withCrc [stationCode a, 0x03, byte k.pattern, byte k.clip, 0, 0]

/-- A SET LEVEL request (Table 12-17). -/
def levelBytes (a : StationId) (level : Nat) : List Byte :=
  withCrc ([stationCode a, 0x04] ++ half level ++ [0, 0])

/-- A CONFIG request (Table 12-17). -/
def configBytes (a : StationId) (t : Settings) : List Byte :=
  withCrc ([stationCode a, 0x05, byte t.holdThreshold, byte t.rampRate, yesNo t.tactile, byte t.locateClip]
    ++ List.replicate 12 0)

/-- The offset and level bytes of a pattern's points. -/
def pointBytes : List (Nat × Bool) → List Byte
  | [] => []
  | p :: ps => byte p.1 :: yesNo p.2 :: pointBytes ps

/-- A PATTERN request (Table 12-17): period 0 and point count 0 when the pattern is undefined. -/
def patternBytes (a : StationId) (k : PatternId) (p : Option Pattern) : List Byte :=
  let fields : List Byte := match p with
    | none => [0, 0, 0]
    | some q => byte q.period :: bits [q.repeating, q.initial] :: byte q.points.length :: pointBytes q.points
  withCrc ([stationCode a, 0x06, byte (k.val + 1)] ++ fields ++ List.replicate (19 - fields.length) 0)

/-- A TAKE-OVER request (Table 12-17). -/
def takeOverBytes (a : StationId) : List Byte := withCrc [stationCode a, 0x07, 0, 0]

/-- A SLOT OPEN request (Table 12-17). -/
def slotOpenBytes (a : StationId) (slot : Fin 4) (k : ClipId) (length : Nat) : List Byte :=
  withCrc ([stationCode a, 0x08, byte slot.val, byte (k.val + 1)] ++ half length ++ [0, 0])

/-- A clip BLOCK request (R178, Table 12-16). -/
def blockBytes (a : StationId) (slot : Fin 4) (index : Nat) (data : List Byte) : List Byte :=
  withCrc ([stationCode a, 0x09, byte (64 * slot.val + index / 256 % 2), byte index] ++ data)

/-- A SLOT COMMIT request (Table 12-17). -/
def slotCommitBytes (a : StationId) (slot : Fin 4) (k : ClipId) (check : Half) : List Byte :=
  withCrc ([stationCode a, 0x0A, byte slot.val, byte (k.val + 1)] ++ half check.toNat ++ [0, 0])

/-- What a transaction ends with (R100). -/
inductive TransactionEnd where
  | ok
  | noReply
  | bad
deriving DecidableEq, Repr

/-- R100, R177: the outcome of a transaction, from the bytes that came back. A reply that is not as long as Table 6-2
says has no check where the check belongs, and ends BAD (DEDUCED, log 15). -/
def judge (a : StationId) (item : Item) : KerbReply → TransactionEnd
  | none => .noReply
  | some bs =>
    let body := bs.take (item.replyBytes - 2)
    if bs.length = item.replyBytes ∧ bs = withCrc body
        ∧ bs[0]? = some (stationCode a) ∧ bs[1]? = some item.code then .ok else .bad

/-- The byte at an offset of a reply; replies that end OK hold every offset that is read. -/
def replyByte (reply : KerbReply) (i : Nat) : Byte := (reply.getD [])[i]?.getD 0

end Sys2Proof.Machine
end

