-- ==== Sys2Proof/Machine/Ops.lean ====
section
/-! DEFINITION. The named operations over the state: reading and changing one crossing, channel, station, clip or pattern,
going over all of them, arithmetic of the cycle, and the notice queue. -/

namespace Sys2Proof.Machine

/-! ### Tables -/

/-- A table with a function applied to each entry. -/
def tableMap {α β : Type} {n : Nat} (f : α → β) (v : Vector α n) : Vector β n :=
  ⟨⟨v.toList.map f⟩, by simp⟩

/-- The crossings in ascending order. -/
def allCrossings : List CrossingId := [0, 1, 2, 3, 4, 5, 6, 7]

/-- The station addresses in ascending order. -/
def allStations : List StationId :=
  [0, 1, 2, 3, 4, 5, 6, 7, 8, 9, 10, 11, 12, 13, 14, 15, 16, 17, 18, 19, 20, 21, 22, 23]

/-- The patterns in ascending order. -/
def allPatterns : List PatternId := [0, 1, 2, 3, 4, 5, 6, 7, 8, 9, 10, 11, 12, 13, 14, 15]

/-- The members of a list in order, each at its first place only. -/
def distinct {α : Type} [DecidableEq α] : List α → List α
  | [] => []
  | x :: xs => x :: (distinct xs).filter (· ≠ x)

/-- A change made for each member of a list, in its order. -/
def forEach {ι : Type} (l : List ι) (f : ι → State → State) (s : State) : State :=
  l.foldl (fun s i => f i s) s

/-- The members of a list in a chosen order: first those the choice names, then the others. A single one needs no choice. -/
def inOrder {α : Type} [DecidableEq α] (choice works : List α) : List α :=
  match works with
  | [] | [_] => works
  | _ => distinct (choice.filter (fun w => works.contains w) ++ works)

/-! ### Reading -/

def State.crossing (s : State) (n : CrossingId) : Crossing := s.crossings[n]
def State.station (s : State) (a : StationId) : Station := s.stations[a]
def State.clip (s : State) (k : ClipId) : Clip := s.clips[k]

/-- The pattern of a number, `none` for 0, for a number above 16 and for an undefined pattern. -/
def State.patternOf (s : State) (k : Nat) : Option Pattern :=
  match k with
  | 0 => none
  | i + 1 => (s.patterns[i]?).join

def Crossing.channel (c : Crossing) : Aspect → Channel
  | .walk => c.walkLamp
  | .dont => c.dontLamp

def State.channel (s : State) (n : CrossingId) (x : Aspect) : Channel := (s.crossing n).channel x

def Crossing.place (c : Crossing) : Approach → Option Call
  | .a => c.placeA
  | .b => c.placeB

/-! ### Changing -/

def State.setCrossing (s : State) (n : CrossingId) (c : Crossing) : State :=
  { s with crossings := s.crossings.set n c }

def State.modCrossing (s : State) (n : CrossingId) (f : Crossing → Crossing) : State :=
  s.setCrossing n (f (s.crossing n))

def State.setStation (s : State) (a : StationId) (t : Station) : State :=
  { s with stations := s.stations.set a t }

def State.modStation (s : State) (a : StationId) (f : Station → Station) : State :=
  s.setStation a (f (s.station a))

def State.setClip (s : State) (k : ClipId) (c : Clip) : State :=
  { s with clips := s.clips.set k c }

def State.modTimebase (s : State) (f : Timebase → Timebase) : State := { s with tb := f s.tb }
def State.modLink (s : State) (f : Link → Link) : State := { s with link := f s.link }
def State.modStreet (s : State) (f : Street → Street) : State := { s with street := f s.street }
def State.modStartUp (s : State) (f : StartUp → StartUp) : State := { s with startUp := f s.startUp }

def Crossing.setPlace (c : Crossing) (ap : Approach) (r : Option Call) : Crossing :=
  match ap with
  | .a => { c with placeA := r }
  | .b => { c with placeB := r }

def Crossing.setChannel (c : Crossing) (x : Aspect) (ch : Channel) : Crossing :=
  match x with
  | .walk => { c with walkLamp := ch }
  | .dont => { c with dontLamp := ch }

def Crossing.modChannel (c : Crossing) (x : Aspect) (f : Channel → Channel) : Crossing :=
  c.setChannel x (f (c.channel x))

/-- A change of both channels of a crossing. -/
def Crossing.mapChannels (c : Crossing) (f : Channel → Channel) : Crossing :=
  { c with walkLamp := f c.walkLamp, dontLamp := f c.dontLamp }

/-- A change of the walk record, where there is one. -/
def Crossing.modWalk (c : Crossing) (f : Walk → Walk) : Crossing := { c with walk := c.walk.map f }

/-! ### Arithmetic of the cycle -/

/-- (a − b) mod C in the range 0..C−1 (00_scope.md 1.6, "Cycle positions and windows"). -/
def cycleSub (a b c : Nat) : Nat := (a + (c - b % c)) % c

/-- ⌈a / b⌉ on integers (00_scope.md 1.6, "Rounding"). -/
def ceilDiv (a b : Nat) : Nat := (a + b - 1) / b

/-- The lesser of a value and a bound. -/
def capped (bound n : Nat) : Nat := min n bound

/-! ### The notice queue (R167) -/

/-- R167: a notice joins the tail, or is discarded with the notices-lost flag set when 32 are held. -/
def State.notify (s : State) (n : Notice) : State :=
  s.modStreet fun t =>
    if t.notices.length < Config.noticePlaces then { t with notices := t.notices ++ [n] }
    else { t with lost := true }

/-- R130: a STATION notice with the station's state and flags as they stand. -/
def State.notifyStation (s : State) (a : StationId) : State :=
  let t := s.station a
  s.notify (.station a t.owner t.speaker t.tactile t.mic t.clipFault)

/-- R72: a FAULT notice with the crossing's cause set as it stands. -/
def State.notifyFault (s : State) (n : CrossingId) : State :=
  s.notify (.fault n (s.crossing n).causes)

end Sys2Proof.Machine
end

