-- ==== Sys2Proof/Machine/Flags.lean ====
section
/-! DEFINITION. The conditions and derived values the blocks read: permits, plan values, windows, demand, settled states,
channel conditions and readiness. None of them changes the state. -/

namespace Sys2Proof.Machine

/-! ### Permits and operation -/

/-- R13: the mask in force is the stored mask while PRESENT and all clear while LOST. -/
def State.maskInForce (s : State) : BitVec 8 :=
  match s.tb.presence with
  | .present => s.tb.mask
  | .lost => 0

/-- A crossing's bit in the mask in force. -/
def State.permit (s : State) (n : CrossingId) : Bool := s.maskInForce.getLsbD n.val

def State.running (s : State) : Bool := s.startUp.operating == .running

/-! ### Plans (R17, R18, R19, R26, R30) -/

/-- R18: the window length. -/
def Plan.windowLength (p : Plan) : Nat := cycleSub p.endAt p.openAt p.cycle

/-- R18: the normal clearance. -/
def Plan.normalClearance (p : Plan) : Nat := ceilDiv (10 * p.distance) p.normalSpeed

/-- R18: the accessible clearance. -/
def Plan.accessibleClearance (p : Plan) : Nat := ceilDiv (10 * p.distance) p.accessibleSpeed

/-- R19: membership of a position in the window. -/
def Plan.inWindow (p : Plan) (pos : Nat) : Bool := cycleSub pos p.openAt p.cycle < p.windowLength

/-- R19: the remaining window at a position. -/
def Plan.remaining (p : Plan) (pos : Nat) : Nat := cycleSub p.endAt pos p.cycle

/-- R17, Table 2-2: every field in range, with O and E below the record's own cycle length. -/
def Plan.inRange (p : Plan) : Bool :=
  (1 ≤ p.planId && p.planId ≤ 255) && (300 ≤ p.cycle && p.cycle ≤ 2400)
  && p.openAt < p.cycle && p.endAt < p.cycle
  && (30 ≤ p.minWalk && p.minWalk ≤ 300) && p.extension ≤ 200
  && (300 ≤ p.distance && p.distance ≤ 4000)
  && (100 ≤ p.normalSpeed && p.normalSpeed ≤ 150)
  && (60 ≤ p.accessibleSpeed && p.accessibleSpeed ≤ 110) && p.buffer ≤ 50
  && (1 ≤ p.locator && p.locator ≤ 16) && (1 ≤ p.walkPattern && p.walkPattern ≤ 16)
  && p.clearancePattern ≤ 16 && (1 ≤ p.acknowledge && p.acknowledge ≤ 16) && p.walkClip ≤ 64

/-- R21: the window fits the longest accessible walk. -/
def Plan.fits (p : Plan) : Bool :=
  Config.leadTicks + p.minWalk + p.accessibleClearance + p.buffer ≤ p.windowLength

/-- R135: a plan names pattern k in one of its four pattern fields. -/
def Plan.names (p : Plan) (k : Nat) : Bool :=
  p.locator == k || p.walkPattern == k || p.clearancePattern == k || p.acknowledge == k

/-- R22: every nonzero pattern of the plan is defined. -/
def State.patternsDefined (s : State) (p : Plan) : Bool :=
  [p.locator, p.walkPattern, p.clearancePattern, p.acknowledge].all fun k => k == 0 || (s.patternOf k).isSome

/-- R30: the usable active plan, if there is one: a record in the active slot without the unusable mark. -/
def Crossing.usablePlan (c : Crossing) : Option Plan :=
  if c.unusable then none else c.active.map SlotRecord.plan

/-- R27: the next read of the active record will find an error that cannot be corrected. -/
def Crossing.damaged (c : Crossing) : Bool := !c.unusable && c.active.any fun r => r.check == .uncorrectable

/-- R27, R29: reading the crossing's records will find an error that cannot be corrected. -/
def Crossing.flawed (c : Crossing) : Bool := c.damaged || c.planned.any fun r => r.check == .uncorrectable

/-- R95: one event that reaches every crossing. Where it moves two or more, their changes may meet at the cabinet's budget, and
the order in which it takes the crossings is a free value; otherwise they are taken in ascending order (log 43). -/
def forCrossings (moves : Crossing → Bool) (f : CrossingId → State → State) (s : State) : State :=
  match allCrossings.filter fun n => moves (s.crossing n) with
  | _ :: _ :: _ => forEach (inOrder (Config.crossingOrder s.draws) allCrossings) f { s with draws := s.draws + 1 }
  | _ => forEach allCrossings f s

/-- R26: the plan that gives the crossing a window: usable and written for the cycle length in force. -/
def State.planInForce (s : State) (n : CrossingId) : Option Plan :=
  (s.crossing n).usablePlan.filter fun p => p.cycle == s.tb.cycle

/-- R26: the crossing is out of plan. -/
def State.outOfPlan (s : State) (n : CrossingId) : Bool := (s.planInForce n).isNone

/-- R19, R56: the position now in force lies in the crossing's window; out of plan, it never does. -/
def State.positionInWindow (s : State) (n : CrossingId) : Bool :=
  match s.planInForce n with
  | none => false
  | some p => p.inWindow s.tb.pos

/-- R30: the values other blocks take from a crossing's plan. -/
structure PlanValues where
  locator : Nat
  walkPattern : Nat
  clearance : Nat
  acknowledge : Nat
  walkClip : Nat
  countdown : Bool
deriving DecidableEq, Repr

/-- R137, Table 8-3: what a record sounds in CLEARANCE: its clearance pattern, or its locator when that is 0. -/
def Plan.clearanceSound (p : Plan) : Nat := if p.clearancePattern = 0 then p.locator else p.clearancePattern

/-- R30: a pattern of Table 2-4, or 0 when the pattern table holds it undefined. -/
def State.fallbackPattern (s : State) (k : Nat) : Nat := if (s.patternOf k).isSome then k else 0

/-- R30: the record's own values while the active plan is usable, otherwise those of Table 2-4. An undefined pattern 4 of
Table 2-4 is silence in CLEARANCE too, and not the locator (log 34). -/
def State.planValues (s : State) (n : CrossingId) : PlanValues :=
  match (s.crossing n).usablePlan with
  | some p => ⟨p.locator, p.walkPattern, p.clearanceSound, p.acknowledge, p.walkClip, p.countdown⟩
  | none => ⟨s.fallbackPattern 1, s.fallbackPattern 2, s.fallbackPattern 4, s.fallbackPattern 3, 0, false⟩

/-! ### Stations -/

/-- The station is bound to the approach. -/
def Station.serves (t : Station) (n : CrossingId) (ap : Approach) : Bool :=
  match t.binding with
  | none => false
  | some b => b.crossing == n && b.approach == ap

/-- The station is bound to either approach of the crossing. -/
def Station.atCrossing (t : Station) (n : CrossingId) : Bool :=
  match t.binding with
  | none => false
  | some b => b.crossing == n

/-- R101, R106: the stations under control. -/
def Station.controlled (t : Station) : Bool := t.owner == .owned || t.owner == .taking

/-- R128: the stations that leave part control. -/
def Station.partHeld (t : Station) : Bool := t.owner == .owned || t.owner == .taking || t.owner == .lost

/-- The OWNED stations of a crossing, in ascending address. -/
def State.ownedAt (s : State) (n : CrossingId) : List StationId :=
  allStations.filter fun a => (s.station a).owner == .owned && (s.station a).atCrossing n

/-- The OWNED stations of an approach, in ascending address. -/
def State.ownedServing (s : State) (n : CrossingId) (ap : Approach) : List StationId :=
  allStations.filter fun a => (s.station a).owner == .owned && (s.station a).serves n ap

/-- R97: the Kerb Link is ready for take-over. -/
def State.linkReady (s : State) : Bool := s.link.line == .up && s.link.quiet == 0

/-- R103, R106: the station has work. -/
def Station.hasWork (t : Station) : Bool :=
  t.controlled && (!t.urgent.isEmpty || t.settings != {} || t.job.isSome)

/-- R154: a clip number is RESIDENT in a slot of the mirror; clip 0 never is. -/
def Mirror.holds (m : Mirror) (k : Nat) : Bool :=
  k != 0 && m.slots.toList.any fun x => x.clip == k && x.state == .resident

/-! ### Demand (R48) -/

/-- R48: failure recall of one approach: at least one station bound to it and none of them OWNED. -/
def State.failureRecall (s : State) (n : CrossingId) (ap : Approach) : Bool :=
  (allStations.any fun a => (s.station a).serves n ap) && (s.ownedServing n ap).isEmpty

/-- R48: the crossing has demand. -/
def State.hasDemand (s : State) (n : CrossingId) : Bool :=
  (s.crossing n).placeA.isSome || (s.crossing n).placeB.isSome || (s.crossing n).mode == .recall
    || s.failureRecall n .a || s.failureRecall n .b

/-- R48: the crossing's demand is accessible. -/
def State.demandAccessible (s : State) (n : CrossingId) : Bool :=
  (s.crossing n).placeA.any Call.accessible || (s.crossing n).placeB.any Call.accessible

/-! ### Crossings (R52, R73) -/

def CauseSet.has (c : CauseSet) : Cause → Bool
  | .conflict => c.conflict
  | .walkLamp => c.walkLamp
  | .dontLamp => c.dontLamp
  | .planMemory => c.planMemory

def CauseSet.add (c : CauseSet) : Cause → CauseSet
  | .conflict => { c with conflict := true }
  | .walkLamp => { c with walkLamp := true }
  | .dontLamp => { c with dontLamp := true }
  | .planMemory => { c with planMemory := true }

def CauseSet.isEmpty (c : CauseSet) : Bool := !(c.conflict || c.walkLamp || c.dontLamp || c.planMemory)

/-- R52: the settled state. -/
def Crossing.settled (c : Crossing) : IntervalState :=
  if c.mode = .off then .dark
  else if !c.causes.isEmpty then .fault
  else if c.mode = .hold then .hold
  else .rest

/-- The waiting states in which a station sounds the locator and lights its lamp for a call (R137, R138). -/
def IntervalState.waitsLit : IntervalState → Bool
  | .rest | .hold | .fault => true
  | _ => false

/-- R24: the interval states in which a swap takes place. -/
def IntervalState.swaps : IntervalState → Bool
  | .dark | .rest | .hold | .fault => true
  | _ => false

/-! ### Channels (R83, R84, R86, R91, R93) -/

/-- R86: the full scale of a coarse range, in mA. -/
def Channel.fullScale (c : Channel) : Nat := 100 * c.coarse

/-- R86: the nominal target under a day/night flag. -/
def Channel.nominalFor (c : Channel) (d : DayNight) : Nat :=
  c.fullScale * (match d with | .day => c.dayFine | .night => c.nightFine) / 255

/-- R83, Table 5-2: the channel the interval state calls for. -/
def IntervalState.calls : IntervalState → Aspect → Bool
  | .dark, _ => false
  | .walk, .walk => true
  | .walk, .dont => false
  | _, .walk => false
  | _, .dont => true

/-- R84: the hand is in a lit part of its flash: the elapsed clearance count modulo 10 is 0 to 4. -/
def Walk.flashLit (w : Walk) : Bool := (w.clearance - w.count) % 10 < 5

/-- R83, R84: a channel is lit: in use, and not in a dark part of the clearance flash. -/
def Crossing.lit (c : Crossing) (x : Aspect) : Bool :=
  (c.channel x).inUse && match c.state, x, c.walk with
    | .clearance, .dont, some w => w.flashLit
    | _, _, _ => true

/-- R83: the current a channel delivers to its lamp, in mA. -/
def State.lampCurrent (s : State) (n : CrossingId) (x : Aspect) : Nat :=
  if (s.crossing n).lit x then (s.channel n x).actual else 0

/-- R91: a tick at which the channel is lit and its drive is at least 20 mA is a test tick. -/
def Crossing.testable (c : Crossing) (x : Aspect) : Bool :=
  c.lit x && Config.testDrive ≤ (c.channel x).actual

/-- R87: the sum of the nominal targets of the channels in use. -/
def State.nominalSum (s : State) : Nat :=
  (s.crossings.toList.map fun c =>
    (if c.walkLamp.inUse then c.walkLamp.nominal else 0)
      + (if c.dontLamp.inUse then c.dontLamp.nominal else 0)).sum

/-! ### Levels (R144) -/

/-- R144: the ceiling in force. -/
def Settings.ceiling (t : Settings) : DayNight → Nat
  | .day => t.dayCeiling
  | .night => t.nightCeiling

/-- R144: the target level of a station with these settings and this filtered ambient. -/
def Settings.target (t : Settings) (ambient : Nat) (d : DayNight) : Nat :=
  min (max (ambient + t.margin) t.floor) (t.ceiling d)

/-! ### Clips (R148) -/

/-- R148: the blocks held by clips that are not EMPTY. -/
def State.blocksHeld (s : State) : Nat :=
  (s.clips.toList.map fun c => if c.state = .empty then 0 else c.blocks).sum

/-- R148: the free blocks. -/
def State.freeBlocks (s : State) : Nat := Config.storeBlocks - s.blocksHeld

/-- R151: the marker and the CRC-16 of a clip's stored bytes agree with its record. -/
def Clip.verifies (c : Clip) : Bool :=
  c.data[0]? == some 0x5A && c.data[1]? == some 0xC3 && crc16 c.data == c.check

end Sys2Proof.Machine
end

