-- ==== Sys2Proof/Machine/Operands.lean ====
section
/-! DEFINITION. The operand forms: a request's field bytes read as the values the owning blocks check, `none` where a byte
holds no value of its field (R176, Table 12-2). -/

namespace Sys2Proof.Machine

/-- A number 1 to n as an index, none outside. -/
def numberOf (n : Nat) (b : Byte) : Option (Fin n) :=
  if h : 1 ≤ b.toNat ∧ b.toNat ≤ n then some ⟨b.toNat - 1, by omega⟩ else none

/-- A crossing number, 1 to 8. -/
def crossingOf (b : Byte) : Option CrossingId := numberOf 8 b

/-- A station address, 1 to 24. -/
def addressOf (b : Byte) : Option StationId := numberOf 24 b

/-- A pattern number, 1 to 16. -/
def patternNumberOf (b : Byte) : Option PatternId := numberOf 16 b

/-- A clip number, 1 to 64. -/
def clipOf (b : Byte) : Option ClipId := numberOf 64 b

/-- R176: a yes/no field; any value but 0 and 1 is out of range. -/
def yesNoOf (b : Byte) : Option Bool := if b = 0 then some false else if b = 1 then some true else none

/-- Table 12-2: approach. -/
def approachOf (b : Byte) : Option Approach := if b = 0 then some .a else if b = 1 then some .b else none

/-- Table 12-2: mode. -/
def modeOf (b : Byte) : Option Mode :=
  if b = 0 then some .off else if b = 1 then some .normal else if b = 2 then some .recall
  else if b = 3 then some .hold else none

/-- Table 12-2: aspect. -/
def aspectOf (b : Byte) : Option Aspect := if b = 0 then some .walk else if b = 1 then some .dont else none

/-- Table 12-2, R4: day/night. -/
def dayNightOf (b : Byte) : Option DayNight := if b = 0 then some .day else if b = 1 then some .night else none

/-- R17, R20 check 3: the plan a SET PLAN carries, where its yes/no fields hold a value and every field is in range. -/
def planOf (f : PlanFields) : Option Plan :=
  match yesNoOf f.dwell, yesNoOf f.countdown with
  | some dwell, some countdown =>
    let p : Plan :=
      { planId := f.planId.toNat, cycle := f.cycle.toNat, openAt := f.openAt.toNat, endAt := f.endAt.toNat,
        minWalk := f.minWalk.toNat, extension := f.extension.toNat, distance := f.distance.toNat,
        normalSpeed := f.normalSpeed.toNat, accessibleSpeed := f.accessibleSpeed.toNat, buffer := f.buffer.toNat,
        dwell := dwell, countdown := countdown, locator := f.locator.toNat, walkPattern := f.walkPattern.toNat,
        clearancePattern := f.clearancePattern.toNat, acknowledge := f.acknowledge.toNat,
        walkClip := f.walkClip.toNat }
    if p.inRange then some p else none
  | _, _ => none

/-- R117, Table 7-2: every setting in its range, each ceiling at least the floor. -/
def Settings.inRange (t : Settings) : Bool :=
  t.margin ≤ 300 && (300 ≤ t.floor && t.floor ≤ 1000)
  && (t.floor ≤ t.dayCeiling && t.dayCeiling ≤ 1000) && (t.floor ≤ t.nightCeiling && t.nightCeiling ≤ 1000)
  && (2 ≤ t.holdThreshold && t.holdThreshold ≤ 100) && (1 ≤ t.rampRate && t.rampRate ≤ 100) && t.locateClip ≤ 64

/-- R118 check 1: the settings a BIND STATION carries, where they are in range. -/
def settingsOf (f : BindFields) : Option Settings :=
  match yesNoOf f.tactile with
  | none => none
  | some tactile =>
    let t : Settings :=
      { margin := f.margin.toNat, floor := f.floor.toNat, dayCeiling := f.dayCeiling.toNat,
        nightCeiling := f.nightCeiling.toNat, holdThreshold := f.holdThreshold.toNat, rampRate := f.rampRate.toNat,
        locateClip := f.locateClip.toNat, tactile := tactile }
    if t.inRange then some t else none

/-- R118 check 1: the binding a BIND STATION carries. -/
def bindingOf (crossing approach : Byte) (f : BindFields) : Option Binding :=
  match crossingOf crossing, approachOf approach, settingsOf f with
  | some n, some ap, some t => some ⟨n, ap, t⟩
  | _, _, _ => none

/-- R134: the offsets of a list of points increase strictly. -/
def increasing : List (Nat × Bool) → Bool
  | p :: q :: rest => p.1 < q.1 && increasing (q :: rest)
  | _ => true

/-- The points of a SET PATTERN, where every level holds a value. -/
def pointsOf : List PointFields → Option (List (Nat × Bool))
  | [] => some []
  | p :: ps =>
    match yesNoOf p.level, pointsOf ps with
    | some on, some rest => some ((p.offset.toNat, on) :: rest)
    | _, _ => none

/-- R135 check 1: the record a SET PATTERN carries, where its fields are in range: with no points, the erasure. -/
def patternFieldsOf (period cadence initial : Byte) (points : List PointFields) : Option Pattern :=
  match yesNoOf cadence, yesNoOf initial, pointsOf points with
  | some repeating, some on, some ps =>
    if 5 ≤ period.toNat ∧ period.toNat ≤ 200 ∧ ps.length ≤ 8
        ∧ (ps.all fun p => p.1 < period.toNat) ∧ increasing ps then
      some ⟨period.toNat, repeating, on, ps⟩
    else none
  | _, _, _ => none

end Sys2Proof.Machine
end

