-- ==== Sys2Proof/Machine/Heads.lean ====
section
/-! DEFINITION. Head Outputs (spec 05): the in-use set, the cabinet budget, drive and ramping. Lamp faults, which reach
the Sequencer, are in Sequencer.lean. -/

namespace Sys2Proof.Machine

/-- A change of every channel of the cabinet. -/
def State.mapChannels (s : State) (f : Channel → Channel) : State :=
  { s with crossings := tableMap (fun c => c.mapChannels f) s.crossings }

/-- R87: the applied target of a channel, with the clamp set or clear. -/
def Channel.apply (clamped : Bool) (c : Channel) : Channel :=
  { c with applied := if c.inUse then (if clamped then capped Config.clampTarget c.nominal else c.nominal) else 0 }

/-- R87: the budget is re-evaluated. -/
def State.rebudget (s : State) : State :=
  let clamped : Bool := Config.cabinetLimit < s.nominalSum
  { (s.mapChannels (Channel.apply clamped)) with budgetLimit := clamped }

/-- R83, step 1: the in-use flag of a channel that its interval state calls for or not. -/
def Crossing.claim (c : Crossing) (x : Aspect) : Crossing :=
  c.modChannel x fun ch => { ch with inUse := ch.enabled && c.state.calls x }

/-- R83, step 3, and R88: a channel that has come into use takes its applied target at once, one that has left use goes
to 0 at once. `was` is the channel before the change. -/
def Channel.switched (was now : Channel) : Channel :=
  if now.inUse && !was.inUse then { now with actual := now.applied }
  else if was.inUse && !now.inUse then { now with actual := 0 }
  else now

/-- R83: the in-use flags of a crossing's channels are brought up to date, the budget is re-evaluated, and the channels
that came into use or left it are switched. -/
def State.headsUpToDate (s : State) (n : CrossingId) : State :=
  let was := s.crossing n
  let s := (s.modCrossing n fun c => (c.claim .walk).claim .dont).rebudget
  s.modCrossing n fun c =>
    { c with walkLamp := was.walkLamp.switched c.walkLamp, dontLamp := was.dontLamp.switched c.dontLamp }

/-- R88, ramp step: a channel in use moves toward its applied target by its ramp rate or the whole difference. -/
def Channel.rampStep (c : Channel) : Channel :=
  if !c.inUse then c
  else if c.actual < c.applied then { c with actual := c.actual + min c.ramp (c.applied - c.actual) }
  else { c with actual := c.actual - min c.ramp (c.actual - c.applied) }

/-- R88: the ramp steps of a tick. -/
def State.rampAll (s : State) : State := s.mapChannels Channel.rampStep

/-- R90: a change of the day/night flag: every nominal target, then the budget once. -/
def State.retargetHeads (s : State) : State :=
  (s.mapChannels fun c => { c with nominal := c.nominalFor s.tb.dayNight }).rebudget

/-- R85: the countdown value for a clearance remaining. -/
def countdownFor (on : Bool) (rem : Nat) : Option Nat := if on then some (capped 99 (ceilDiv rem 10)) else none

/-- R92, steps 1 and 2: a channel is disabled and the budget re-evaluated without it. -/
def State.disableChannel (s : State) (n : CrossingId) (x : Aspect) : State :=
  (s.modCrossing n fun c => c.modChannel x fun ch =>
    { ch with enabled := false, inUse := false, actual := 0, applied := 0 }).rebudget

/-- R92, step 3: the cause of a channel's failure. -/
def lampCause : Aspect → Cause
  | .walk => .walkLamp
  | .dont => .dontLamp

/-- R94: each DISABLED_FAULT channel of a crossing becomes ENABLED with its count reset; then R83. -/
def State.reenableChannels (s : State) (n : CrossingId) : State :=
  s.modCrossing n fun c => c.mapChannels fun ch =>
    if ch.enabled then ch else { ch with enabled := true, openCount := 0 }

end Sys2Proof.Machine
end

