-- ==== Sys2Proof/Machine/Aids.lean ====
section
/-! DEFINITION. Aid Engine (spec 08) and the queueing of a station's work (spec 06, R103, R104): levels, PLAY and ACK
contents, urgent lists, settings sets. Whoever queues a PLAY has read the plan under its check before (Sequencer.lean). -/

namespace Sys2Proof.Machine

/-! ### Work of one station (R103, R104) -/

/-- R103, R104: the transaction in progress for a station, its outcome not to be discarded, is marked so that its item
stays after an OK outcome. -/
def State.markAgain (s : State) (a : StationId) (carries : Item → Bool) : State :=
  match s.link.activity with
  | .transaction t =>
    if t.station = a ∧ carries t.item ∧ t.discard = false then
      s.modLink fun l => { l with activity := .transaction { t with again := true } }
    else s
  | _ => s

def Urgent.isPlay : Urgent → Bool
  | .play _ => true
  | .ack _ => false

def Item.isPlay : Item → Bool
  | .play _ => true
  | _ => false

/-- R103: an entry joins the tail of an urgent list, or takes the place of the entry of its kind. -/
def urgentAdd (l : List Urgent) (u : Urgent) : List Urgent :=
  if l.any fun v => v.isPlay == u.isPlay then l.map fun v => if v.isPlay == u.isPlay then u else v
  else l ++ [u]

/-- R103: an item is queued to a station's urgent list. A replacement of the entry whose transaction is in progress
keeps the entry afterwards. -/
def State.queueUrgent (s : State) (a : StationId) (u : Urgent) : State :=
  let s := if (s.station a).urgent.any fun v => v.isPlay == u.isPlay then
      s.markAgain a fun i => if u.isPlay then i.isPlay else i == .ack
    else s
  s.modStation a fun t => { t with urgent := urgentAdd t.urgent u }

/-- An item of the settings-to-send set (R104). -/
inductive Setting where
  | takeOver
  | config
  | pattern (k : PatternId)
  | level
deriving DecidableEq, Repr

def Setting.item : Setting → Item
  | .takeOver => .takeOver
  | .config => .config
  | .pattern k => .pattern k
  | .level => .level

/-- The bit of PATTERN k in a settings set. -/
def patternBit (k : PatternId) : BitVec 16 := 1#16 <<< k.val

def SettingsSet.has (t : SettingsSet) : Setting → Bool
  | .takeOver => t.takeOver
  | .config => t.config
  | .pattern k => t.patterns.getLsbD k.val
  | .level => t.level

def SettingsSet.add (t : SettingsSet) : Setting → SettingsSet
  | .takeOver => { t with takeOver := true }
  | .config => { t with config := true }
  | .pattern k => { t with patterns := t.patterns ||| patternBit k }
  | .level => { t with level := true }

def SettingsSet.remove (t : SettingsSet) : Setting → SettingsSet
  | .takeOver => { t with takeOver := false }
  | .config => { t with config := false }
  | .pattern k => { t with patterns := t.patterns &&& ~~~(patternBit k) }
  | .level => { t with level := false }

/-- R104: the first item of a settings set in the fixed order of service. -/
def SettingsSet.first (t : SettingsSet) : Option Setting :=
  if t.takeOver then some .takeOver
  else if t.config then some .config
  else match allPatterns.find? fun k => t.patterns.getLsbD k.val with
    | some k => some (.pattern k)
    | none => if t.level then some .level else none

/-- R104: an item is added to a station's settings-to-send set; added while its transaction is in progress, it is
marked again. -/
def State.addSetting (s : State) (a : StationId) (x : Setting) : State :=
  let s := if (s.station a).settings.has x then s.markAgain a fun i => i == x.item else s
  s.modStation a fun t => { t with settings := t.settings.add x }

/-! ### Levels (R144 to R146) -/

/-- R144: the target level of a station as its record and the day/night flag stand; 0 while unbound. -/
def State.targetLevel (s : State) (a : StationId) : Nat :=
  match (s.station a).binding with
  | none => 0
  | some b => b.settings.target (s.station a).ambient s.tb.dayNight

/-- R145: the commanded level takes the target level. -/
def State.takeTarget (s : State) (a : StationId) : State :=
  let l := s.targetLevel a
  s.modStation a fun t => { t with level := l }

/-- R145: a re-evaluation moves the level: the target differs by 20 or more, or the level lies outside the floor and the
ceiling in force. -/
def State.levelMoves (s : State) (a : StationId) : Bool :=
  match (s.station a).binding with
  | none => false
  | some b =>
    let l := (s.station a).level
    let t := s.targetLevel a
    Config.levelHysteresis ≤ t - l || Config.levelHysteresis ≤ l - t
      || b.settings.ceiling s.tb.dayNight < l || l < b.settings.floor

/-- R145, R146: a station's level is re-evaluated; a change at a station under control adds LEVEL. -/
def State.reevaluateLevel (s : State) (a : StationId) : State :=
  if s.levelMoves a then
    let changed := s.targetLevel a != (s.station a).level
    let s := s.takeTarget a
    if changed && (s.station a).controlled then s.addSetting a .level else s
  else s

/-! ### PLAY content (R136, R137) -/

/-- R137, Table 8-3: the launch frame: the current frame, and for STARTING the frame whose tick ends the lead, also for a
station that becomes OWNED within the lead (log 35). -/
def State.launchFor (s : State) (n : CrossingId) (st : IntervalState) : Byte :=
  match st, (s.crossing n).walk with
  | .starting, some w => s.link.frame + byte w.count
  | _, _ => s.link.frame

/-- R136, R137: the PLAY for a station bound as `b`, built for an interval state, at its target level. -/
def State.playFor (s : State) (a : StationId) (b : Binding) (st : IntervalState) : Play :=
  let v := s.planValues b.crossing
  let clip := if (s.station a).mirror.holds v.walkClip then v.walkClip else 0
  let lamp := ((s.crossing b.crossing).place b.approach).isSome
  let level := s.targetLevel a
  let launch := s.launchFor b.crossing st
  match st with
  | .dark => ⟨0, 0, false, false, level, launch⟩
  | .rest | .hold | .fault => ⟨v.locator, 0, false, lamp, level, launch⟩
  | .starting => ⟨v.walkPattern, clip, b.settings.tactile, false, level, launch⟩
  | .walk => ⟨v.walkPattern, 0, b.settings.tactile, false, level, launch⟩
  | .clearance => ⟨v.clearance, 0, false, false, level, launch⟩
  | .buffer => ⟨v.locator, 0, false, false, level, launch⟩

/-- R136, R145: a PLAY for the current state of a station's crossing is built and queued; the station's commanded level
becomes the level it carries. -/
def State.queuePlayTo (s : State) (a : StationId) : State :=
  match (s.station a).binding with
  | none => s
  | some b =>
    let p := s.playFor a b (s.crossing b.crossing).state
    (s.takeTarget a).queueUrgent a (.play p)

/-- A PLAY to each station of a list. -/
def State.queuePlaysTo (s : State) (l : List StationId) : State :=
  forEach l (fun a s => s.queuePlayTo a) s

/-! ### Samples (R142, R143) -/

/-- R142: the sample an ambient byte gives. -/
def sampleOf (v : Byte) : Nat := 300 + 5 * capped 140 v.toNat

/-- R143: the filtered ambient after a sample. -/
def filtered (ambient sample : Nat) : Nat := (3 * ambient + sample + 2) / 4

/-- R142, R143, R146: an accepted sample updates A_f and the level is re-evaluated. -/
def State.takeSample (s : State) (a : StationId) (v : Byte) : State :=
  (s.modStation a fun t => { t with ambient := filtered t.ambient (sampleOf v) }).reevaluateLevel a

end Sys2Proof.Machine
end

