-- ==== Sys2Proof/Machine/Sequencer.lean ====
section
/-! DEFINITION. The Crossing Sequencer (spec 04): entries into interval states, cancellation, truncation, fault causes,
and with them the checked read of a plan record (spec 02, R27 to R29), which may itself add a cause.

A read that finds an error adds PLAN_MEMORY, whose effect may queue PLAYs, whose building reads the plan. The recursion
ends because PLAN_MEMORY is by then present, and adding a present cause changes nothing (R72). So the operations below
take the read they use as an argument `read`: `readActive` (marks, adds no cause) inside the effect of PLAN_MEMORY,
`checkActive` (marks and adds the cause) everywhere else. -/

namespace Sys2Proof.Machine

/-- A checked read of a crossing's active record. -/
abbrev PlanRead := CrossingId → State → State

/-! ### The in-window flag (R56) -/

/-- R56, window entry. -/
def State.windowEntry (s : State) (n : CrossingId) : State :=
  let c := s.crossing n
  let quiet := c.state = .rest ∧ c.mode = .normal ∧ s.hasDemand n = false ∧ c.served = false
  let s := s.modCrossing n fun c => { c with inWindow := true }
  if quiet then s.notify (.noDemand n) else s

/-- R56, window exit: WINDOW MISSED for unserved demand in REST, then the served flag is cleared. -/
def State.windowExit (s : State) (n : CrossingId) : State :=
  let c := s.crossing n
  let missed := c.state = .rest ∧ s.hasDemand n = true ∧ c.served = false
  let s := if missed then s.notify (.windowMissed n) else s
  s.modCrossing n fun c => { c with inWindow := false, served := false }

/-- R56: the in-window flag is evaluated against the position now in force. -/
def State.evaluateWindow (s : State) (n : CrossingId) : State :=
  match s.positionInWindow n, (s.crossing n).inWindow with
  | true, false => s.windowEntry n
  | false, true => s.windowExit n
  | _, _ => s

/-! ### Reading the active record (R27, R28) -/

/-- R27, R28: the active record is read: repaired where its difference is correctable, marked unusable where it is not
(and the crossing, now out of plan, has its window evaluated, R56). A marked record is not read again. -/
def readActive (n : CrossingId) (s : State) : State :=
  let c := s.crossing n
  match c.active, c.unusable with
  | some r, false =>
    match r.check with
    | .sound => s
    | .correctable => s.modCrossing n fun c => { c with active := some { r with check := .sound } }
    | .uncorrectable => (s.modCrossing n fun c => { c with unusable := true }).evaluateWindow n
  | _, _ => s

/-! ### Entering a state (R78) -/

/-- R136, R138: a PLAY for the crossing's state to every OWNED station of it. The plan is read first; where the read
itself moves the crossing to another state, that move has queued its own PLAYs. -/
def State.queuePlays (read : PlanRead) (s : State) (n : CrossingId) : State :=
  if (s.ownedAt n).isEmpty then s
  else
    let s' := read n s
    if (s'.crossing n).state = (s.crossing n).state then s'.queuePlaysTo (s'.ownedAt n) else s'

/-- R78: the interval state changes: the heads follow (R83), the countdown goes blank (R85), and the PLAYs for the new
state are queued (R138). -/
def State.enter (read : PlanRead) (s : State) (n : CrossingId) (st : IntervalState) : State :=
  ((s.modCrossing n fun c => { c with state := st, countdown := none, countdownOn := false }).headsUpToDate n).queuePlays
    read n

/-- R77: on entry to DARK the places are emptied and the served flag is cleared. -/
def Crossing.darkened (c : Crossing) : Crossing := { c with placeA := none, placeB := none, served := false }

/-- Entry into a waiting state; DARK acts as R77 says. -/
def State.enterWaiting (read : PlanRead) (s : State) (n : CrossingId) (st : IntervalState) : State :=
  (if st = .dark then s.modCrossing n Crossing.darkened else s).enter read n st

/-- R65, R67: entry into CLEARANCE with the clearance the record holds. The Head Outputs read the countdown field under
the check (R85), and the PLAY for CLEARANCE is queued. -/
def State.enterClearance (read : PlanRead) (s : State) (n : CrossingId) : State :=
  let s := s.modCrossing n fun c =>
    { c with state := .clearance, walk := c.walk.map fun w => { w with count := w.clearance } }
  let s := read n (s.headsUpToDate n)
  let on := (s.planValues n).countdown
  let s := s.modCrossing n fun c =>
    { c with countdownOn := on, countdown := countdownFor on ((c.walk.map Walk.count).getD 0) }
  s.queuePlays read n

/-! ### Cancellation (R46, R63) -/

/-- R46: one consumed record returns to its place, merged with a record created there since the commit. -/
def restoredCall : Option Call → Option Call → Option Call
  | none, held => held
  | some c, none => some c
  | some c, some h => some { c with
      accessible := c.accessible || h.accessible
      presses := capped 255 (c.presses + h.presses) }

/-- R46: the consumed calls of a cancelled commit are restored. -/
def Crossing.restored (c : Crossing) : Crossing :=
  match c.walk with
  | none => c
  | some w => { c with placeA := restoredCall w.consumedA c.placeA, placeB := restoredCall w.consumedB c.placeB }

/-- R63: a commit is cancelled: calls restored, served cleared, record deleted, target entered with its corrective PLAY. -/
def State.cancel (read : PlanRead) (s : State) (n : CrossingId) : State :=
  let target := match (s.crossing n).walk with
    | some w => w.target
    | none => (s.crossing n).settled
  (s.modCrossing n fun c => { c.restored with served := false, walk := none }).enterWaiting read n target

/-! ### Truncation and causes (R52, R67, R72 to R74) -/

/-- R52: the walk record's target is set to the settled state. -/
def Crossing.retargeted (c : Crossing) : Crossing := c.modWalk fun w => { w with target := c.settled }

/-- R67, Table 4-2: the truncation cause is written, the release position becomes where the buffer will end now that the
clearance begins (log 42; State.releaseAtThisTick sees to a tick that counts at once), and the TRUNCATE notice is queued; entry into CLEARANCE follows. -/
def State.noteTruncation (s : State) (n : CrossingId) (t : TruncationCause) : State :=
  (s.modCrossing n fun c => c.modWalk fun w =>
    { w with truncation := some t, release := (s.tb.pos + w.clearance + w.buffer) % s.tb.cycle }).notify (.truncate n t)

/-- R67: a walk is truncated without a fault cause. -/
def State.truncate (read : PlanRead) (s : State) (n : CrossingId) (t : TruncationCause) : State :=
  (s.noteTruncation n t).enterClearance read n

/-- Table 4-6: the truncation cause of a fault cause; DONT_LAMP truncates no walk (R74). -/
def Cause.truncates : Cause → Option TruncationCause
  | .conflict => some .conflict
  | .walkLamp => some .walkLamp
  | .dontLamp => none
  | .planMemory => some .planMemory

/-- R72 to R74: a fault cause reaches a crossing. One already present changes nothing. A new one joins the set, the
target follows, and it acts by the interval state; its FAULT notice comes after the TRUNCATE notice where it truncates. -/
def addCauseWith (read : PlanRead) (n : CrossingId) (x : Cause) (s : State) : State :=
  if (s.crossing n).causes.has x then s
  else
    let s := s.modCrossing n fun c => { c with causes := c.causes.add x }.retargeted
    match (s.crossing n).state with
    | .dark | .fault => s.notifyFault n
    | .rest | .hold => (s.notifyFault n).enterWaiting read n .fault
    | .starting => (s.notifyFault n).cancel read n
    | .walk =>
      match x.truncates with
      | some t => ((s.noteTruncation n t).notifyFault n).enterClearance read n
      | none => s.notifyFault n
    | .clearance | .buffer =>
      if x = .dontLamp then
        ((s.notifyFault n).modCrossing n fun c => { c with walk := none }).enterWaiting read n .fault
      else s.notifyFault n

/-- R27, R28: the active record is read under its check; a newly found error hands PLAN_MEMORY to the Sequencer. -/
def checkActive (n : CrossingId) (s : State) : State :=
  let s' := readActive n s
  if (s'.crossing n).unusable && !(s.crossing n).unusable then addCauseWith readActive n .planMemory s' else s'

/-- R27, R29: the pending record is read under its check; an error empties the slot and hands PLAN_MEMORY on. -/
def checkPlanned (n : CrossingId) (s : State) : State :=
  match (s.crossing n).planned with
  | none => s
  | some r =>
    match r.check with
    | .sound => s
    | .correctable => s.modCrossing n fun c => { c with planned := some { r with check := .sound } }
    | .uncorrectable =>
      addCauseWith readActive n .planMemory (s.modCrossing n fun c => { c with planned := none })

/-- R72 to R74: a fault cause from another block reaches a crossing. -/
def addCause (n : CrossingId) (x : Cause) (s : State) : State := addCauseWith checkActive n x s

/-! ### Ends of intervals (R62, R65, R68, R69) -/

/-- R62: the lead has run out: WALK lights and a WALK notice is queued. No PLAY is queued (R138). -/
def State.lightWalk (s : State) (n : CrossingId) : State :=
  match (s.crossing n).walk with
  | none => s
  | some w =>
    let p := s.tb.pos
    let release := (p + w.walkLength + w.clearance + w.buffer) % s.tb.cycle
    let s := s.modCrossing n fun c => { c with
      state := .walk
      walk := some { w with count := w.walkLength, lampStart := p, release := release } }
    (s.headsUpToDate n).notify (.walk n p w.walkLength w.clearance w.buffer release)

/-- R65: the walk has run out: CLEARANCE. -/
def State.endWalk (s : State) (n : CrossingId) : State := s.enterClearance checkActive n

/-- R69: release: RELEASE is queued, the record deleted with its consumed calls, and the target entered; an entry into
FAULT queues its FAULT notice after the RELEASE notice (R72). -/
def State.releaseWalk (s : State) (n : CrossingId) : State :=
  match (s.crossing n).walk with
  | none => s
  | some w =>
    let s := (s.notify (.release n)).modCrossing n fun c => { c with walk := none }
    let s := if w.target = .fault then s.notifyFault n else s
    s.enterWaiting checkActive n w.target

/-- R68: the clearance has run out: BUFFER, or release when B is 0. -/
def State.endClearance (s : State) (n : CrossingId) : State :=
  match (s.crossing n).walk with
  | none => s
  | some w =>
    if w.buffer = 0 then s.releaseWalk n
    else (s.modCrossing n fun c => { c with walk := some { w with count := w.buffer } }).enter checkActive n .buffer

/-! ### Deciding to walk (R58 to R61) -/

/-- R59: the clearance a demand is timed with. -/
def Plan.clearanceFor (p : Plan) (accessible : Bool) : Nat :=
  if accessible then p.accessibleClearance else p.normalClearance

/-- R59: the late-start test with r remaining. -/
def Plan.lateStart (p : Plan) (accessible : Bool) (r : Nat) : Bool :=
  Config.leadTicks + p.minWalk + p.clearanceFor accessible + p.buffer ≤ r

/-- R60, R64: the walk length with `lead` ticks still to run and r remaining. -/
def Plan.walkLength (p : Plan) (accessible : Bool) (lead r : Nat) : Nat :=
  let room := r - lead - p.clearanceFor accessible - p.buffer
  if p.dwell then room
  else min (if accessible then p.minWalk + p.extension else p.minWalk) room

/-- R58: the conditions of a commit that stand beside the plan and the late-start test. -/
def State.mayStart (s : State) (n : CrossingId) : Bool :=
  let c := s.crossing n
  (c.mode == .normal || c.mode == .recall) && s.tb.presence == .present && s.permit n && s.hasDemand n
    && c.inWindow && !c.served

/-- R45, R60, R61: the walk record of a commit under plan p. -/
def State.committedWalk (s : State) (n : CrossingId) (p : Plan) : Walk :=
  let acc := s.demandAccessible n
  let w := p.walkLength acc Config.leadTicks (p.remaining s.tb.pos)
  let f := p.clearanceFor acc
  let c := s.crossing n
  { accessible := acc, count := Config.leadTicks, walkLength := w, clearance := f, buffer := p.buffer,
    lampStart := (s.tb.pos + Config.leadTicks) % s.tb.cycle,
    release := (s.tb.pos + Config.leadTicks + w + f + p.buffer) % s.tb.cycle,
    truncation := none, consumedA := c.placeA, consumedB := c.placeB, target := c.settled }

/-- R45, R61: a walk is committed: the calls are consumed, served is set, and the PLAY for STARTING is queued. -/
def State.commit (s : State) (n : CrossingId) (p : Plan) : State :=
  let w := s.committedWalk n p
  (s.modCrossing n fun c => { c with walk := some w, placeA := none, placeB := none, served := true }).enter
    checkActive n .starting

/-- R58: the start evaluation of a crossing in REST, the active plan read under its check. -/
def State.startEvaluation (s : State) (n : CrossingId) : State :=
  let s := checkActive n s
  if (s.crossing n).state = .rest ∧ s.mayStart n = true then
    match s.planInForce n with
    | none => s
    | some p => if p.lateStart (s.demandAccessible n) (p.remaining s.tb.pos) then s.commit n p else s
  else s

/-! ### The crossing's tick (R55) -/

/-- R55, stage 1: the count of the interval in hand; at 0 the crossing moves to its next interval. -/
def State.countStage (s : State) (n : CrossingId) : State :=
  match (s.crossing n).walk with
  | none => s
  | some w =>
    let counted := s.modCrossing n fun c => { c with walk := some { w with count := w.count - 1 } }
    match (s.crossing n).state with
    | .starting => if w.count ≤ 1 then s.lightWalk n else counted
    | .walk => if w.count ≤ 1 then s.endWalk n else counted
    | .clearance =>
      if w.count ≤ 1 then s.endClearance n
      else counted.modCrossing n fun c => { c with countdown := countdownFor c.countdownOn (w.count - 1) }
    | .buffer => if w.count ≤ 1 then s.releaseWalk n else counted
    | _ => s

/-- R55, stage 2: window membership, the active record read under its check (log 5). -/
def State.windowStage (s : State) (n : CrossingId) : State := (checkActive n s).evaluateWindow n

/-- R55, stage 3: the start evaluation of a crossing in REST. -/
def State.startStage (s : State) (n : CrossingId) : State :=
  if (s.crossing n).state = .rest then s.startEvaluation n else s

/-- R55: the tick's work for one crossing. -/
def State.tickCrossing (s : State) (n : CrossingId) : State :=
  ((s.countStage n).windowStage n).startStage n

/-! ### Permits, presence and mode (R54, R70, R71) -/

/-- R70: a crossing's bit in the mask in force falls during PRESENT. -/
def State.permitFalls (s : State) (n : CrossingId) : State :=
  match (s.crossing n).state with
  | .starting => s.cancel checkActive n
  | .walk | .clearance | .buffer => addCause n .conflict s
  | _ => s

/-- R71: host presence becomes LOST. -/
def State.hostLossAt (s : State) (n : CrossingId) : State :=
  match (s.crossing n).state with
  | .starting => s.cancel checkActive n
  | .walk => s.truncate checkActive n .hostLoss
  | _ => s

/-- R54, R77: a crossing leaves DARK for its settled state; served is set where the in-window flag is, and an entry into
FAULT queues its notice (R72). -/
def State.leaveDark (s : State) (n : CrossingId) : State :=
  let st := (s.crossing n).settled
  if st = .dark then s
  else
    let s := s.modCrossing n fun c => { c with served := c.served || c.inWindow }
    let s := if st = .fault then s.notifyFault n else s
    s.enterWaiting checkActive n st

/-- R54: a crossing in a waiting state other than DARK takes its settled state where that differs. -/
def State.settle (s : State) (n : CrossingId) : State :=
  let st := (s.crossing n).settled
  if st = (s.crossing n).state then s else s.enterWaiting checkActive n st

/-- R54, Table 4-3: a crossing's mode changes to another. -/
def State.changeMode (s : State) (n : CrossingId) (m : Mode) : State :=
  let s := s.modCrossing n fun c => { c with mode := m }.retargeted
  match (s.crossing n).state with
  | .dark => s.leaveDark n
  | .rest | .hold | .fault => s.settle n
  | .starting =>
    match m with
    | .off | .hold => s.cancel checkActive n
    | .normal | .recall => s
  | .walk =>
    match m with
    | .off => s.truncate checkActive n .modeOff
    | .hold => s.truncate checkActive n .modeHold
    | .normal | .recall => s
  | .clearance | .buffer => s

/-! ### CLEAR FAULT (R76) -/

/-- R76: which causes remain: CONFLICT and the lamp causes go, PLAN_MEMORY goes when the active plan is usable. -/
def Crossing.remainingCauses (c : Crossing) : CauseSet :=
  { planMemory := c.causes.planMemory && !(c.active.isSome && !c.unusable) }

/-- R76, R94: the causes whose condition has gone are removed. -/
def State.clearFault (s : State) (n : CrossingId) : State :=
  let was := (s.crossing n).causes
  let lamps := was.walkLamp || was.dontLamp
  let s := if was.planMemory then checkActive n s else s
  let s := if lamps then s.reenableChannels n else s
  let s := s.modCrossing n fun c => { c with causes := c.remainingCauses }.retargeted
  if (s.crossing n).causes = was then s
  else
    let s := s.notifyFault n
    let s := if (s.crossing n).state = .fault then s.settle n else s
    if lamps then s.headsUpToDate n else s

/-! ### Lamp faults (R91 to R93) -/

/-- R92: a channel is disabled and its cause handed to the Sequencer. -/
def State.failChannel (s : State) (n : CrossingId) (x : Aspect) : State :=
  addCause n (lampCause x) (s.disableChannel n x)

/-- R91: the open test of one channel at a tick, with the load's current. -/
def State.testChannel (load : Nat) (s : State) (n : CrossingId) (x : Aspect) : State :=
  let c := s.crossing n
  if c.testable x then
    let ch := c.channel x
    if 2 * load < ch.actual then
      let s := s.modCrossing n fun c => c.modChannel x fun ch => { ch with openCount := min 3 (ch.openCount + 1) }
      if Config.openLimit ≤ ch.openCount + 1 then s.failChannel n x else s
    else s.modCrossing n fun c => c.modChannel x fun ch => { ch with openCount := 0 }
  else s

/-- 05, section 5.1: the WALK channel of crossing n is channel 2n − 1 and its DONT channel is 2n; the index is one less. -/
def channelIndex (n : CrossingId) : Aspect → Fin 16
  | .walk => ⟨2 * n.val, by omega⟩
  | .dont => ⟨2 * n.val + 1, by omega⟩

end Sys2Proof.Machine
end

