-- ==== Sys2Proof/Machine/Calls.lean ====
section
/-! DEFINITION. Pedestrian Calls (spec 03): registration, acknowledgements, the join and extension tests, and the decoding
of presses. -/

namespace Sys2Proof.Machine

/-! ### PLAYs for a change of a call place, and ACKs (R40, R138, R141) -/

/-- R138: when the place of an approach of a crossing in REST, HOLD or FAULT comes to hold a record or becomes empty, a
PLAY for the current state goes to every OWNED station of the approach, but for the one that pressed. -/
def State.placeChanged (s : State) (n : CrossingId) (ap : Approach) (presser : CallSource) : State :=
  let served := (s.ownedServing n ap).filter fun a => some a ≠ presser
  if (s.crossing n).state.waitsLit = false ∨ served.isEmpty then s
  else
    let s' := checkActive n s
    if (s'.crossing n).state = (s.crossing n).state then s'.queuePlaysTo served else s'

/-- The locate clip of a station's settings, 0 while unbound. -/
def Station.locateClip (t : Station) : Nat := (t.binding.map fun b => b.settings.locateClip).getD 0

/-- R40: an ACK to the pressing station: the locate clip where the event made the record accessible and the clip is
RESIDENT, otherwise the acknowledge pattern, read as the ACK is built. -/
def State.requestAck (s : State) (n : CrossingId) (a : StationId) (newlyAccessible : Bool) : State :=
  let k := (s.station a).locateClip
  if newlyAccessible && (s.station a).mirror.holds k then s.queueUrgent a (.ack ⟨0, k⟩)
  else
    let s := checkActive n s
    s.queueUrgent a (.ack ⟨(s.planValues n).acknowledge, 0⟩)

/-! ### Registration (R33, R38, R39, R42) -/

/-- One event at a crossing's approach: accessible or not, its source, and whether it is an upgrade (R36). -/
structure CallEvent where
  crossing : CrossingId
  approach : Approach
  accessible : Bool
  source : CallSource
  upgrade : Bool
deriving DecidableEq, Repr

/-- R33, R38, R39: the record of a place after an event: created, or merged, with one press counted or none. -/
def CallEvent.record (e : CallEvent) (counted : Bool) (pos : Nat) : Option Call → Call
  | none => ⟨e.accessible, e.source, pos, 1⟩
  | some r => { r with
      accessible := r.accessible || e.accessible
      presses := if counted then capped 255 (r.presses + 1) else r.presses }

/-- R33, R38 to R40, R42: an event is registered, its press counted or not. A record it creates takes the position of the
most recent tick (log 21). -/
def State.registerAs (s : State) (counted : Bool) (e : CallEvent) : State :=
  let old := (s.crossing e.crossing).place e.approach
  let new := e.record counted s.tb.tickPos old
  let newlyAccessible := new.accessible && !old.any Call.accessible
  let s := s.modCrossing e.crossing fun c => c.setPlace e.approach (some new)
  let s := if old.isNone || newlyAccessible then
      s.notify (.call e.crossing e.approach new.accessible e.source) else s
  let s := if old.isNone then s.placeChanged e.crossing e.approach e.source else s
  match e.source with
  | none => s
  | some a => if e.upgrade && !newlyAccessible then s else s.requestAck e.crossing a (e.accessible && newlyAccessible)

/-- R37, R39: an event that meets a waiting crossing, a clearance or a buffer is registered; an upgrade counts no second
press. -/
def State.register (s : State) (e : CallEvent) : State := s.registerAs (!e.upgrade) e

/-- R41: an event that fails its join or extension test is registered as R38 states (log 31). -/
def State.registerFailed (s : State) (e : CallEvent) : State := s.registerAs true e

/-! ### Join and extension (R64, R66) -/

/-- R64: the join test with the walk record's lead, under plan p at the position of the most recent tick. -/
def Plan.joins (p : Plan) (lead pos : Nat) : Bool :=
  p.inWindow pos && lead + p.minWalk + p.accessibleClearance + p.buffer ≤ p.remaining pos

/-- R64: the walk record after a join. -/
def Walk.joined (w : Walk) (p : Plan) (pos cycle : Nat) : Walk :=
  let length := p.walkLength true w.count (p.remaining pos)
  { w with
    accessible := true
    clearance := p.accessibleClearance
    walkLength := length
    release := (pos + w.count + length + p.accessibleClearance + p.buffer) % cycle }

/-- R66: the room for the walk left with the accessible clearance, when there is any: s = r − Fa − B. -/
def Plan.extensionRoom (p : Plan) (pos : Nat) : Option Nat :=
  if p.inWindow pos && p.accessibleClearance + p.buffer ≤ p.remaining pos then
    some (p.remaining pos - p.accessibleClearance - p.buffer)
  else none

/-- R66: the walk record after an extension with `room` ticks of walk. -/
def Walk.extended (w : Walk) (p : Plan) (room pos cycle : Nat) : Walk :=
  let count := min (w.count + p.extension) room
  { w with
    accessible := true
    clearance := p.accessibleClearance
    count := count
    release := (pos + count + p.accessibleClearance + p.buffer) % cycle }

/-- R64: an accessible event at a crossing in STARTING takes the join test; failing it, it is registered. -/
def State.tryJoin (s : State) (e : CallEvent) (w : Walk) (p : Option Plan) : State :=
  match p with
  | none => s.registerFailed e
  | some p =>
    if p.joins w.count s.tb.tickPos then
      s.modCrossing e.crossing fun c => { c with walk := some (w.joined p s.tb.tickPos s.tb.cycle) }
    else s.registerFailed e

/-- R66: an accessible event at a crossing in WALK takes the extension test; passing it queues EXTEND. -/
def State.tryExtend (s : State) (e : CallEvent) (w : Walk) (p : Option Plan) : State :=
  match p with
  | none => s.registerFailed e
  | some p =>
    match p.extensionRoom s.tb.tickPos with
    | none => s.registerFailed e
    | some room =>
      if w.count ≤ room then
        let w' := w.extended p room s.tb.tickPos s.tb.cycle
        (s.modCrossing e.crossing fun c => { c with walk := some w' }).notify
          (.extend e.crossing ((s.tb.tickPos + w'.count) % s.tb.cycle) w'.release)
      else s.registerFailed e

/-- R41, R64, R66: an accessible event meets a walk in hand that is not accessible. The plan is read under its check
first; a read that cancels or truncates the walk leaves the event to be registered in the state that follows. -/
def State.walkEvent (s : State) (e : CallEvent) : State :=
  let s := checkActive e.crossing s
  match (s.crossing e.crossing).state, (s.crossing e.crossing).walk with
  | .starting, some w => s.tryJoin e w (s.planInForce e.crossing)
  | .walk, some w => s.tryExtend e w (s.planInForce e.crossing)
  | .dark, _ => s
  | _, _ => s.register e

/-- R37, R39, R41: an event is handled by the interval state of its crossing. -/
def State.callEvent (s : State) (e : CallEvent) : State :=
  match (s.crossing e.crossing).state with
  | .dark => s
  | .rest | .hold | .fault | .clearance | .buffer => s.register e
  | .starting | .walk =>
    match (s.crossing e.crossing).walk with
    | none => s
    | some w => if e.accessible && !w.accessible then s.walkEvent e else s

/-! ### Press decoding (R35, R36) -/

/-- What a decoded reply says of presses (R34). -/
structure PressReport where
  sequence : Byte
  hold : Nat
  held : Bool
deriving DecidableEq, Repr

/-- The event a decoded reply makes, and the press state after it (R35, R36); the threshold is the station's. -/
def PressReport.decode (r : PressReport) (threshold : Nat) (p : PressState) : PressState × Option (Bool × Bool) :=
  match p.last with
  | none => (⟨some r.sequence, r.held⟩, none)
  | some l =>
    let long := threshold ≤ r.hold
    if r.sequence - l ≠ 0 then (⟨some r.sequence, long && r.held⟩, some (long, false))
    else if r.held && long && !p.upgraded then (⟨some l, true⟩, some (true, true))
    else (⟨some l, p.upgraded && r.held⟩, none)

/-- R35, R36: a reply of an OWNED station reporting OWNED is decoded, and its event handed to registration. -/
def State.decodePress (s : State) (a : StationId) (r : PressReport) : State :=
  match (s.station a).binding with
  | none => s
  | some b =>
    let d := r.decode b.settings.holdThreshold (s.station a).press
    let s := s.modStation a fun t => { t with press := d.1 }
    match d.2 with
    | none => s
    | some (accessible, upgrade) => s.callEvent ⟨b.crossing, b.approach, accessible, some a, upgrade⟩

end Sys2Proof.Machine
end

