-- ==== Sys2Proof/Machine/Clips.lean ====
section
/-! DEFINITION. Clip Library and Station Caches (spec 09): clips becoming and leaving VALID, mirrors, needs and transfer
jobs; and the swap of plans at a wrap (spec 02, R24), which recomputes needs. -/

namespace Sys2Proof.Machine

/-- The ClipId of a clip number, none for 0 and above 64. -/
def clipIndex (k : Nat) : Option ClipId :=
  match k with
  | 0 => none
  | i + 1 => if h : i < 64 then some ⟨i, h⟩ else none

/-- The clip number of a ClipId. -/
def clipNumber (k : ClipId) : Nat := k.val + 1

/-! ### Mirrors (R154) -/

/-- R154: a slot takes a clip number and a state, and leaves the commit order. -/
def Mirror.put (m : Mirror) (i : Fin 4) (clip : Nat) (st : MirrorState) : Mirror :=
  { slots := m.slots.set i ⟨clip, st⟩, order := m.order.filter (· ≠ i) }

/-- R154, R157: a slot is committed: RESIDENT, at the tail of the commit order. -/
def Mirror.commit (m : Mirror) (i : Fin 4) (clip : Nat) : Mirror :=
  let m := m.put i clip .resident
  { m with order := m.order ++ [i] }

/-- R153: the slots that hold a clip as RESIDENT become STALE. -/
def Mirror.staled (m : Mirror) (clip : Nat) : Mirror :=
  { m with slots := tableMap (fun x =>
      if x.clip = clip ∧ x.state = .resident then { x with state := .stale } else x) m.slots }

def allSlots : List (Fin 4) := [0, 1, 2, 3]

/-- R154: a slot's commit stamp: its place in the commit order from 1, or 0. -/
def Mirror.stamp (m : Mirror) (i : Fin 4) : Nat :=
  match m.order.findIdx? (· == i) with
  | some p => p + 1
  | none => 0

/-- R156: the slot a job is started in. -/
def Mirror.choose (m : Mirror) (needs : List ClipId) : Option (Fin 4) :=
  match allSlots.find? fun i => m.slots[i].state == .empty with
  | some i => some i
  | none =>
    match allSlots.find? fun i => m.slots[i].state == .stale with
    | some i => some i
    | none => m.order.find? fun i =>
        m.slots[i].state == .resident && !needs.any fun k => clipNumber k == m.slots[i].clip

/-! ### Needs and jobs (R155, R156) -/

def State.clipValid (s : State) (k : ClipId) : Bool := (s.clip k).state == .valid

/-- R155: a station's needs in their order: distinct, nonzero, VALID and not barred. -/
def State.needs (s : State) (a : StationId) : List ClipId :=
  match (s.station a).binding with
  | none => []
  | some b =>
    let planned := ((s.crossing b.crossing).planned.map fun r => r.plan.walkClip).getD 0
    let named := [(s.planValues b.crossing).walkClip, planned, b.settings.locateClip].filterMap clipIndex
    (named.filter fun k => s.clipValid k && !(s.station a).barred.contains k).foldl
      (fun l k => if l.contains k then l else l ++ [k]) []

/-- R156: a job for a clip is started in a slot. -/
def State.startJob (s : State) (a : StationId) (k : ClipId) (i : Fin 4) : State :=
  let total := (s.clip k).blocks
  s.modStation a fun t => { t with
    mirror := t.mirror.put i (clipNumber k) .filling
    job := some ⟨i, k, .opening, 0, total, 1⟩ }

/-- R155: a station without a job that has a need not RESIDENT starts one for the first such need. -/
def State.serveNeeds (s : State) (a : StationId) : State :=
  let t := s.station a
  if t.job.isSome then s
  else
    match (s.needs a).find? fun k => !t.mirror.holds (clipNumber k) with
    | none => s
    | some k =>
      match t.mirror.choose (s.needs a) with
      | none => s
      | some i => s.startJob a k i

/-- R155: the needs of an OWNED station are recomputed, its crossing's plans read under their checks. -/
def State.recomputeNeeds (s : State) (a : StationId) : State :=
  match (s.station a).owner, (s.station a).binding with
  | .owned, some b => (checkPlanned b.crossing (checkActive b.crossing s)).serveNeeds a
  | _, _ => s

/-- R155: the needs of each station of a list, in its order (log 36). -/
def State.recomputeAll (s : State) (l : List StationId) : State :=
  forEach l (fun a s => s.recomputeNeeds a) s

/-- R155: the needs of every OWNED station are recomputed, crossing by crossing (logs 36, 43). -/
def State.recomputeEvery (s : State) : State :=
  forCrossings Crossing.flawed (fun n s => s.recomputeAll (s.ownedAt n)) s

/-! ### Clips becoming and leaving VALID (R153) -/

/-- R108, R114: the outcome of a transaction in progress for a station is to be discarded. -/
def State.discardOutcome (s : State) (a : StationId) (carries : Item → Bool) : State :=
  match s.link.activity with
  | .transaction t =>
    if t.station = a ∧ carries t.item then
      s.modLink fun l => { l with activity := .transaction { t with discard := true } }
    else s
  | _ => s

/-- The transactions of a transfer job. -/
def Item.ofJob : Item → Bool
  | .slotOpen | .block | .slotCommit => true
  | _ => false

/-- R153: a job is abandoned: its slot becomes EMPTY and a transaction of it on the line is discarded. -/
def State.abandonJob (s : State) (a : StationId) : State :=
  match (s.station a).job with
  | none => s
  | some j =>
    (s.discardOutcome a Item.ofJob).modStation a fun t =>
      { t with job := none, mirror := t.mirror.put j.slot 0 .empty }

/-- R153: a clip leaves VALID, at one station: RESIDENT slots become STALE and a job for the clip is abandoned. -/
def State.clipLeavesAt (s : State) (k : ClipId) (a : StationId) : State :=
  let s := s.modStation a fun t => { t with mirror := t.mirror.staled (clipNumber k) }
  if (s.station a).job.any fun j => j.clip == k then s.abandonJob a else s

/-- R153: a clip has left VALID. -/
def State.clipLeftValid (s : State) (k : ClipId) : State :=
  (forEach allStations (fun a s => s.clipLeavesAt k a) s).recomputeEvery

/-- R153: a clip that became VALID leaves a station's barred set; a set that empties clears the clip fault flag. -/
def State.unbar (s : State) (k : ClipId) (a : StationId) : State :=
  if (s.station a).barred.contains k then
    let left := (s.station a).barred.filter (· ≠ k)
    let s := s.modStation a fun t => { t with barred := left }
    if left.isEmpty then (s.modStation a fun t => { t with clipFault := false }).notifyStation a else s
  else s

/-- R153: a clip has become VALID; the stations it frees are told in ascending address (log 36), and the needs of
every OWNED station are recomputed. -/
def State.clipBecameValid (s : State) (k : ClipId) : State :=
  (forEach allStations (fun a s => s.unbar k a) s).recomputeEvery

/-! ### The end of a job (R157) -/

/-- R157: the station's answer to a SLOT COMMIT that ended OK. -/
def State.commitAnswer (s : State) (a : StationId) (good : Bool) : State :=
  match (s.station a).job with
  | none => s
  | some j =>
    if good then
      (s.modStation a fun t =>
        { t with job := none, mirror := t.mirror.commit j.slot (clipNumber j.clip) }).recomputeNeeds a
    else if j.attempt = 1 then
      s.modStation a fun t => { t with job := some { j with state := .opening, next := 0, attempt := 2 } }
    else
      let fresh := (s.station a).barred.isEmpty
      let s := s.modStation a fun t => { t with
        job := none
        mirror := t.mirror.put j.slot 0 .empty
        barred := if t.barred.contains j.clip then t.barred else t.barred ++ [j.clip] }
      let s := if fresh then (s.modStation a fun t => { t with clipFault := true }).notifyStation a else s
      s.recomputeNeeds a

/-! ### The swap (R24) -/

/-- R24: the swap of one crossing at a wrap. -/
def State.swapAt (s : State) (n : CrossingId) : State :=
  if (s.crossing n).planned.isNone ∨ (s.crossing n).state.swaps = false then s
  else
    let s := checkPlanned n s
    match (s.crossing n).planned with
    | none => s
    | some r =>
      let s := s.modCrossing n fun c => { c with active := some r, planned := none, unusable := false }
      let s := (s.evaluateWindow n).recomputeAll (s.ownedAt n)
      if (s.crossing n).state.waitsLit then s.queuePlays checkActive n else s

/-- R24: a wrap reaches the Plan Store. -/
def State.swapAll (s : State) : State := forEach allCrossings (fun n s => s.swapAt n) s

end Sys2Proof.Machine
end

