-- ==== Sys2Proof/Machine/Stations.lean ====
section
/-! DEFINITION. The Station Table (spec 07): ownership, take-over, loss, return, reversion, and the taking of a poll
reply. -/

namespace Sys2Proof.Machine

/-! ### Leaving part control (R108, R128, R154) -/

/-- R108: a station's work is cleared at once, and the outcome of a transaction in progress for it is discarded. -/
def State.clearWork (s : State) (a : StationId) : State :=
  (s.discardOutcome a fun _ => true).modStation a fun t => { t with urgent := [], settings := {}, job := none }

/-- R32, R108, R133, R154: what every station that leaves part control loses: its work, its mirror, its press state and
its held content. -/
def State.dropControl (s : State) (a : StationId) : State :=
  (s.clearWork a).modStation a fun t => { t with mirror := {}, press := {}, held := none }

/-- R128: a station goes to LOCAL. -/
def State.toLocal (s : State) (a : StationId) : State :=
  (s.dropControl a).modStation a fun t => { t with owner := .local, failures := 0 }

/-- R122, R128: a station in TAKING, OWNED or LOST goes to LOCAL. -/
def State.revert (s : State) (a : StationId) : State :=
  if (s.station a).partHeld then s.toLocal a else s

/-! ### Take-over (R123) -/

/-- R123: the settings set of a take-over: TAKE-OVER, CONFIG and every pattern now defined. -/
def State.takeOverSet (s : State) : SettingsSet :=
  { takeOver := true
    config := true
    patterns := allPatterns.foldl (fun m k => if (s.patterns[k]).isSome then m ||| patternBit k else m) 0 }

/-- R123: entry to TAKING. -/
def State.enterTaking (s : State) (a : StationId) : State :=
  (s.dropControl a).modStation a fun t => { t with
    owner := .taking, failures := 0, clipFault := false, barred := [], settings := s.takeOverSet }

/-- R121, R123: a bound LOCAL station becomes TAKING. Where no request of the host is the cause (`tell`), a clip fault flag
that this clears is told in a STATION notice (R130). -/
def State.takeOverAt (tell : Bool) (a : StationId) (s : State) : State :=
  if (s.station a).owner = .local ∧ (s.station a).binding.isSome then
    let cleared := (s.station a).clipFault
    let s := s.enterTaking a
    if tell && cleared then s.notifyStation a else s
  else s

/-- R121, R110, R113: while CONFIGURED is set and the link is ready, every bound LOCAL station becomes TAKING, in ascending
address (log 36). -/
def State.takeOverBound (tell : Bool) (s : State) : State :=
  if s.configured && s.linkReady then forEach allStations (State.takeOverAt tell) s else s

/-- R118, R119: a newly bound station becomes TAKING when CONFIGURED is set and the link is ready, LOCAL otherwise. -/
def State.takeOrLeave (s : State) (a : StationId) : State :=
  if s.configured && s.linkReady then s.enterTaking a
  else s.modStation a fun t => { t with owner := .local }

/-! ### Loss (R107, R126) -/

/-- R126: a station becomes LOST. -/
def State.becomeLost (s : State) (a : StationId) : State :=
  ((s.dropControl a).modStation a fun t =>
    { t with owner := .lost, failures := Config.failureLimit }).notifyStation a

/-- R107, R126: a failure is counted against a station under control; a LOST station's count stays. -/
def State.countFailure (s : State) (a : StationId) : State :=
  if (s.station a).controlled then
    if Config.failureLimit ≤ (s.station a).failures + 1 then s.becomeLost a
    else s.modStation a fun t => { t with failures := t.failures + 1 }
  else s

/-- R107: an OK outcome sets the count to 0. -/
def State.clearFailures (s : State) (a : StationId) : State :=
  s.modStation a fun t => { t with failures := 0 }

/-! ### Entry to OWNED (R124) -/

/-- R124: a TAKING station whose settings set has emptied becomes OWNED. The plan is read before its PLAY is built;
where the read moves the crossing to another state, that move has queued the PLAY. -/
def State.becomeOwned (s : State) (a : StationId) : State :=
  let s := (s.modStation a fun t => { t with owner := .owned }).notifyStation a
  match (s.station a).binding with
  | none => s
  | some b =>
    let s' := checkActive b.crossing s
    let s := if (s'.crossing b.crossing).state = (s.crossing b.crossing).state then s'.queuePlayTo a else s'
    s.recomputeNeeds a

/-! ### Poll replies (R125, R127) -/

/-- What a poll reply that ended OK carries (Table 12-14). -/
structure PollReport where
  mode : StationMode
  press : PressReport
  sounding : Bool
  speaker : Bool
  tactile : Bool
  microphone : Bool
  ambient : Byte
deriving DecidableEq, Repr

/-- Table 12-14, R177: the fields of a poll reply; a mode byte of 1 reports OWNED and any other LOCAL. -/
def pollReport (reply : KerbReply) : PollReport :=
  let flags := replyByte reply 5
  { mode := if replyByte reply 2 = 1 then .owned else .local
    press := ⟨replyByte reply 3, (replyByte reply 4).toNat, flags.getLsbD 0⟩
    sounding := flags.getLsbD 1
    speaker := flags.getLsbD 2
    tactile := flags.getLsbD 3
    microphone := flags.getLsbD 4
    ambient := replyByte reply 6 }

/-- R125: MIC is set while the reply reports a microphone fault or carries no reading. -/
def PollReport.mic (r : PollReport) : Bool := r.microphone || r.ambient == 255

/-- R125: the last reported mode and the fault flags are taken from a reply. -/
def Station.report (t : Station) (r : PollReport) : Station :=
  { t with lastMode := some r.mode, speaker := r.speaker, tactile := r.tactile, mic := r.mic }

/-- R125: the reply changes one of the three fault flags. -/
def Station.flagsChange (t : Station) (r : PollReport) : Bool :=
  t.speaker != r.speaker || t.tactile != r.tactile || t.mic != r.mic

/-- R125: the mode and the flags are taken, with a STATION notice where a flag changes. -/
def State.takeReport (s : State) (a : StationId) (r : PollReport) : State :=
  let changed := (s.station a).flagsChange r
  let s := s.modStation a fun t => t.report r
  if changed then s.notifyStation a else s

/-- R142: the reply of an OWNED station gives an accepted sample. -/
def PollReport.gives (r : PollReport) : Bool := r.ambient != 255 && !r.microphone && !r.sounding

/-- R142: the ambient sample of a reply is taken, where the reply gives one. -/
def State.sampleFrom (s : State) (a : StationId) (r : PollReport) : State :=
  if r.gives then s.takeSample a r.ambient else s

/-- R102, R147: the press and the ambient sample of one reply. They touch different state, and their order cannot be seen,
but where the read that the press makes finds the active record damaged and builds a PLAY for this station: there R147 leaves
the order open, and it is a free value (log 41). -/
def State.pressAndSample (s : State) (a : StationId) (r : PollReport) : State :=
  if (s.station a).binding.any fun b => (s.crossing b.crossing).damaged then
    let drawn := { s with draws := s.draws + 1 }
    if Config.sampleFirst s.draws then (drawn.sampleFrom a r).decodePress a r.press
    else (drawn.decodePress a r.press).sampleFrom a r
  else (s.decodePress a r.press).sampleFrom a r

/-- R102, R125, R127: a poll or probe has ended OK. The mode and the flags are taken before the press and the sample
(log 19). -/
def State.pollOk (s : State) (a : StationId) (r : PollReport) : State :=
  let s := s.clearFailures a
  match (s.station a).owner, r.mode with
  | .owned, .owned => (s.takeReport a r).pressAndSample a r
  | .owned, .local => ((s.modStation a fun t => t.report r).enterTaking a).notifyStation a
  | .taking, _ => s.takeReport a r
  | .lost, _ => ((s.modStation a fun t => t.report r).enterTaking a).notifyStation a
  | _, _ => s

/-! ### Reversion (R111, R128) -/

/-- R111, R128: the line-fault reversion: every OWNED, TAKING or LOST station goes LOCAL, one STATION notice each, in
ascending address (log 36). -/
def State.lineFaultRevert (s : State) : State :=
  forEach allStations (fun a s =>
    if (s.station a).partHeld then (s.toLocal a).notifyStation a else s) s

end Sys2Proof.Machine
end

