-- ==== Sys2Proof/Machine/KerbLink.lean ====
section
/-! DEFINITION. The Kerb Link (spec 06): frames, beacons, the periodic and asynchronous phases, and the settling of
transactions. When a transaction ends, the next one of the frame is begun in the same step (log 10). -/

namespace Sys2Proof.Machine

/-! ### Beginning transactions (R101, R106) -/

/-- A message of so many microseconds is begun on the line. -/
def State.begin (s : State) (activity : Activity) (bytes : List Byte) (micros : Nat) : State :=
  s.modLink fun l => { l with activity := activity, sent := bytes, used := l.used + micros }

/-- R101: the station is polled in a frame of this number. -/
def Station.polledIn (t : Station) (a : StationId) (frame : Byte) : Bool :=
  t.controlled || (t.owner == .lost && frame.toNat % 10 == (a.val + 1) % 10)

/-- R106: the order of the asynchronous phase's visits: ascending from the address after the pointer, wrapping. -/
def visitOrder (pointer : StationId) : List StationId :=
  (allStations.filter fun a => pointer < a) ++ allStations.filter fun a => a ≤ pointer

/-- R105, R178: the bytes of a job's block: 128 from byte 128·i, or the shorter remainder. -/
def Clip.block (c : Clip) (i : Nat) : List Byte := (c.data.drop (Config.blockBytes * i)).take Config.blockBytes

/-- R105: the next transaction of a job, with its bytes. -/
def State.jobMessage (s : State) (a : StationId) (j : Job) : Item × List Byte :=
  match j.state with
  | .opening => (.slotOpen, slotOpenBytes a j.slot j.clip (s.clip j.clip).length)
  | .sending => (.block, blockBytes a j.slot j.next ((s.clip j.clip).block j.next))
  | .committing => (.slotCommit, slotCommitBytes a j.slot j.clip (s.clip j.clip).check)

/-- R104: a settings transaction carries the value of its setting as it stands. -/
def State.settingMessage (s : State) (a : StationId) : Setting → Item × List Byte
  | .takeOver => (.takeOver, takeOverBytes a)
  | .config => (.config, match (s.station a).binding with
    | none => []
    | some b => configBytes a b.settings)
  | .pattern k => (.pattern k, patternBytes a k (s.patterns[k]))
  | .level => (.level, levelBytes a (s.station a).level)

/-- R106: the one transaction a visit offers a station: the head of its urgent list, else the first item of its settings
set, else its job's next transaction. -/
def State.offer (s : State) (a : StationId) : Option (Item × List Byte) :=
  let t := s.station a
  match t.urgent with
  | .play p :: _ => some (.play p, playBytes a p)
  | .ack k :: _ => some (.ack, ackBytes a k)
  | [] =>
    match t.settings.first with
    | some x => some (s.settingMessage a x)
    | none => t.job.map (s.jobMessage a)

/-- R106: the late-start test of the frame for a transaction of this duration. -/
def Link.timeFor (l : Link) (micros : Nat) : Bool :=
  l.used + micros + Config.guardMicros ≤ Config.frameMicros

/-- R106: the next visit of the asynchronous phase; it ends when no station has work or the late-start test fails. -/
def State.asynchronous (s : State) : State :=
  let idle := s.modLink fun l => { l with activity := .idle }
  match (visitOrder s.link.pointer).find? fun a => (s.station a).hasWork with
  | none => idle
  | some a =>
    match s.offer a with
    | none => idle
    | some (item, bytes) =>
      let micros := durationOf bytes.length item.replyBytes
      if s.link.timeFor micros then s.begin (.transaction ⟨a, item, false, false⟩) bytes micros else idle

/-- R101: the next poll of the periodic phase from a position of the address order, or the asynchronous phase. -/
def State.periodicFrom (s : State) (i : Nat) : State :=
  match allStations.find? fun a => i ≤ a.val && (s.station a).polledIn a s.link.frame with
  | none => s.asynchronous
  | some a =>
    let bytes := pollBytes a s.link.frame
    s.begin (.transaction ⟨a, .poll, false, false⟩) bytes (durationOf bytes.length 12)

/-! ### Frames and beacons (R98, R99, R110, R113) -/

/-- R99: the CONFIGURED bit of a beacon. -/
def State.configuredBit (s : State) : Bool := s.configured && s.link.quiet == 0

/-- R99, R110: a beacon is sent. -/
def State.sendBeacon (s : State) (retried : Bool) : State :=
  s.begin (.beacon retried) (beaconBytes s.link.frame s.configuredBit) Config.beaconMicros

/-- R98: the frame in progress ends and a new one opens with its number. -/
def Link.opened (l : Link) : Link :=
  { l with
    frame := if l.keepNumber then l.frame else l.frame + 1
    keepNumber := false
    used := 0
    activity := .idle
    closed := l.quiet != 0 }

/-- R110: one frame of a line in FAULT: its age and retry count, the reversion at the age limit (R111), and the beacon
attempt at the retry limit. -/
def State.faultFrame (s : State) : State :=
  let reaches := s.link.faultAge < Config.faultAgeLimit ∧ Config.faultAgeLimit ≤ s.link.faultAge + 1
  let attempt := Config.retryLimit ≤ s.link.retry + 1
  let s := s.modLink fun l => { l with
    faultAge := min Config.faultAgeLimit (l.faultAge + 1)
    retry := if attempt then 0 else l.retry + 1 }
  let s := if reaches then s.lineFaultRevert else s
  if attempt then s.sendBeacon true else s

/-- R98, R113: a tick in RUNNING opens a frame: the beacon the line state calls for, then the count of a quiet period. -/
def State.openFrame (s : State) : State :=
  let s := s.modLink Link.opened
  let s := match s.link.line with
    | .up => s.sendBeacon false
    | .fault => s.faultFrame
  s.modLink fun l => { l with quiet := l.quiet - 1 }

/-- R99: the four bytes heard agree with the four sent. -/
def echoAgrees (h : Heard) (sent : List Byte) : Bool :=
  [h.b0, h.b1, h.b2, h.b3] == sent.map some

/-- R98, R99: what follows a good beacon in its frame. -/
def State.afterBeacon (s : State) : State :=
  if s.link.closed then s.modLink fun l => { l with activity := .idle } else s.periodicFrom 0

/-- R99: the beacon of a line that is UP is judged. The end of a quiet period takes the bound stations over once its
frame's beacon is good (R113, log 12). -/
def State.judgeBeacon (s : State) (h : Heard) : State :=
  if echoAgrees h s.link.sent then
    (if s.link.closed then s.takeOverBound true else s).afterBeacon
  else s.modLink fun l => { l with line := .fault, faultAge := 0, retry := 0, activity := .idle }

/-- R110: a beacon attempted in FAULT is judged: good, the line recovers and the frame goes on; bad, the line stays in
FAULT with its age and count. -/
def State.judgeRetry (s : State) (h : Heard) : State :=
  if echoAgrees h s.link.sent then
    ((s.modLink fun l => { l with line := .up, faultAge := 0, retry := 0 }).takeOverBound true).afterBeacon
  else s.modLink fun l => { l with activity := .idle }

/-! ### Ends of transactions (R105 to R109, R140) -/

/-- R107: the first entry of an urgent list that is a PLAY, or an ACK, is removed. -/
def urgentRemove (l : List Urgent) (play : Bool) : List Urgent := l.filter fun v => v.isPlay != play

/-- R109: frame g is later than launch frame f. -/
def laterThan (g f : Byte) : Bool := 1 ≤ (g - f).toNat && (g - f).toNat ≤ 127

/-- R107, R109, R140: a PLAY ended OK: its entry goes unless replaced, lateness is checked, and its content is held. -/
def State.playDelivered (s : State) (a : StationId) (p : Play) (again : Bool) : State :=
  let late := laterThan s.link.frame p.launch
  s.modStation a fun t => { t with
    urgent := if again then t.urgent else urgentRemove t.urgent true
    latePlay := t.latePlay || late
    held := some p }

/-- R107: an ACK ended OK: its entry goes unless replaced. -/
def State.ackDelivered (s : State) (a : StationId) (again : Bool) : State :=
  s.modStation a fun t => { t with urgent := if again then t.urgent else urgentRemove t.urgent false }

/-- R107, R124: a settings item ended OK: it goes unless marked again, and a TAKING station whose set has emptied becomes
OWNED. -/
def State.settingDelivered (s : State) (a : StationId) (x : Setting) (again : Bool) : State :=
  if again then s
  else
    let s := s.modStation a fun t => { t with settings := t.settings.remove x }
    if (s.station a).owner = .taking ∧ (s.station a).settings = {} then s.becomeOwned a else s

/-- R105: a job's SLOT OPEN ended OK. -/
def Job.opened (j : Job) : Job := { j with state := .sending, next := 0 }

/-- R105: a job's BLOCK ended OK. -/
def Job.blockSent (j : Job) : Job :=
  { j with next := j.next + 1, state := if j.next + 1 = j.total then .committing else .sending }

/-- R105: a change of a station's job. -/
def State.modJob (s : State) (a : StationId) (f : Job → Job) : State :=
  s.modStation a fun t => { t with job := t.job.map f }

/-- R106: what the link does after a transaction: at the end of a visit the pointer moves to its station; then follows
the next poll after a poll, otherwise the next visit. A closed frame carries nothing further (R112, log 13). -/
def State.proceed (s : State) (t : Transaction) : State :=
  let s := if t.item = .poll then s else s.modLink fun l => { l with pointer := t.station }
  if s.link.closed then s
  else if t.item = .poll then s.periodicFrom (t.station.val + 1)
  else s.asynchronous

/-- R107, R108: the transaction in progress has ended. Its outcome is discarded where the work was cleared; a failure is
counted; an OK outcome sets the count to 0 and settles the item as `onOk` says. -/
def State.endTransaction (s : State) (t : Transaction) (reply : KerbReply) (onOk : State → State) : State :=
  let s := s.modLink fun l => { l with activity := .idle }
  let s := if t.discard then s
    else match judge t.station t.item reply with
      | .ok => onOk (s.clearFailures t.station)
      | .noReply | .bad => s.countFailure t.station
  s.proceed t

/-- The end of the transaction in progress, where it carries the item the command names; otherwise nothing ends
(log 10). -/
def State.onTransaction (s : State) (carries : Item → Bool) (f : Transaction → State) : State :=
  match s.link.activity with
  | .transaction t => if carries t.item then f t else s
  | _ => s

/-! ### Kerb reset (R112) -/

/-- R112: one station at a kerb reset: its work and mirror are cleared, and bound it goes to LOCAL. -/
def State.kerbResetAt (s : State) (a : StationId) : State :=
  if (s.station a).binding.isSome then s.toLocal a else s.dropControl a

/-- R112: the kerb reset. A transaction in progress runs to its end with its outcome discarded. -/
def State.kerbReset (s : State) : State :=
  (forEach allStations (fun a s => s.kerbResetAt a) s).modLink fun l => { l with
    frame := 0, keepNumber := true, quiet := Config.quietFrames, pointer := 23, closed := true }

end Sys2Proof.Machine
end

