-- ==== Sys2Proof/Machine/StartUpOps.lean ====
section
/-! DEFINITION. Start-up and Self-Test (spec 11): the self-test start, the completion of a check, the end of the test. -/

namespace Sys2Proof.Machine

/-- R148, R171: what a self-test start after RESTART makes of a clip: LOADING becomes EMPTY, VALID stays. -/
def Clip.restarted (c : Clip) : Clip :=
  match c.state with
  | .valid => c
  | .empty | .loading => {}

/-- R171, Table 11-1: the Start-up Sequencer at a self-test start, one number on (log 38). -/
def StartUp.restarted (u : StartUp) : StartUp := { number := u.number + 1 }

/-- R172: the completed check is the one in progress, in the self-test in progress. -/
def StartUp.awaits (u : StartUp) (found : CheckInputs) : Bool :=
  u.operating == .selfTest && u.number == found.selfTest && u.check == some found.check

/-- R170, R171: the self-test start of a RESTART: every block takes its values after restart, the Clip Library keeps its
VALID clips and its flag, and the commands that wait go on waiting. -/
def State.selfTestStart (s : State) : State :=
  { State.reset with
    libraryEnabled := s.libraryEnabled
    clips := tableMap Clip.restarted s.clips
    startUp := s.startUp.restarted
    draws := s.draws
    pending := s.pending }

/-- Table 11-2: the check after a check. -/
def Check.next : Check → Option Check
  | .configRom => some .workMemory
  | .workMemory => some .planMemory
  | .planMemory => some .clipMemory
  | .clipMemory => some .headDrivers
  | .headDrivers => some .kerbLine
  | .kerbLine => some .streetLine
  | .streetLine => none

def CheckSet.add (c : CheckSet) : Check → CheckSet
  | .configRom => { c with configRom := true }
  | .workMemory => { c with workMemory := true }
  | .planMemory => { c with planMemory := true }
  | .clipMemory => { c with clipMemory := true }
  | .headDrivers => { c with headDrivers := true }
  | .kerbLine => { c with kerbLine := true }
  | .streetLine => { c with streetLine := true }

/-- R172: a channel fails when less than half its pulse is sensed, or a short is. -/
def pulseFails (p : Pulse) : Bool := p.short || 2 * p.sensed < p.driven

/-- R172: some channel fails its pulse. -/
def pulsesFail (v : Vector Pulse 16) : Bool := v.toList.any pulseFails

/-- R172, Table 12-12: the beacon of the KERB_LINE check: frame number 0, the CONFIGURED bit clear. -/
def testBeacon : List Byte := beaconBytes 0 false

/-- R172: a check passes with what it found. -/
def Check.passes (c : Check) (found : CheckInputs) : Bool :=
  match c with
  | .headDrivers => !pulsesFail found.pulses
  | .kerbLine => echoAgrees found.heard testBeacon
  | _ => found.good

/-- R172: CLIP_MEMORY re-reads a VALID clip: one that no longer verifies becomes EMPTY. -/
def Clip.reverified (c : Clip) : Clip := if c.state = .valid ∧ c.verifies = false then {} else c

/-- R172: the failure of one channel's pulse: disabled, listed, and its cause added without a notice. -/
def State.pulseFailed (s : State) (n : CrossingId) (x : Aspect) : State :=
  let s := s.disableChannel n x
  let s := s.modCrossing n fun c => { c with causes := c.causes.add (lampCause x) }
  s.modStartUp fun u => { u with failedChannels := u.failedChannels.set (channelIndex n x) true }

/-- R172: the pulses of HEAD_DRIVERS, channels 1 to 16 in turn. -/
def State.pulseAll (s : State) (v : Vector Pulse 16) : State :=
  forEach allCrossings (fun n s =>
    let s := if pulseFails v[channelIndex n .walk] then s.pulseFailed n .walk else s
    if pulseFails v[channelIndex n .dont] then s.pulseFailed n .dont else s) s

/-- R172: PLAN_MEMORY leaves every slot of the Plan Store empty. -/
def Crossing.emptied (c : Crossing) : Crossing := { c with active := none, planned := none, unusable := false }

/-- R172, Table 11-2: the effect of a completed check beside the sets. -/
def State.checkEffect (s : State) (c : Check) (found : CheckInputs) : State :=
  match c with
  | .planMemory => { s with crossings := tableMap Crossing.emptied s.crossings }
  | .clipMemory =>
    if found.good then { s with libraryEnabled := true, clips := tableMap Clip.reverified s.clips }
    else { s with libraryEnabled := false, clips := tableMap (fun _ => {}) s.clips }
  | .headDrivers => s.pulseAll found.pulses
  | .kerbLine =>
    if c.passes found then s
    else s.modLink fun l => { l with line := .fault, faultAge := 0, retry := 0 }
  | _ => s

/-- R173: the self-test ends: the state is entered, and a START-UP notice is queued. The first frame after RUNNING is
entered keeps its number (R98). -/
def State.endSelfTest (s : State) (o : OperatingState) : State :=
  let s := s.modStartUp fun u => { u with operating := o, check := none }
  let s := if o = .running then s.modLink fun l => { l with keepNumber := true } else s
  s.notify (.startUp s.startUp.done s.startUp.failed o)

/-- R172, R173: the check in progress completes. -/
def State.completeCheck (s : State) (c : Check) (found : CheckInputs) : State :=
  let pass := c.passes found
  let s := s.modStartUp fun u => { u with
    done := u.done.add c
    failed := if pass then u.failed else u.failed.add c
    check := c.next }
  let s := s.checkEffect c found
  match c with
  | .configRom | .workMemory => if pass then s else s.endSelfTest .halted
  | .streetLine => s.endSelfTest .running
  | _ => s

end Sys2Proof.Machine
end

