-- ==== Sys2Proof/Machine/TimebaseOps.lean ====
section
/-! DEFINITION. The Cycle Timebase (spec 01): the tick, freshness, drift, SYNC; and the whole of a tick, which the other
blocks' tick work joins. -/

namespace Sys2Proof.Machine

/-! ### The tick's advance (R2, R3) -/

/-- R2: the amount a tick advances the position by. -/
def Timebase.advanceBy (t : Timebase) : Nat :=
  if t.cycle = 0 then 0 else if 0 < t.correction then 2 else if t.correction < 0 then 0 else 1

/-- R2: the correction after a tick: one unit nearer to 0. -/
def Timebase.correctionLeft (t : Timebase) : Int :=
  if t.cycle = 0 then 0
  else if 0 < t.correction then t.correction - 1 else if t.correction < 0 then t.correction + 1 else 0

/-- R3: the tick's advance carries the position through the top of the cycle. -/
def Timebase.wraps (t : Timebase) : Bool := t.cycle != 0 && t.cycle ≤ t.pos + t.advanceBy

/-- R2: the position a tick produces. -/
def Timebase.nextPos (t : Timebase) : Nat :=
  if t.cycle = 0 then 0
  else if t.wraps then t.pos + t.advanceBy - t.cycle else t.pos + t.advanceBy

/-- R2: the position and the correction after a tick. -/
def Timebase.advanced (t : Timebase) : Timebase :=
  { t with pos := t.nextPos, tickPos := t.nextPos, correction := t.correctionLeft }

/-! ### Freshness (R11) -/

/-- R11, R71: presence becomes LOST: the correction is cleared, CYCLE LOST is queued, and each crossing acts on the loss, in an
order that R95 leaves free where two or more have a walk to end (log 43). -/
def State.loseHost (s : State) : State :=
  let s := (s.modTimebase fun t =>
    { t with presence := .lost, fresh := Config.freshLimit, correction := 0 }).notify (.cycle .lost)
  forCrossings (fun c => c.state == .starting || c.state == .walk) (fun n s => s.hostLossAt n) s

/-- R11: a tick counts freshness. -/
def State.countFreshness (s : State) : State :=
  match s.tb.presence with
  | .lost => s
  | .present =>
    if Config.freshLimit ≤ s.tb.fresh + 1 then s.loseHost
    else s.modTimebase fun t => { t with fresh := t.fresh + 1 }

/-! ### The whole tick (R2, R55) -/

/-- A difference appears in a store (R27, R148): a record's check no longer agrees, or a stored byte is another. -/
def State.upset (s : State) (u : Upset) : State :=
  let damaged (correctable : Bool) (r : SlotRecord) : SlotRecord :=
    { r with check := if correctable && r.check != .uncorrectable then .correctable else .uncorrectable }
  match u with
  | .plan n .active correctable =>
    s.modCrossing n fun c => { c with active := c.active.map (damaged correctable) }
  | .plan n .planned correctable =>
    s.modCrossing n fun c => { c with planned := c.planned.map (damaged correctable) }
  | .clipByte k i v => s.setClip k { s.clip k with data := (s.clip k).data.set i v }

/-- The differences of a list appear in turn. -/
def State.upsets (s : State) (l : List Upset) : State := l.foldl State.upset s

/-- A change made only where a flag is set. -/
def State.when (s : State) (b : Bool) (f : State → State) : State := if b then f s else s

/-- Every piece of a tick's work, in the order taken where the inputs name none. -/
def allWork : List TickWork :=
  [.freshness, .swap] ++ allCrossings.map .crossing ++ (allCrossings.flatMap fun n => [.test n .walk, .test n .dont])
    ++ [.ramps]

/-- The order of a tick's work: each piece once, those the inputs name first. -/
def workOf (i : TickInputs) : List TickWork := distinct (i.order ++ allWork)

/-- R55, Table 4-2: a walk that this tick truncated before the crossing's own work has its clearance counted from this very
tick on, so its buffer ends one tick sooner than one truncated after that work (log 42). `was` is the state the tick found. -/
def State.releaseAtThisTick (was : State) (n : CrossingId) (s : State) : State :=
  if (was.crossing n).state = .walk ∧ (s.crossing n).state = .clearance then
    s.modCrossing n fun c => c.modWalk fun w =>
      { w with release := (s.tb.pos + w.clearance + w.buffer - 1) % s.tb.cycle }
  else s

/-- One piece of a tick's work; the swap is made where the tick made a wrap. `was` is the state the tick found. -/
def State.doWork (was : State) (load : Vector Nat 16) (wrap : Bool) (w : TickWork) (s : State) : State :=
  match w with
  | .crossing n => (State.releaseAtThisTick was n s).tickCrossing n
  | .swap => s.when wrap State.swapAll
  | .freshness => s.countFreshness
  | .ramps => s.rampAll
  | .test n x => s.testChannel load[channelIndex n x] n x

/-- R2, R55, R98: a tick. The position moves; a frame opens in RUNNING; then comes the tick's work in the order of the
inputs; the differences of the stores come last. -/
def State.tick (s : State) (i : TickInputs) : State :=
  let was := s
  let wrap := s.tb.wraps
  let s := s.modTimebase Timebase.advanced
  let s := s.when s.running State.openFrame
  let s := forEach (workOf i) (State.doWork was i.load wrap) s
  s.upsets i.upsets

/-! ### SYNC (R5 to R10) -/

/-- R6: the drift d between the host's position and the local one on cycle length c. -/
def driftOf (host loc c : Nat) : Int :=
  let u := cycleSub host loc c
  if u ≤ c / 2 then (u : Int) else (u : Int) - c

/-- R8, R10: a step by drift d from position `loc` makes a wrap. -/
def stepWraps (d : Int) (loc c : Nat) : Bool := 0 < d && (c : Int) ≤ loc + d

/-- R13, R70: the bits of the mask in force that fall with an accepted SYNC carrying this mask. -/
def State.fallingPermits (s : State) (mask : Byte) : List CrossingId :=
  allCrossings.filter fun n => s.permit n && !mask.getLsbD n.val

/-- R14, R90, R146: a change of the day/night flag reaches the Head Outputs and every bound station's level. -/
def State.dayNightChanged (s : State) : State :=
  forEach allStations (fun a s => if (s.station a).binding.isSome then s.reevaluateLevel a else s) s.retargetHeads

/-- R26, R56: a new cycle length is in force: a crossing that enters or leaves the out-of-plan condition has its window
evaluated, its record read under the check (in a free order where two or more reads find errors, log 43). `was` is the state before the length changed. -/
def State.cycleChanged (was : State) (s : State) : State :=
  forCrossings Crossing.flawed (fun n s =>
    let s := checkActive n s
    if s.outOfPlan n = was.outOfPlan n then s else s.evaluateWindow n) s

/-- The position and the cycle length become those carried, and the pending correction is cleared (R8, R9, R10). -/
def State.stepTo (s : State) (cycle pos : Nat) : State :=
  s.modTimebase fun t => { t with cycle := cycle, pos := pos, correction := 0 }

/-- R9, R10: a step to a new cycle length. -/
def State.lengthStep (s : State) (cycle pos : Nat) : State := State.cycleChanged s (s.stepTo cycle pos)

/-- R5 to R10: the position is handled, by the presence and the cycle length the SYNC found. Its CYCLE notices come
before the notices that crossings queue at the step (log 19). -/
def State.syncPosition (s : State) (found : Presence) (cycle pos : Nat) : State :=
  let c := s.tb.cycle
  let d := driftOf pos s.tb.pos c
  let wrap := stepWraps d s.tb.pos c
  match found with
  | .lost =>
    if c = 0 then s.lengthStep cycle pos
    else
      let s := s.notify (.cycle .regained)
      if cycle = c then (s.stepTo cycle pos).when wrap State.swapAll
      else (s.notify (.cycle .length)).lengthStep cycle pos
  | .present =>
    if cycle ≠ c then (s.notify (.cycle .length)).lengthStep cycle pos
    else if d.natAbs ≤ Config.driftLimit then s.modTimebase fun t => { t with correction := d }
    else ((s.notify (.cycle .step)).stepTo cycle pos).when wrap State.swapAll

/-- R13, R14: the day/night flag takes the value carried, and its change reaches the other blocks. -/
def State.turn (s : State) (d : DayNight) : State := (s.modTimebase fun t => { t with dayNight := d }).dayNightChanged

/-- The effects of an accepted SYNC that may meet: the permits that fall, a change of day and night, the position. -/
def State.syncWorks (s : State) (mask : Byte) (d : DayNight) : List SyncWork :=
  (s.fallingPermits mask).map .fall ++ (if s.tb.dayNight = d then [] else [.turn]) ++ [.position]

/-- The change of day and night for the position, and the position for it. -/
def exchanged : SyncWork → SyncWork
  | .turn => .position
  | .position => .turn
  | .fall n => .fall n

/-- R5: the day/night flag is set before the position is handled: an order that has them the other way about takes each in
the other's place. -/
def turnFirst (order : List SyncWork) : List SyncWork :=
  if order.contains .turn && order.idxOf .position < order.idxOf .turn then
    order.map exchanged
  else order

/-- One effect of an accepted SYNC that found the host `found` and carries this cycle length, position and flag. -/
def State.doSync (found : Presence) (cycle pos : Nat) (d : DayNight) (w : SyncWork) (s : State) : State :=
  match w with
  | .fall n => s.permitFalls n
  | .turn => s.turn d
  | .position => s.syncPosition found cycle pos

/-- R5: an accepted SYNC. Mask, freshness and presence are set; the permits that fall, a change of day and night and the
position follow, the change before the position (R5), in an order that R25 and R147 otherwise leave free (log 16). -/
def State.acceptSync (s : State) (cycle pos : Nat) (mask : Byte) (d : DayNight) : State :=
  let order := turnFirst (inOrder (Config.syncOrder s.draws) (s.syncWorks mask d))
  let started := { s with
    tb := { s.tb with mask := mask, fresh := 0, presence := .present }
    draws := s.draws + 1 }
  forEach order (State.doSync s.tb.presence cycle pos d) started

end Sys2Proof.Machine
end

