-- ==== Sys2Proof/Machine/StreetLink.lean ====
section
/-! DEFINITION. The Street Link (spec 10): taking a request, the handlers of the request kinds, the query payloads, the
receiver and the outgoing line. A handler answers the state after the request and the reply's status and fields. -/

namespace Sys2Proof.Machine

/-- What an owning block answers a request with: the state after it, the status, and the reply's fields. -/
structure Answer where
  state : State
  status : Status
  fields : List Byte := []

/-- A refusal: nothing changes (R20, R53, R118 and the other rules of refused requests). -/
def refuse (s : State) (status : Status) : Answer := { state := s, status := status }

/-- An OK answer without fields. -/
def done (s : State) : Answer := { state := s, status := .ok }

/-! ### Handlers: timebase and plans -/

/-- R166, Table 12-4: the report of an accepted SYNC. -/
def State.report (s : State) : List Byte :=
  (allCrossings.map fun n => (s.crossing n).state.code)
  ++ [bits (allCrossings.map fun n => s.hasDemand n),
      bits (allCrossings.map fun n => !(s.crossing n).causes.isEmpty),
      bits [s.budgetLimit, s.link.line == .fault, s.street.lost]]

/-- R4, R5, R166: SYNC. -/
def handleSync (cycle pos : Half) (mask dayNight : Byte) (s : State) : Answer :=
  match dayNightOf dayNight with
  | none => refuse s .badField
  | some d =>
    if 300 ≤ cycle.toNat ∧ cycle.toNat ≤ 2400 ∧ pos.toNat < cycle.toNat then
      let s := s.acceptSync cycle.toNat pos.toNat mask d
      { state := s.modStreet fun t => { t with lost := false }, status := .ok, fields := s.report }
    else refuse s .badField

/-- R20 to R23: SET PLAN. -/
def handleSetPlan (crossing : Byte) (f : PlanFields) (s : State) : Answer :=
  if s.startUp.failed.planMemory then refuse s .badState
  else match crossingOf crossing, planOf f with
    | some n, some p =>
      if p.openAt = p.endAt ∨ p.normalSpeed < p.accessibleSpeed ∨ p.fits = false then refuse s .badField
      else if s.patternsDefined p = false then refuse s .badState
      else
        let s := s.modCrossing n fun c => { c with planned := some ⟨p, .sound⟩ }
        done (s.recomputeAll (s.ownedAt n))
    | _, _ => refuse s .badField

/-! ### Handlers: crossings -/

/-- R53: SET MODE. -/
def handleSetMode (crossing mode : Byte) (s : State) : Answer :=
  match crossingOf crossing, modeOf mode with
  | some n, some m =>
    if m ≠ .off ∧ s.startUp.failed.planMemory = true then refuse s .badState
    else if (s.crossing n).mode = m then done s
    else done (s.changeMode n m)
  | _, _ => refuse s .badField

/-- R76: CLEAR FAULT. -/
def handleClearFault (crossing : Byte) (s : State) : Answer :=
  match crossingOf crossing with
  | none => refuse s .badField
  | some n => done (if (s.crossing n).causes.isEmpty then s else s.clearFault n)

/-- R43: PLACE CALL. -/
def handlePlaceCall (crossing approach accessible : Byte) (s : State) : Answer :=
  match crossingOf crossing, approachOf approach, yesNoOf accessible with
  | some n, some ap, some acc =>
    if (s.crossing n).state = .dark then refuse s .badState
    else done (s.callEvent ⟨n, ap, acc, none, false⟩)
  | _, _, _ => refuse s .badField

/-- R44, R138: CANCEL CALL. -/
def handleCancelCall (crossing approach : Byte) (s : State) : Answer :=
  match crossingOf crossing, approachOf approach with
  | some n, some ap =>
    if ((s.crossing n).place ap).isNone then done s
    else done ((s.modCrossing n fun c => c.setPlace ap none).placeChanged n ap none)
  | _, _ => refuse s .badField

/-- R89: SET HEAD. -/
def handleSetHead (crossing aspect coarse dayFine nightFine ramp : Byte) (s : State) : Answer :=
  match crossingOf crossing, aspectOf aspect with
  | some n, some x =>
    if 1 ≤ coarse.toNat ∧ coarse.toNat ≤ 4 ∧ 1 ≤ ramp.toNat ∧ ramp.toNat ≤ 100 then
      done (s.modCrossing n fun c => c.modChannel x fun ch =>
        let ch := { ch with
          coarse := coarse.toNat, dayFine := dayFine.toNat, nightFine := nightFine.toNat, ramp := ramp.toNat }
        { ch with nominal := ch.nominalFor s.tb.dayNight }).rebudget
    else refuse s .badField
  | _, _ => refuse s .badField

/-! ### Handlers: stations -/

/-- R118: the approach has two bound stations at other addresses. -/
def State.approachFull (s : State) (a : StationId) (b : Binding) : Bool :=
  2 ≤ (allStations.filter fun x => x ≠ a && (s.station x).serves b.crossing b.approach).length

/-- R118: a first binding. -/
def State.bindFresh (s : State) (a : StationId) (b : Binding) : State :=
  let s := s.modStation a fun t => { t with
    binding := some b, ambient := Config.ambientStart, speaker := false, tactile := false, mic := false,
    latePlay := false, clipFault := false, barred := [], press := {} }
  (s.takeTarget a).takeOrLeave a

/-- R119: new settings at the same approach. -/
def State.bindSame (s : State) (a : StationId) (b : Binding) : State :=
  let s := s.modStation a fun t => { t with binding := some b }
  let s := if (s.station a).controlled then s.addSetting a .config else s
  (s.reevaluateLevel a).recomputeNeeds a

/-- R119: a bound station moves to another approach and starts again. -/
def State.bindElsewhere (s : State) (a : StationId) (b : Binding) : State :=
  let s := if (s.station a).partHeld then
      (s.dropControl a).modStation a fun t => { t with failures := 0 } else s
  let s := s.modStation a fun t => { t with
    binding := some b, ambient := Config.ambientStart, speaker := false, tactile := false, mic := false,
    clipFault := false, barred := [] }
  (s.takeTarget a).takeOrLeave a

/-- R118, R119: BIND STATION. -/
def handleBindStation (address crossing approach : Byte) (f : BindFields) (s : State) : Answer :=
  match addressOf address, bindingOf crossing approach f with
  | some a, some b =>
    if s.approachFull a b then refuse s .noSpace
    else match (s.station a).binding with
      | none => done (s.bindFresh a b)
      | some old =>
        if old.crossing = b.crossing ∧ old.approach = b.approach then done (s.bindSame a b)
        else done (s.bindElsewhere a b)
  | _, _ => refuse s .badField

/-- R120: UNBIND STATION: a bound address takes every item of Table 7-1 again. -/
def handleUnbindStation (address : Byte) (s : State) : Answer :=
  match addressOf address with
  | none => refuse s .badField
  | some a =>
    if (s.station a).binding.isNone then done s
    else done ((s.clearWork a).setStation a {})

/-- R121, R130: CONFIGURE, a request, so no STATION notice is queued. -/
def handleConfigure (s : State) : Answer := done (State.takeOverBound false { s with configured := true })

/-- R122: UNCONFIGURE; while the flag is already clear it changes nothing. -/
def handleUnconfigure (s : State) : Answer :=
  if s.configured then done (forEach allStations (fun a s => s.revert a) { s with configured := false })
  else done s

/-- R112: RESET KERB LINK. -/
def handleResetKerbLink (s : State) : Answer := done s.kerbReset

/-! ### Handlers: patterns and clips -/

/-- R135 check 2: some held plan names the pattern, or some active slot holds an unusable record. -/
def State.patternNamed (s : State) (k : Nat) : Bool :=
  s.crossings.toList.any fun c =>
    (c.active.isSome && c.unusable) || c.active.any (fun r => r.plan.names k)
      || c.planned.any (fun r => r.plan.names k)

/-- R27, R135: every held record is read under its check for the test of an erasure (logs 30, 43). -/
def State.readAllPlans (s : State) : State :=
  forCrossings Crossing.flawed (fun n s => checkPlanned n (checkActive n s)) s

/-- R135: the pattern record is written and PATTERN k goes to every station under control. -/
def State.setPatternRecord (s : State) (k : PatternId) (p : Option Pattern) : State :=
  forEach allStations (fun a s => if (s.station a).controlled then s.addSetting a (.pattern k) else s)
    { s with patterns := s.patterns.set k p }

/-- R135: SET PATTERN. -/
def handleSetPattern (pattern period cadence initial : Byte) (points : List PointFields) (s : State) : Answer :=
  match patternNumberOf pattern, patternFieldsOf period cadence initial points with
  | some k, some p =>
    if points.isEmpty then
      let s := s.readAllPlans
      if s.patternNamed (k.val + 1) then refuse s .badState else done (s.setPatternRecord k none)
    else done (s.setPatternRecord k (some p))
  | _, _ => refuse s .badField

/-- R149: CLIP OPEN. -/
def handleClipOpen (clip : Byte) (length check : Half) (s : State) : Answer :=
  if s.libraryEnabled = false then refuse s .badState
  else match clipOf clip with
    | none => refuse s .badField
    | some k =>
      let old := s.clip k
      let n := ceilDiv length.toNat Config.blockBytes
      let b := if old.state = .empty then 0 else old.blocks
      if length.toNat < 16 then refuse s .badField
      else if s.freeBlocks + b < n then refuse s .noSpace
      else
        let s := s.setClip k ⟨.loading, length.toNat, n, check, 0, []⟩
        done (if old.state = .valid then s.clipLeftValid k else s)

/-- R150: CLIP DATA. -/
def handleClipData (clip : Byte) (offset : Half) (data : List Byte) (s : State) : Answer :=
  match clipOf clip with
  | none => refuse s .badField
  | some k =>
    let c := s.clip k
    if c.state ≠ .loading ∨ offset.toNat ≠ c.received then refuse s .badState
    else if c.length < offset.toNat + data.length then refuse s .badField
    else done (s.setClip k { c with received := c.received + data.length, data := c.data ++ data })

/-- R151: CLIP CLOSE. -/
def handleClipClose (clip : Byte) (s : State) : Answer :=
  match clipOf clip with
  | none => refuse s .badField
  | some k =>
    let c := s.clip k
    if c.state ≠ .loading ∨ c.received < c.length then refuse s .badState
    else if c.verifies then done ((s.setClip k { c with state := .valid }).clipBecameValid k)
    else { state := s.setClip k {}, status := .checkFailed }

/-- R152: CLIP ERASE. -/
def handleClipErase (clip : Byte) (s : State) : Answer :=
  match clipOf clip with
  | none => refuse s .badField
  | some k =>
    match (s.clip k).state with
    | .empty => done s
    | .loading => done (s.setClip k {})
    | .valid => done ((s.setClip k {}).clipLeftValid k)

/-! ### Handlers: queries (R165) -/

/-- Table 12-19: a call record's five bytes. -/
def callBytes : Option Call → List Byte
  | none => [0, 0, 0, 0, 0]
  | some c => [bits [true, c.accessible], sourceCode c.source] ++ half c.first ++ [byte c.presses]

/-- Table 12-19: a channel's thirteen bytes. -/
def channelBytes (c : Channel) : List Byte :=
  [channelCode c.enabled, yesNo c.inUse, byte c.coarse, byte c.dayFine, byte c.nightFine, byte c.ramp]
  ++ half c.nominal ++ half c.applied ++ half c.actual ++ [byte c.openCount]

/-- Table 12-19: the walk record's bytes, 19 to 32; 0 where there is none, and 0xFF for no truncation cause. -/
def walkBytes : Option Walk → List Byte
  | none => List.replicate 12 0 ++ [0xFF, 0]
  | some w => [yesNo w.accessible] ++ half w.walkLength ++ half w.clearance ++ [byte w.buffer] ++ half w.count
      ++ half w.lampStart ++ half w.release ++ [truncationCode w.truncation, w.target.code]

/-- R50: the number of consumed calls of the walk record. -/
def consumedCount : Option Walk → Nat
  | none => 0
  | some w => (if w.consumedA.isSome then 1 else 0) + (if w.consumedB.isSome then 1 else 0)

/-- R31: the plan id a slot reports, 0 when it is empty; that of a record with the unusable mark is the one written
(log 37). -/
def planIdOf (r : Option SlotRecord) : Byte := byte ((r.map fun r => r.plan.planId).getD 0)

/-- Table 12-19: the QUERY CROSSING reply after the status. -/
def State.crossingReport (s : State) (n : CrossingId) : List Byte :=
  let c := s.crossing n
  [crossingCode n, c.mode.code, c.state.code, c.causes.code,
    bits [c.served, c.inWindow, s.outOfPlan n, c.unusable, s.hasDemand n, s.demandAccessible n, c.walk.isSome],
    planIdOf c.active, planIdOf c.planned, byte (consumedCount c.walk)]
  ++ callBytes c.placeA ++ callBytes c.placeB ++ walkBytes c.walk ++ [countdownCode c.countdown]
  ++ channelBytes c.walkLamp ++ channelBytes c.dontLamp

/-- R31, R165: QUERY CROSSING; both records are read under their checks first, the active one before the pending one
(log 39). -/
def handleQueryCrossing (crossing : Byte) (s : State) : Answer :=
  match crossingOf crossing with
  | none => refuse s .badField
  | some n =>
    let s := checkPlanned n (checkActive n s)
    { state := s, status := .ok, fields := s.crossingReport n }

/-- Table 12-20: the binding's bytes, 2 to 16. -/
def bindingBytes : Option Binding → List Byte
  | none => List.replicate 15 0
  | some b => [1, crossingCode b.crossing, approachCode b.approach] ++ half b.settings.margin ++ half b.settings.floor
      ++ half b.settings.dayCeiling ++ half b.settings.nightCeiling
      ++ [byte b.settings.holdThreshold, byte b.settings.rampRate, byte b.settings.locateClip, yesNo b.settings.tactile]

/-- Table 12-20: the cache mirror's twelve bytes. -/
def mirrorBytes (m : Mirror) : List Byte :=
  allSlots.flatMap fun i => [byte m.slots[i].clip, m.slots[i].state.code, byte (m.stamp i)]

/-- Table 12-20: the job's bytes, 43 to 51. -/
def jobBytes : Option Job → List Byte
  | none => List.replicate 9 0
  | some j => [1, byte j.slot.val, byte (clipNumber j.clip), j.state.code] ++ half j.next ++ half j.total
      ++ [byte j.attempt]

/-- Table 12-20: the held content's bytes, 52 to 58. -/
def heldBytes : Option Play → List Byte
  | none => List.replicate 7 0
  | some p => [1, byte p.pattern, byte p.clip, bits [p.tactile, p.lamp]] ++ half p.level ++ [p.launch]

/-- Table 12-20: the QUERY STATION reply after the status. -/
def State.stationReport (s : State) (a : StationId) : List Byte :=
  let t := s.station a
  [stationCode a] ++ bindingBytes t.binding
  ++ [t.owner.code, byte t.failures, modeCode t.lastMode] ++ half t.ambient ++ half t.level
  ++ [bits [t.speaker, t.tactile, t.mic, t.clipFault], yesNo t.latePlay]
  ++ mirrorBytes t.mirror ++ [urgentCode t.urgent[0]?, urgentCode t.urgent[1]?]
  ++ [bits [t.settings.takeOver, t.settings.config, t.settings.level]] ++ half t.settings.patterns.toNat
  ++ jobBytes t.job ++ heldBytes t.held

/-- R131, R165: QUERY STATION; a reply that reports the late-play flag set clears it. -/
def handleQueryStation (address : Byte) (s : State) : Answer :=
  match addressOf address with
  | none => refuse s .badField
  | some a =>
    { state := s.modStation a fun t => { t with latePlay := false }, status := .ok, fields := s.stationReport a }

/-- Table 12-21, R159: QUERY CLIP. -/
def handleQueryClip (clip : Byte) (s : State) : Answer :=
  match clipOf clip with
  | none => refuse s .badField
  | some k =>
    let c := s.clip k
    { state := s, status := .ok, fields :=
        [yesNo s.libraryEnabled] ++ half s.freeBlocks ++ [c.state.code] ++ half c.length ++ half c.blocks
        ++ half c.check.toNat ++ half c.received }

/-- The list of failed channels as two bytes, bit n − 1 for channel n. -/
def failedChannelBytes (v : Vector Bool 16) : List Byte :=
  [bits (v.toList.drop 8), bits (v.toList.take 8)]

/-- Table 12-21, R174: QUERY START-UP. -/
def handleQueryStartUp (s : State) : Answer :=
  let u := s.startUp
  { state := s, status := .ok, fields :=
      [u.operating.code, checkCode u.check, u.done.code, u.failed.code] ++ failedChannelBytes u.failedChannels }

/-- R174: RESTART is answered OK; the self-test start follows its reply. -/
def handleRestart (s : State) : Answer := done s

/-! ### Taking a request (R163, R174) -/

def kindQueryStartUp : Byte := 0x15
def kindRestart : Byte := 0x16

/-- R174, Table 11-3: the part handles this kind in its operating state. -/
def State.handles (s : State) (kind : Byte) : Bool :=
  s.running || kind == kindQueryStartUp || kind == kindRestart

/-- R163: the answer becomes the reply waiting; an accepted RESTART's reply is marked as the one the self-test follows. -/
def Answer.replied (r : Answer) (kind tag : Byte) : State :=
  let cls := if kind = kindRestart ∧ r.status = .ok then FrameClass.restartReply else .reply
  let bytes := replyFrame kind tag r.status r.fields
  r.state.modStreet fun t => { t with reply := some ⟨cls, bytes⟩ }

/-- R162: a frame is complete: the receiver returns to HUNT. -/
def State.received (s : State) : State := s.modStreet fun t => { t with receiver := .hunt }

/-- R163: a complete frame of a request kind with a good CRC. While a request is in progress it is discarded; otherwise
its length (check 2) and the operating state (check 3) are checked, and it is dispatched to its owner (check 4). -/
def State.takeRequest (s : State) (kind tag : Byte) (lengthFits : Bool) (owner : State → Answer) : State :=
  let s := s.received
  if s.street.busy then s
  else
    let s := s.modStreet fun t => { t with busy := true }
    let answer :=
      if lengthFits = false then refuse s .badLength
      else if s.handles kind = false then refuse s .badState
      else owner s
    answer.replied kind tag

/-- R163 check 1: a complete good frame whose kind is no request kind. -/
def State.takeUnknown (s : State) (kind tag : Byte) : State :=
  let s := s.received
  if s.street.busy then s
  else (refuse (s.modStreet fun t => { t with busy := true }) .unknownKind).replied kind tag

/-! ### Reading a frame's payload (chapter 12) -/

/-- The byte at an offset of a payload. -/
def byteAt (bs : List Byte) (i : Nat) : Byte := bs[i]?.getD 0

/-- The two-byte number at an offset of a payload. -/
def halfAt (bs : List Byte) (i : Nat) : Half := halfOf (byteAt bs i) (byteAt bs (i + 1))

/-- Table 12-5: the plan fields of a SET PLAN payload. -/
def planFieldsAt (p : List Byte) : PlanFields :=
  { planId := byteAt p 1, cycle := halfAt p 2, openAt := halfAt p 4, endAt := halfAt p 6, minWalk := halfAt p 8,
    extension := byteAt p 10, distance := halfAt p 11, normalSpeed := byteAt p 13, accessibleSpeed := byteAt p 14,
    buffer := byteAt p 15, dwell := byteAt p 16, countdown := byteAt p 17, locator := byteAt p 18, walkPattern := byteAt p 19,
    clearancePattern := byteAt p 20, acknowledge := byteAt p 21, walkClip := byteAt p 22 }

/-- Table 12-6: the settings of a BIND STATION payload. -/
def bindFieldsAt (p : List Byte) : BindFields :=
  { margin := halfAt p 3, floor := halfAt p 5, dayCeiling := halfAt p 7, nightCeiling := halfAt p 9,
    holdThreshold := byteAt p 11, rampRate := byteAt p 12, locateClip := byteAt p 13, tactile := byteAt p 14 }

/-- Table 12-7: the points from an offset of a SET PATTERN payload on. -/
def pointsAt : List Byte → List PointFields
  | o :: l :: rest => ⟨o, l⟩ :: pointsAt rest
  | _ => []

/-- Table 12-8: CLIP DATA carries 1 to 240 data bytes. -/
def dataFits (n : Nat) : Bool := 1 ≤ n && n ≤ 240

/-- Tables 10-2, 12-3 to 12-8 and 12-18: the length a request kind calls for, and its owner's handling of a payload of
that length; none when the kind is no request kind. -/
def requestOf (kind : Byte) (p : List Byte) : Option (Bool × (State → Answer)) :=
  match kind.toNat with
  | 0x01 => some (p.length == 6, handleSync (halfAt p 0) (halfAt p 2) (byteAt p 4) (byteAt p 5))
  | 0x02 => some (p.length == 23, handleSetPlan (byteAt p 0) (planFieldsAt p))
  | 0x03 => some (p.length == 2, handleSetMode (byteAt p 0) (byteAt p 1))
  | 0x04 => some (p.length == 2, handleClearFault (byteAt p 0))
  | 0x05 => some (p.length == 3, handlePlaceCall (byteAt p 0) (byteAt p 1) (byteAt p 2))
  | 0x06 => some (p.length == 2, handleCancelCall (byteAt p 0) (byteAt p 1))
  | 0x07 => some (p.length == 6, handleSetHead (byteAt p 0) (byteAt p 1) (byteAt p 2) (byteAt p 3) (byteAt p 4) (byteAt p 5))
  | 0x08 => some (p.length == 15, handleBindStation (byteAt p 0) (byteAt p 1) (byteAt p 2) (bindFieldsAt p))
  | 0x09 => some (p.length == 2, handleUnbindStation (byteAt p 0))
  | 0x0A => some (p.length == 2, handleConfigure)
  | 0x0B => some (p.length == 2, handleUnconfigure)
  | 0x0C => some (p.length == 2, handleResetKerbLink)
  | 0x0D => some (p.length == 5 + 2 * (byteAt p 4).toNat && 5 ≤ p.length,
      handleSetPattern (byteAt p 0) (byteAt p 1) (byteAt p 2) (byteAt p 3) (pointsAt (p.drop 5)))
  | 0x0E => some (p.length == 5, handleClipOpen (byteAt p 0) (halfAt p 1) (halfAt p 3))
  | 0x0F => some (dataFits (p.length - 3), handleClipData (byteAt p 0) (halfAt p 1) (p.drop 3))
  | 0x10 => some (p.length == 2, handleClipClose (byteAt p 0))
  | 0x11 => some (p.length == 2, handleClipErase (byteAt p 0))
  | 0x12 => some (p.length == 2, handleQueryCrossing (byteAt p 0))
  | 0x13 => some (p.length == 2, handleQueryStation (byteAt p 0))
  | 0x14 => some (p.length == 2, handleQueryClip (byteAt p 0))
  | 0x15 => some (p.length == 2, handleQueryStartUp)
  | 0x16 => some (p.length == 2, handleRestart)
  | _ => none

/-- R163: a complete frame with a good CRC is taken as a request, by its kind. -/
def State.takeFrame (s : State) (kind tag : Byte) (payload : List Byte) : State :=
  match requestOf kind payload with
  | some (fits, owner) => s.takeRequest kind tag fits owner
  | none => s.takeUnknown kind tag

/-! ### The receiver (R162) -/

/-- R162: a frame is complete with its length byte and the bytes stored after it: its CRC is checked over the length
byte and the L bytes that follow it; a good frame is handed to request handling, another is discarded. -/
def State.completeFrame (s : State) (length : Byte) (got : List Byte) : State :=
  let body := got.take length.toNat
  if length :: got = withCrc (length :: body) then
    s.takeFrame (byteAt body 0) (byteAt body 1) (body.drop 2)
  else s.received

/-- R162: a byte arrives and the receiver handles it by its state. -/
def State.receiveByte (s : State) (b : Byte) : State :=
  match s.street.receiver with
  | .hunt => if b = 0xA5 then s.modStreet fun t => { t with receiver := .length } else s
  | .length =>
    if 4 ≤ b.toNat ∧ b.toNat ≤ 250 then s.modStreet fun t => { t with receiver := .body b [] } else s.received
  | .body l got =>
    let got := got ++ [b]
    if l.toNat + 2 ≤ got.length then s.completeFrame l got
    else s.modStreet fun t => { t with receiver := .body l got }

/-! ### The outgoing line (R168, R170) -/

/-- R168: the line begins the reply waiting; the request-in-progress flag is cleared. -/
def Street.beginReply (t : Street) : Street := { t with sending := t.reply, reply := none, busy := false }

/-- R168: the line removes the notice at the head of the queue and begins it. -/
def Street.beginNotice (t : Street) : Street :=
  match t.notices with
  | [] => t
  | n :: rest => { t with sending := some ⟨.notice, n.frame⟩, notices := rest }

/-- R168: the free line begins a reply: one is waiting and no frame is being sent. -/
def Street.replyCanBegin (t : Street) : Bool := t.sending.isNone && t.reply.isSome

/-- R168: the free line begins a notice: no frame is being sent, no reply waits and no request is being handled. -/
def Street.noticeCanBegin (t : Street) : Bool :=
  t.sending.isNone && t.reply.isNone && !t.busy && !t.notices.isEmpty

/-- R168: the free line chooses its next frame. -/
def Street.choose (t : Street) : Street :=
  if t.replyCanBegin then t.beginReply else if t.noticeCanBegin then t.beginNotice else t

/-- R168, R170: the last byte of the frame being sent has gone: after the reply to an accepted RESTART the self-test
begins, otherwise the line chooses its next frame. -/
def State.frameSent (s : State) : State :=
  match s.street.sending with
  | none => s
  | some f =>
    if f.cls = .restartReply then s.selfTestStart
    else s.modStreet fun t => ({ t with sending := none }).choose

end Sys2Proof.Machine
end

