-- ==== Sys2Proof/Machine/SelfTest.lean ====
section
/-! DEFINITION. The meanings of the start-up commands (spec 11). -/

namespace Sys2Proof.Machine

/-- What `exec` answers. -/
abbrev Result := Host.Outcome State Fault Refusal

/-- POWER_ON (R171): every block takes its values after power-on and the self-test begins from CONFIG_ROM. The
waiting commands and the count of free orders stay (logs 16, 26), and a self-test in progress is another's (log 38). -/
def execPowerOn (s : State) : Result :=
  .next { State.reset with startUp := s.startUp.restarted, draws := s.draws, pending := s.pending }

/-- SELF_TEST_START (R170, R171): at the last byte of an accepted RESTART's reply the self-test starts. -/
def execSelfTestStart (s : State) : Result :=
  .next (match s.street.sending with
    | some ⟨.restartReply, _⟩ => s.selfTestStart
    | _ => s)

/-- SELF_TEST_CHECK_COMPLETE (R172, R173): the check in progress completes with what it found. A completion that meets the
end of its self-test, and waits behind it, does not occur (R175, Table 11-4, log 38). -/
def execSelfTestCheckComplete (found : CheckInputs) (s : State) : Result :=
  .next (if s.startUp.awaits found then s.completeCheck found.check found else s)

end Sys2Proof.Machine
end

