-- ==== Sys2Proof/Machine/HostRequests.lean ====
section
/-! DEFINITION. The meanings of the host's requests (spec 10, Table 10-2). Each command is a complete good frame of its
kind; STREET_LINK_BYTE_RECEIVED reaches the same owners through the same bytes (log 8). -/

namespace Sys2Proof.Machine

/-- SYNC (R4, R5, R166). -/
def execSync (tag : Byte) (cycle position : Half) (mask dayNight : Byte) (s : State) : Result :=
  .next (s.takeRequest 0x01 tag true (handleSync cycle position mask dayNight))

/-- SET_PLAN (R20). -/
def execSetPlan (tag crossing : Byte) (fields : PlanFields) (s : State) : Result :=
  .next (s.takeRequest 0x02 tag true (handleSetPlan crossing fields))

/-- SET_MODE (R53). -/
def execSetMode (tag crossing mode : Byte) (s : State) : Result :=
  .next (s.takeRequest 0x03 tag true (handleSetMode crossing mode))

/-- CLEAR_FAULT (R76). -/
def execClearFault (tag crossing : Byte) (s : State) : Result :=
  .next (s.takeRequest 0x04 tag true (handleClearFault crossing))

/-- PLACE_CALL (R43). -/
def execPlaceCall (tag crossing approach accessible : Byte) (s : State) : Result :=
  .next (s.takeRequest 0x05 tag true (handlePlaceCall crossing approach accessible))

/-- CANCEL_CALL (R44). -/
def execCancelCall (tag crossing approach : Byte) (s : State) : Result :=
  .next (s.takeRequest 0x06 tag true (handleCancelCall crossing approach))

/-- SET_HEAD (R89). -/
def execSetHead (tag crossing aspect coarse dayFine nightFine ramp : Byte) (s : State) : Result :=
  .next (s.takeRequest 0x07 tag true (handleSetHead crossing aspect coarse dayFine nightFine ramp))

/-- BIND_STATION (R118). -/
def execBindStation (tag address crossing approach : Byte) (fields : BindFields) (s : State) : Result :=
  .next (s.takeRequest 0x08 tag true (handleBindStation address crossing approach fields))

/-- UNBIND_STATION (R120). -/
def execUnbindStation (tag address : Byte) (s : State) : Result :=
  .next (s.takeRequest 0x09 tag true (handleUnbindStation address))

/-- CONFIGURE (R121). -/
def execConfigure (tag : Byte) (s : State) : Result := .next (s.takeRequest 0x0A tag true handleConfigure)

/-- UNCONFIGURE (R122). -/
def execUnconfigure (tag : Byte) (s : State) : Result := .next (s.takeRequest 0x0B tag true handleUnconfigure)

/-- RESET_KERB_LINK (R112). -/
def execResetKerbLink (tag : Byte) (s : State) : Result := .next (s.takeRequest 0x0C tag true handleResetKerbLink)

/-- SET_PATTERN (R135). -/
def execSetPattern (tag pattern period cadence initial : Byte) (points : List PointFields) (s : State) : Result :=
  .next (s.takeRequest 0x0D tag true (handleSetPattern pattern period cadence initial points))

/-- CLIP_OPEN (R149). -/
def execClipOpen (tag clip : Byte) (length check : Half) (s : State) : Result :=
  .next (s.takeRequest 0x0E tag true (handleClipOpen clip length check))

/-- CLIP_DATA (R150); a frame without data bytes or with more than 240 is answered BAD_LENGTH. -/
def execClipData (tag clip : Byte) (offset : Half) (data : List Byte) (s : State) : Result :=
  .next (s.takeRequest 0x0F tag (dataFits data.length) (handleClipData clip offset data))

/-- CLIP_CLOSE (R151). -/
def execClipClose (tag clip : Byte) (s : State) : Result :=
  .next (s.takeRequest 0x10 tag true (handleClipClose clip))

/-- CLIP_ERASE (R152). -/
def execClipErase (tag clip : Byte) (s : State) : Result :=
  .next (s.takeRequest 0x11 tag true (handleClipErase clip))

/-- QUERY_CROSSING (R31, R50, R81, R96, R165). -/
def execQueryCrossing (tag crossing : Byte) (s : State) : Result :=
  .next (s.takeRequest 0x12 tag true (handleQueryCrossing crossing))

/-- QUERY_STATION (R115, R131, R140, R165). -/
def execQueryStation (tag address : Byte) (s : State) : Result :=
  .next (s.takeRequest 0x13 tag true (handleQueryStation address))

/-- QUERY_CLIP (R159). -/
def execQueryClip (tag clip : Byte) (s : State) : Result :=
  .next (s.takeRequest 0x14 tag true (handleQueryClip clip))

/-- QUERY_START_UP (R174). -/
def execQueryStartUp (tag : Byte) (s : State) : Result :=
  .next (s.takeRequest kindQueryStartUp tag true handleQueryStartUp)

/-- RESTART (R174, R170). -/
def execRestart (tag : Byte) (s : State) : Result := .next (s.takeRequest kindRestart tag true handleRestart)

end Sys2Proof.Machine
end

