-- ==== Sys2Proof/Machine/KerbEvents.lean ====
section
/-! DEFINITION. The meanings of the Kerb Link's events (spec 06). Each transaction end acts on the transaction in
progress where it is of its kind; otherwise nothing ends (log 10). -/

namespace Sys2Proof.Machine

/-- BEACON_CHECK (R99, R110): the beacon on the line is compared with its echo. -/
def execBeaconCheck (heard : Heard) (s : State) : Result :=
  .next (match s.link.activity with
    | .beacon false => s.judgeBeacon heard
    | .beacon true => s.judgeRetry heard
    | _ => s)

/-- BEACON_RETRY (R110): a beacon attempted in FAULT is compared with its echo. -/
def execBeaconRetry (heard : Heard) (s : State) : Result :=
  .next (match s.link.activity with
    | .beacon true => s.judgeRetry heard
    | _ => s)

/-- LINE_FAULT_REVERSION (R111): the fault age reaches its limit. -/
def execLineFaultReversion (s : State) : Result :=
  .next (if s.link.line = .fault ∧ s.link.faultAge + 1 = Config.faultAgeLimit then
      (s.modLink fun l => { l with faultAge := Config.faultAgeLimit }).lineFaultRevert
    else s)

/-- QUIET_PERIOD_END (R113): the quiet counter reaches 0; with the link ready and CONFIGURED set, every bound LOCAL
station becomes TAKING. -/
def execQuietPeriodEnd (s : State) : Result :=
  .next (if s.link.quiet = 1 then (s.modLink fun l => { l with quiet := 0 }).takeOverBound true else s)

/-- POLL (R102, R107, R125 to R127): a poll or probe ends. -/
def execPoll (reply : KerbReply) (s : State) : Result :=
  .next (s.onTransaction (· == .poll) fun t =>
    s.endTransaction t reply fun s => s.pollOk t.station (pollReport reply))

/-- PLAY_TRANSACTION (R107, R109, R140). -/
def execPlayTransaction (reply : KerbReply) (s : State) : Result :=
  .next (s.onTransaction Item.isPlay fun t =>
    s.endTransaction t reply fun s =>
      match t.item with
      | .play p => s.playDelivered t.station p t.again
      | _ => s)

/-- ACK_TRANSACTION (R107). -/
def execAckTransaction (reply : KerbReply) (s : State) : Result :=
  .next (s.onTransaction (· == .ack) fun t =>
    s.endTransaction t reply fun s => s.ackDelivered t.station t.again)

/-- SET_LEVEL_TRANSACTION (R107). -/
def execSetLevelTransaction (reply : KerbReply) (s : State) : Result :=
  .next (s.onTransaction (· == .level) fun t =>
    s.endTransaction t reply fun s => s.settingDelivered t.station .level t.again)

/-- CONFIG_TRANSACTION (R107). -/
def execConfigTransaction (reply : KerbReply) (s : State) : Result :=
  .next (s.onTransaction (· == .config) fun t =>
    s.endTransaction t reply fun s => s.settingDelivered t.station .config t.again)

/-- A PATTERN transaction. -/
def Item.isPattern : Item → Bool
  | .pattern _ => true
  | _ => false

/-- PATTERN_TRANSACTION (R107, R124). -/
def execPatternTransaction (reply : KerbReply) (s : State) : Result :=
  .next (s.onTransaction Item.isPattern fun t =>
    s.endTransaction t reply fun s =>
      match t.item with
      | .pattern k => s.settingDelivered t.station (.pattern k) t.again
      | _ => s)

/-- TAKE_OVER_TRANSACTION (R107). -/
def execTakeOverTransaction (reply : KerbReply) (s : State) : Result :=
  .next (s.onTransaction (· == .takeOver) fun t =>
    s.endTransaction t reply fun s => s.settingDelivered t.station .takeOver t.again)

/-- SLOT_OPEN_TRANSACTION (R105). -/
def execSlotOpenTransaction (reply : KerbReply) (s : State) : Result :=
  .next (s.onTransaction (· == .slotOpen) fun t =>
    s.endTransaction t reply fun s => s.modJob t.station Job.opened)

/-- BLOCK_TRANSACTION (R105). -/
def execBlockTransaction (reply : KerbReply) (s : State) : Result :=
  .next (s.onTransaction (· == .block) fun t =>
    s.endTransaction t reply fun s => s.modJob t.station Job.blockSent)

/-- SLOT_COMMIT_TRANSACTION (R157, R177): a result byte of 0 is COMMIT OK. -/
def execSlotCommitTransaction (reply : KerbReply) (s : State) : Result :=
  .next (s.onTransaction (· == .slotCommit) fun t =>
    s.endTransaction t reply fun s => s.commitAnswer t.station (replyByte reply 2 == 0))

end Sys2Proof.Machine
end

