-- ==== Sys2Proof/Machine/StreetEvents.lean ====
section
/-! DEFINITION. The meanings of the Street Link's line events (spec 10). -/

namespace Sys2Proof.Machine

/-- UNKNOWN_KIND (R163): a complete good frame, taken by its kind; one that is no request kind is answered
UNKNOWN_KIND. -/
def execUnknownKind (kind tag : Byte) (payload : List Byte) (s : State) : Result :=
  .next (s.takeFrame kind tag payload)

/-- REQUEST_WHILE_BUSY (R163): a good frame that completes while a request is in progress is discarded without reply. With
no request in progress the command changes nothing (log 1). -/
def execRequestWhileBusy (s : State) : Result := .next (if s.street.busy then s.received else s)

/-- BAD_CRC_FRAME (R162): the complete frame is discarded; no reply, and no state outside the receiver changes. -/
def execBadCrcFrame (s : State) : Result := .next s.received

/-- BYTE_GAP_TIMEOUT (R162): the frame under reception is discarded. -/
def execByteGapTimeout (s : State) : Result :=
  .next (match s.street.receiver with
    | .hunt => s
    | .length | .body _ _ => s.received)

/-- FRAMING_ERROR (R162): the frame under reception is discarded; in HUNT the byte is disregarded. -/
def execFramingError (s : State) : Result :=
  .next (match s.street.receiver with
    | .hunt => s
    | .length | .body _ _ => s.received)

/-- REPLY_BEGIN (R168). -/
def execReplyBegin (s : State) : Result :=
  .next (if s.street.replyCanBegin then s.modStreet Street.beginReply else s)

/-- NOTICE_BEGIN (R168). -/
def execNoticeBegin (s : State) : Result :=
  .next (if s.street.noticeCanBegin then s.modStreet Street.beginNotice else s)

/-- FRAME_SENT (R168, R170). -/
def execFrameSent (s : State) : Result := .next s.frameSent

/-- STREET_LINK_BYTE_RECEIVED (R162). -/
def execStreetLinkByteReceived (byte : Byte) (s : State) : Result := .next (s.receiveByte byte)

end Sys2Proof.Machine
end

