-- ==== Sys2Proof/Machine/Ticking.lean ====
section
/-! DEFINITION. The meanings of TICK and of the events a tick reaches (spec 01, 04, 05). A tick makes every event that
falls due at it (R2, R55). An event's own command makes that one event alone, when its trigger stands; otherwise nothing
happens (log 1). -/

namespace Sys2Proof.Machine

/-- TICK (R2, R55, R98). -/
def execTick (inputs : TickInputs) (s : State) : Result := .next (s.tick inputs)

/-- HOST_LOST (R11, R71): the freshness counter, one below its limit during PRESENT, reaches it. -/
def execHostLost (s : State) : Result :=
  .next (if s.tb.presence = .present ∧ Config.freshLimit ≤ s.tb.fresh + 1 then s.loseHost else s)

/-- The crossing is in an interval state with a count that the next counted tick takes to 0. -/
def Crossing.runsOut (c : Crossing) (st : IntervalState) : Bool :=
  c.state == st && c.walk.any fun w => w.count ≤ 1

/-- LEAD_END (R62): the lead count of a crossing in STARTING reaches 0. -/
def execLeadEnd (n : CrossingId) (s : State) : Result :=
  .next (if (s.crossing n).runsOut .starting then s.lightWalk n else s)

/-- WALK_END (R65): the walk count of a crossing in WALK reaches 0. -/
def execWalkEnd (n : CrossingId) (s : State) : Result :=
  .next (if (s.crossing n).runsOut .walk then s.endWalk n else s)

/-- CLEARANCE_END (R68): the clearance count of a crossing in CLEARANCE reaches 0. -/
def execClearanceEnd (n : CrossingId) (s : State) : Result :=
  .next (if (s.crossing n).runsOut .clearance then s.endClearance n else s)

/-- BUFFER_END (R69): the buffer count of a crossing in BUFFER reaches 0. -/
def execBufferEnd (n : CrossingId) (s : State) : Result :=
  .next (if (s.crossing n).runsOut .buffer then s.releaseWalk n else s)

/-- LAMP_OPEN_DETECTED (R91, R92): the third open sample of a tested channel. -/
def execLampOpenDetected (n : CrossingId) (x : Aspect) (s : State) : Result :=
  .next (if (s.crossing n).testable x ∧ Config.openLimit ≤ (s.channel n x).openCount + 1 then
      (s.modCrossing n fun c => c.modChannel x fun ch =>
        { ch with openCount := Config.openLimit }).failChannel n x
    else s)

/-- LAMP_SHORT_SENSED (R93): a short on a channel that delivers current disables it at once. -/
def execLampShortSensed (n : CrossingId) (x : Aspect) (s : State) : Result :=
  .next (if 0 < s.lampCurrent n x then s.failChannel n x else s)

end Sys2Proof.Machine
end

