-- ==== Sys2Proof/Machine/Dispatch.lean ====
section
/-! DEFINITION. One arm per command: its meaning. -/

namespace Sys2Proof.Machine

def exec (i : Instr) (s : State) : Host.Outcome State Fault Refusal :=
  match i with
  | .powerOn => Sys2Proof.Machine.execPowerOn s
  | .selfTestStart => Sys2Proof.Machine.execSelfTestStart s
  | .selfTestCheckComplete found => Sys2Proof.Machine.execSelfTestCheckComplete found s
  | .tick inputs => Sys2Proof.Machine.execTick inputs s
  | .hostLost => Sys2Proof.Machine.execHostLost s
  | .leadEnd n => Sys2Proof.Machine.execLeadEnd n s
  | .walkEnd n => Sys2Proof.Machine.execWalkEnd n s
  | .clearanceEnd n => Sys2Proof.Machine.execClearanceEnd n s
  | .bufferEnd n => Sys2Proof.Machine.execBufferEnd n s
  | .lampOpenDetected n aspect => Sys2Proof.Machine.execLampOpenDetected n aspect s
  | .lampShortSensed n aspect => Sys2Proof.Machine.execLampShortSensed n aspect s
  | .beaconCheck heard => Sys2Proof.Machine.execBeaconCheck heard s
  | .beaconRetry heard => Sys2Proof.Machine.execBeaconRetry heard s
  | .lineFaultReversion => Sys2Proof.Machine.execLineFaultReversion s
  | .quietPeriodEnd => Sys2Proof.Machine.execQuietPeriodEnd s
  | .poll reply => Sys2Proof.Machine.execPoll reply s
  | .playTransaction reply => Sys2Proof.Machine.execPlayTransaction reply s
  | .ackTransaction reply => Sys2Proof.Machine.execAckTransaction reply s
  | .setLevelTransaction reply => Sys2Proof.Machine.execSetLevelTransaction reply s
  | .configTransaction reply => Sys2Proof.Machine.execConfigTransaction reply s
  | .patternTransaction reply => Sys2Proof.Machine.execPatternTransaction reply s
  | .takeOverTransaction reply => Sys2Proof.Machine.execTakeOverTransaction reply s
  | .slotOpenTransaction reply => Sys2Proof.Machine.execSlotOpenTransaction reply s
  | .blockTransaction reply => Sys2Proof.Machine.execBlockTransaction reply s
  | .slotCommitTransaction reply => Sys2Proof.Machine.execSlotCommitTransaction reply s
  | .sync tag cycle position mask dayNight => Sys2Proof.Machine.execSync tag cycle position mask dayNight s
  | .setPlan tag crossing fields => Sys2Proof.Machine.execSetPlan tag crossing fields s
  | .setMode tag crossing mode => Sys2Proof.Machine.execSetMode tag crossing mode s
  | .clearFault tag crossing => Sys2Proof.Machine.execClearFault tag crossing s
  | .placeCall tag crossing approach accessible => Sys2Proof.Machine.execPlaceCall tag crossing approach accessible s
  | .cancelCall tag crossing approach => Sys2Proof.Machine.execCancelCall tag crossing approach s
  | .setHead tag crossing aspect coarse dayFine nightFine ramp => Sys2Proof.Machine.execSetHead tag crossing aspect coarse dayFine nightFine ramp s
  | .bindStation tag address crossing approach fields => Sys2Proof.Machine.execBindStation tag address crossing approach fields s
  | .unbindStation tag address => Sys2Proof.Machine.execUnbindStation tag address s
  | .configure tag => Sys2Proof.Machine.execConfigure tag s
  | .unconfigure tag => Sys2Proof.Machine.execUnconfigure tag s
  | .resetKerbLink tag => Sys2Proof.Machine.execResetKerbLink tag s
  | .setPattern tag pattern period cadence initial points => Sys2Proof.Machine.execSetPattern tag pattern period cadence initial points s
  | .clipOpen tag clip length check => Sys2Proof.Machine.execClipOpen tag clip length check s
  | .clipData tag clip offset data => Sys2Proof.Machine.execClipData tag clip offset data s
  | .clipClose tag clip => Sys2Proof.Machine.execClipClose tag clip s
  | .clipErase tag clip => Sys2Proof.Machine.execClipErase tag clip s
  | .queryCrossing tag crossing => Sys2Proof.Machine.execQueryCrossing tag crossing s
  | .queryStation tag address => Sys2Proof.Machine.execQueryStation tag address s
  | .queryClip tag clip => Sys2Proof.Machine.execQueryClip tag clip s
  | .queryStartUp tag => Sys2Proof.Machine.execQueryStartUp tag s
  | .restart tag => Sys2Proof.Machine.execRestart tag s
  | .unknownKind kind tag payload => Sys2Proof.Machine.execUnknownKind kind tag payload s
  | .requestWhileBusy => Sys2Proof.Machine.execRequestWhileBusy s
  | .badCrcFrame => Sys2Proof.Machine.execBadCrcFrame s
  | .byteGapTimeout => Sys2Proof.Machine.execByteGapTimeout s
  | .framingError => Sys2Proof.Machine.execFramingError s
  | .replyBegin => Sys2Proof.Machine.execReplyBegin s
  | .noticeBegin => Sys2Proof.Machine.execNoticeBegin s
  | .frameSent => Sys2Proof.Machine.execFrameSent s
  | .streetLinkByteReceived byte => Sys2Proof.Machine.execStreetLinkByteReceived byte s

end Sys2Proof.Machine
end

