-- ==== Sys2Proof/Safety.lean ====
section
/-! DEFINITION. The words the statements are made of: what a taken request leaves on the Street Link, what an event at a
crossing or a station leaves alone, and the laws of the spec that every step keeps. None of them takes part in a step. -/

namespace Sys2Proof.Machine

/-! ### Requests and notices -/

/-- R163, R174: a complete good request is taken and dispatched: none is in progress and the part is RUNNING. -/
def State.Takes (s : State) : Prop := s.street.busy = false ∧ s.startUp.operating = .running

/-- R163: the Street Link after a request is handled: the receiver is back in HUNT, the flag is set, the reply waits. -/
def Street.answered (t : Street) (cls : FrameClass) (bytes : List Byte) : Street :=
  { t with receiver := .hunt, busy := true, reply := some ⟨cls, bytes⟩ }

/-- The state with a reply of this status and these fields waiting, and nothing else changed. -/
def State.answered (s : State) (kind tag : Byte) (status : Status) (fields : List Byte) : State :=
  { s with street := s.street.answered .reply (replyFrame kind tag status fields) }

/-- R167: the Street Link after a notice is handed to its queue. -/
def Street.queued (t : Street) (n : Notice) : Street :=
  if t.notices.length < 32 then { t with notices := t.notices ++ [n] } else { t with lost := true }

/-! ### Plans -/

/-- R27, R28: reading the records of a crossing finds nothing: each matches its check code, but for an active record that
carries the unusable mark already. -/
def Crossing.sound (c : Crossing) : Bool :=
  (c.active.all fun r => c.unusable || r.check == .sound) && c.planned.all fun r => r.check == .sound

/-- R27, R28: no held record has an error that has not been found. -/
def State.PlansSound (s : State) : Prop := ∀ n, (s.crossing n).sound = true

/-- Table 2-3: the status of a SET PLAN, by the first check that fails. -/
def State.planStatus (s : State) (crossing : Byte) (f : PlanFields) : Status :=
  let c := f.cycle.toNat
  let needed := 2 + f.minWalk.toNat + (10 * f.distance.toNat + f.accessibleSpeed.toNat - 1) / f.accessibleSpeed.toNat
    + f.buffer.toNat
  if s.startUp.failed.planMemory = true then .badState
  else if ¬ (1 ≤ crossing.toNat ∧ crossing.toNat ≤ 8) then .badField
  else if ¬ (1 ≤ f.planId.toNat ∧ 300 ≤ c ∧ c ≤ 2400 ∧ f.openAt.toNat < c ∧ f.endAt.toNat < c
      ∧ 30 ≤ f.minWalk.toNat ∧ f.minWalk.toNat ≤ 300 ∧ f.extension.toNat ≤ 200
      ∧ 300 ≤ f.distance.toNat ∧ f.distance.toNat ≤ 4000
      ∧ 100 ≤ f.normalSpeed.toNat ∧ f.normalSpeed.toNat ≤ 150
      ∧ 60 ≤ f.accessibleSpeed.toNat ∧ f.accessibleSpeed.toNat ≤ 110 ∧ f.buffer.toNat ≤ 50
      ∧ f.dwell.toNat ≤ 1 ∧ f.countdown.toNat ≤ 1
      ∧ 1 ≤ f.locator.toNat ∧ f.locator.toNat ≤ 16 ∧ 1 ≤ f.walkPattern.toNat ∧ f.walkPattern.toNat ≤ 16
      ∧ f.clearancePattern.toNat ≤ 16 ∧ 1 ≤ f.acknowledge.toNat ∧ f.acknowledge.toNat ≤ 16
      ∧ f.walkClip.toNat ≤ 64) then .badField
  else if f.openAt = f.endAt then .badField
  else if f.normalSpeed.toNat < f.accessibleSpeed.toNat then .badField
  else if (f.endAt.toNat + c - f.openAt.toNat) % c < needed then .badField
  else if ∃ k ∈ [f.locator, f.walkPattern, f.clearancePattern, f.acknowledge], k ≠ 0 ∧ s.patternOf k.toNat = none then
    .badState
  else .ok

/-- The record a SET PLAN's fields spell (Table 12-5). -/
def recordOf (f : PlanFields) : Plan :=
  ⟨f.planId.toNat, f.cycle.toNat, f.openAt.toNat, f.endAt.toNat, f.minWalk.toNat, f.extension.toNat, f.distance.toNat,
    f.normalSpeed.toNat, f.accessibleSpeed.toNat, f.buffer.toNat, f.dwell == 1, f.countdown == 1, f.locator.toNat,
    f.walkPattern.toNat, f.clearancePattern.toNat, f.acknowledge.toNat, f.walkClip.toNat⟩

/-! ### Calls (R38) -/

/-- R33, R38: a place after an event is registered there: a record is created, or the event merges into the one held. -/
def registered (old : Option Call) (accessible : Bool) (source : CallSource) (pos : Nat) (counted : Bool) : Call :=
  match old with
  | none => ⟨accessible, source, pos, 1⟩
  | some r => ⟨r.accessible || accessible, r.source, r.first, if counted then min (r.presses + 1) 255 else r.presses⟩

/-- R42: an event queues a CALL notice: it creates the record, or makes a normal one accessible. -/
def callNoticed (old : Option Call) (accessible : Bool) : Bool :=
  match old with
  | none => true
  | some r => !r.accessible && accessible

/-! ### What an event at a crossing changes and leaves alone -/

/-- A crossing without its two channels. -/
def Crossing.core (c : Crossing) : Crossing := { c with walkLamp := {}, dontLamp := {} }

/-- R83: a channel is in use exactly when it is ENABLED and the interval state calls for it. -/
def Crossing.LampsFollow (c : Crossing) : Prop :=
  ∀ x, (c.channel x).inUse = ((c.channel x).enabled && c.state.calls x)

/-- R83, R88: a channel that came into use delivers its applied target, one that left use delivers nothing, another
keeps its drive; settings, nominal target, open-detect count and channel state are as before. -/
def Channel.Switched (was now : Channel) : Prop :=
  { now with inUse := was.inUse, applied := was.applied, actual := was.actual } = was
  ∧ now.actual = if now.inUse = was.inUse then was.actual else if now.inUse then now.applied else 0

/-- R83: the channels of a crossing follow its interval state, switched as R88 says. -/
def Crossing.HeadsFollow (was now : Crossing) : Prop :=
  now.LampsFollow ∧ ∀ x, (was.channel x).Switched (now.channel x)

/-- A crossing is as before, but that the budget may have changed the applied targets of its channels (R87). -/
def Crossing.SameButApplied (was now : Crossing) : Prop :=
  { now with
    walkLamp := { now.walkLamp with applied := was.walkLamp.applied }
    dontLamp := { now.dontLamp with applied := was.dontLamp.applied } } = was

/-- R87: the budget-limit flag stands exactly when the nominal targets in use sum to more than 2400 mA, and every
applied target is as that flag says. -/
def State.BudgetLaw (s : State) : Prop :=
  s.budgetLimit = decide (2400 < s.nominalSum)
  ∧ ∀ n x, (s.channel n x).applied =
      if (s.channel n x).inUse then
        (if s.budgetLimit then min (s.channel n x).nominal 200 else (s.channel n x).nominal)
      else 0

/-- R103, R104: the line is as before, but that the item of the transaction in progress may be marked to stay. -/
def Link.SameButAgain (was now : Link) : Prop :=
  now = was ∨ match was.activity with
    | .transaction t => now = { was with activity := .transaction { t with again := true } }
    | _ => False

/-- What an event leaves alone beside the crossings, the stations and the Street Link: the Timebase, the CONFIGURED flag,
the Kerb Link but for a mark (R103), the patterns, the clips, the start-up state, the free orders and the waiting
commands. -/
def State.Beside (was now : State) : Prop :=
  now.tb = was.tb ∧ now.configured = was.configured ∧ was.link.SameButAgain now.link ∧ now.patterns = was.patterns
  ∧ now.libraryEnabled = was.libraryEnabled ∧ now.clips = was.clips ∧ now.startUp = was.startUp
  ∧ now.draws = was.draws ∧ now.pending = was.pending

/-- What an event at crossing n leaves alone: all that `Beside` names, and the other crossings but for the budget. -/
def State.BesideCrossing (n : CrossingId) (was now : State) : Prop :=
  was.Beside now ∧ ∀ m, m ≠ n → (was.crossing m).SameButApplied (now.crossing m)

/-- Crossing n becomes `c` but for its channels, which follow its state (R83); the budget is as R87 says, and the rest
of the part but the stations and the Street Link is as before. -/
def State.Becomes (n : CrossingId) (c : Crossing) (was now : State) : Prop :=
  (now.crossing n).core = c.core ∧ (was.crossing n).HeadsFollow (now.crossing n) ∧ now.BudgetLaw
  ∧ was.BesideCrossing n now

/-- Crossing n becomes `c`, and nothing else but the stations and the Street Link changes. -/
def State.Only (n : CrossingId) (c : Crossing) (was now : State) : Prop :=
  now.crossing n = c ∧ (∀ m, m ≠ n → now.crossing m = was.crossing m) ∧ now.budgetLimit = was.budgetLimit
  ∧ was.Beside now

/-- A crossing that entered an interval state: its countdown is blank (R85), and DARK empties its places and clears its
served flag (R77). -/
def Crossing.entered (c : Crossing) (st : IntervalState) : Crossing :=
  if st = .dark then
    { c with state := .dark, countdown := none, countdownOn := false, placeA := none, placeB := none, served := false }
  else { c with state := st, countdown := none, countdownOn := false }

/-- R85: the countdown of a clearance remaining. -/
def countdownShown (on : Bool) (remaining : Nat) : Option Nat :=
  if on then some (min ((remaining + 9) / 10) 99) else none

/-- R65, R67: a crossing that entered CLEARANCE with this walk record; `on` is its plan's countdown field. -/
def Crossing.cleared (c : Crossing) (w : Walk) (on : Bool) : Crossing :=
  { c with
    state := .clearance
    walk := some { w with count := w.clearance }
    countdownOn := on
    countdown := countdownShown on w.clearance }

/-- R67, Table 4-2: the walk record of a truncation, with its cause and the release position that the clearance now beginning
leads to (log 42). -/
def State.truncated (s : State) (w : Walk) (cause : TruncationCause) : Walk :=
  { w with truncation := some cause, release := (s.tb.pos + w.clearance + w.buffer) % s.tb.cycle }

/-- R46, R63: a crossing whose commit was cancelled, with its walk record `w`, into `st`. -/
def Crossing.cancelled (c : Crossing) (w : Walk) (st : IntervalState) : Crossing :=
  { c with
    placeA := restoredCall w.consumedA c.placeA
    placeB := restoredCall w.consumedB c.placeB
    served := false
    walk := none }.entered st

/-! ### Windows (R56) -/

/-- R56: a crossing whose window was evaluated: the in-window flag, and the served flag, which an exit clears. -/
def Crossing.windowed (c : Crossing) (inside : Bool) : Crossing :=
  { c with inWindow := inside, served := c.served && (inside || !c.inWindow) }

/-- R56: the notice of a window's entry without demand, or of its exit with demand unserved, at a crossing in REST. -/
def Street.windowTold (u : Street) (n : CrossingId) (c : Crossing) (inside demand : Bool) : Street :=
  if c.state ≠ .rest ∨ c.served = true then u
  else if inside = true ∧ c.inWindow = false ∧ c.mode = .normal ∧ demand = false then u.queued (.noDemand n)
  else if inside = false ∧ c.inWindow = true ∧ demand = true then u.queued (.windowMissed n)
  else u

/-! ### Joins and extensions (R64, R66) -/

/-- R64: the join test of a walk with this lead, at the tick's position `x`. -/
def Plan.joinFits (p : Plan) (w : Walk) (x : Nat) : Prop :=
  p.inWindow x = true ∧ w.count + p.minWalk + p.accessibleClearance + p.buffer ≤ p.remaining x

/-- R64: the walk record after a join on cycle length `cycle`. -/
def Walk.afterJoin (w : Walk) (p : Plan) (x cycle : Nat) : Walk :=
  let room := p.remaining x - w.count - p.accessibleClearance - p.buffer
  let length := if p.dwell then room else min (p.minWalk + p.extension) room
  { w with
    accessible := true, clearance := p.accessibleClearance, walkLength := length
    release := (x + w.count + length + p.accessibleClearance + p.buffer) % cycle }

/-- R66: the extension test of a walk with this walk remaining, at the tick's position `x`. -/
def Plan.extensionFits (p : Plan) (w : Walk) (x : Nat) : Prop :=
  p.inWindow x = true ∧ w.count + p.accessibleClearance + p.buffer ≤ p.remaining x

/-- R66: the walk record after an extension. -/
def Walk.afterExtension (w : Walk) (p : Plan) (x cycle : Nat) : Walk :=
  let left := min (w.count + p.extension) (p.remaining x - p.accessibleClearance - p.buffer)
  { w with
    accessible := true, clearance := p.accessibleClearance, count := left
    release := (x + left + p.accessibleClearance + p.buffer) % cycle }

/-! ### PLAYs (R136, R138) -/

/-- R103, R136, R145: a station for which a PLAY was built and queued: its commanded level is the PLAY's. -/
def Station.played (t : Station) (p : Play) : Station :=
  { t with urgent := urgentAdd t.urgent (.play p), level := p.level }

/-- R138: every OWNED station of the approaches named has the PLAY of its crossing's state queued, and no other station
changed. -/
def State.PlaysQueuedAt (serves : CrossingId → Approach → Bool) (was now : State) : Prop :=
  ∀ a, now.station a = match (was.station a).binding with
    | none => was.station a
    | some b =>
      if (was.station a).owner = .owned ∧ serves b.crossing b.approach = true then
        (was.station a).played (now.playFor a b (now.crossing b.crossing).state)
      else was.station a

/-- R138: the PLAYs of a change of crossing n's interval state. -/
def State.PlaysQueued (n : CrossingId) (was now : State) : Prop := was.PlaysQueuedAt (fun m _ => m == n) now

/-! ### What a request about stations leaves alone -/

/-- The Timebase, the crossings, the patterns, the clips, the start-up state, the free orders and the waiting commands. -/
def State.BesideStations (was now : State) : Prop :=
  now.tb = was.tb ∧ now.crossings = was.crossings ∧ now.budgetLimit = was.budgetLimit ∧ now.patterns = was.patterns
  ∧ now.libraryEnabled = was.libraryEnabled ∧ now.clips = was.clips ∧ now.startUp = was.startUp
  ∧ now.draws = was.draws ∧ now.pending = was.pending

/-- What a transaction's end leaves alone beside its station, the Kerb Link and the Street Link. -/
def State.BesideStation (a : StationId) (was now : State) : Prop :=
  was.BesideStations now ∧ (∀ b, b ≠ a → now.station b = was.station b) ∧ now.configured = was.configured

/-- A line is as before, but that outcomes of transactions in progress may have been discarded (R108). -/
def Link.SameButDiscard (was now : Link) : Prop :=
  now = was ∨ match was.activity with
    | .transaction t => now = { was with activity := .transaction { t with discard := true } }
    | _ => False

/-! ### Self-test (R172) -/

/-- R172: the pulse of one channel fails: a short is sensed, or less than half of the pulse. -/
def pulseBad (f : CheckInputs) (n : CrossingId) (x : Aspect) : Bool :=
  let p := f.pulses[channelIndex n x]
  p.short || decide (2 * p.sensed < p.driven)

/-- R172: what a check must find to pass. -/
def checkPasses (f : CheckInputs) : Check → Prop
  | .headDrivers => ∀ n x, pulseBad f n x = false
  | .kerbLine => f.heard = ⟨some 0, some 0, some 0, some 0xFF⟩
  | _ => f.good = true

/-! ### Requests by their kinds (Table 10-2) -/

/-- The kind and the tag of a request of Table 10-2. -/
def requestKind : Instr → Option (Byte × Byte)
  | .sync tag _ _ _ _ => some (0x01, tag)
  | .setPlan tag _ _ => some (0x02, tag)
  | .setMode tag _ _ => some (0x03, tag)
  | .clearFault tag _ => some (0x04, tag)
  | .placeCall tag _ _ _ => some (0x05, tag)
  | .cancelCall tag _ _ => some (0x06, tag)
  | .setHead tag _ _ _ _ _ _ => some (0x07, tag)
  | .bindStation tag _ _ _ _ => some (0x08, tag)
  | .unbindStation tag _ => some (0x09, tag)
  | .configure tag => some (0x0A, tag)
  | .unconfigure tag => some (0x0B, tag)
  | .resetKerbLink tag => some (0x0C, tag)
  | .setPattern tag _ _ _ _ _ => some (0x0D, tag)
  | .clipOpen tag _ _ _ => some (0x0E, tag)
  | .clipData tag _ _ data => if 1 ≤ data.length ∧ data.length ≤ 240 then some (0x0F, tag) else none
  | .clipClose tag _ => some (0x10, tag)
  | .clipErase tag _ => some (0x11, tag)
  | .queryCrossing tag _ => some (0x12, tag)
  | .queryStation tag _ => some (0x13, tag)
  | .queryClip tag _ => some (0x14, tag)
  | .queryStartUp tag => some (0x15, tag)
  | .restart tag => some (0x16, tag)
  | .powerOn | .selfTestStart | .selfTestCheckComplete _ | .tick _ | .hostLost | .leadEnd _ | .walkEnd _
  | .clearanceEnd _ | .bufferEnd _ | .lampOpenDetected _ _ | .lampShortSensed _ _ | .beaconCheck _ | .beaconRetry _
  | .lineFaultReversion | .quietPeriodEnd | .poll _ | .playTransaction _ | .ackTransaction _ | .setLevelTransaction _
  | .configTransaction _ | .patternTransaction _ | .takeOverTransaction _ | .slotOpenTransaction _
  | .blockTransaction _ | .slotCommitTransaction _ | .unknownKind _ _ _ | .requestWhileBusy | .badCrcFrame
  | .byteGapTimeout | .framingError | .replyBegin | .noticeBegin | .frameSent | .streetLinkByteReceived _ => none

/-! ### Stations (R123, R128) -/

/-- R128: a station that left part control for LOCAL, as an event that is not the host's leaves it. -/
def Station.wentLocal (t : Station) : Station :=
  { t with
    owner := .local, failures := 0, urgent := [], settings := {}, job := none, mirror := {}, press := {}, held := none }

/-- R123: a station that entered TAKING, with the settings set of that moment. -/
def Station.taken (t : Station) (settings : SettingsSet) : Station :=
  { t with
    owner := .taking, failures := 0, clipFault := false, barred := [], urgent := [], settings := settings, job := none,
    mirror := {}, press := {}, held := none }

/-- R126: a station that became LOST. -/
def Station.gone (t : Station) : Station :=
  { t with
    owner := .lost, failures := 3, urgent := [], settings := {}, job := none, mirror := {}, press := {}, held := none }

/-- R130: the notice that reports a station as it stands. -/
def Station.notice (t : Station) (a : StationId) : Notice :=
  .station a t.owner t.speaker t.tactile t.mic t.clipFault

/-- R125, Table 12-14: a station that took a poll reply's mode and fault flags, its failure count at 0. -/
def Station.reported (t : Station) (reply : KerbReply) : Station :=
  { t with
    failures := 0
    lastMode := some (if replyByte reply 2 = 1 then .owned else .local)
    speaker := (replyByte reply 5).getLsbD 2
    tactile := (replyByte reply 5).getLsbD 3
    mic := (replyByte reply 5).getLsbD 4 || replyByte reply 6 == 255 }

/-- R125: a STATION notice where a reply changes one of the three fault flags. -/
def Street.told (u : Street) (a : StationId) (t : Station) (reply : KerbReply) : Street :=
  let t' := t.reported reply
  if t'.speaker = t.speaker ∧ t'.tactile = t.tactile ∧ t'.mic = t.mic then u else u.queued (t'.notice a)

/-- R97, R121: a bound LOCAL station is taken over while CONFIGURED is set and the link is ready. -/
def State.TakesOver (s : State) (a : StationId) : Prop :=
  s.configured = true ∧ s.link.line = .up ∧ s.link.quiet = 0
    ∧ (s.station a).owner = .local ∧ (s.station a).binding.isSome

/-- R130: the STATION notices of a take-over that no request of the host makes: one for each station taken over whose clip
fault flag it clears, in ascending address (log 36). -/
def State.takeOverNotices (s : State) : List Notice :=
  (allStations.filter fun a => (s.station a).owner == .local && (s.station a).binding.isSome && (s.station a).clipFault).map
    fun a => .station a .taking (s.station a).speaker (s.station a).tactile (s.station a).mic false

/-- Table 7-2, R118: the settings of a BIND STATION. -/
def settingsFrom (f : BindFields) : Settings :=
  ⟨f.margin.toNat, f.floor.toNat, f.dayCeiling.toNat, f.nightCeiling.toNat, f.holdThreshold.toNat, f.rampRate.toNat,
    f.locateClip.toNat, f.tactile == 1⟩

/-- R118 check 1, Table 7-2: the fields of a BIND STATION are in range. -/
def bindInRange (address crossing approach : Byte) (f : BindFields) : Prop :=
  1 ≤ address.toNat ∧ address.toNat ≤ 24 ∧ 1 ≤ crossing.toNat ∧ crossing.toNat ≤ 8 ∧ approach.toNat ≤ 1
  ∧ f.margin.toNat ≤ 300 ∧ 300 ≤ f.floor.toNat ∧ f.floor.toNat ≤ 1000
  ∧ f.floor.toNat ≤ f.dayCeiling.toNat ∧ f.dayCeiling.toNat ≤ 1000
  ∧ f.floor.toNat ≤ f.nightCeiling.toNat ∧ f.nightCeiling.toNat ≤ 1000
  ∧ 2 ≤ f.holdThreshold.toNat ∧ f.holdThreshold.toNat ≤ 100 ∧ 1 ≤ f.rampRate.toNat ∧ f.rampRate.toNat ≤ 100
  ∧ f.locateClip.toNat ≤ 64 ∧ f.tactile.toNat ≤ 1

/-- R32, R108, R133, R154: a station without its work, its mirror, its press state and its held content. -/
def Station.stripped (t : Station) : Station :=
  { t with urgent := [], settings := {}, job := none, mirror := {}, press := {}, held := none }

/-! ### Needs and clips (R153, R155, R156) -/

/-- R156: the slot a job is started in: the lowest EMPTY one, else the lowest STALE one, else the first in the commit order
that is RESIDENT with a clip that is no need. -/
def Mirror.Chosen (m : Mirror) (needs : List ClipId) (i : Fin 4) : Prop :=
  let lowest (st : MirrorState) := (m.slots[i]).state = st ∧ ∀ j : Fin 4, j < i → (m.slots[j]).state ≠ st
  let spare (j : Fin 4) := (m.slots[j]).state = .resident ∧ ∀ k ∈ needs, (m.slots[j]).clip ≠ k.val + 1
  if ∃ j : Fin 4, (m.slots[j]).state = .empty then lowest .empty
  else if ∃ j : Fin 4, (m.slots[j]).state = .stale then lowest .stale
  else ∃ before after, m.order = before ++ i :: after ∧ spare i ∧ ∀ j ∈ before, ¬ spare j

/-- R155, R156: a station's mirror and job once its needs are recomputed, `t` being the station before: without a job, the
first need that no slot holds RESIDENT starts one in the chosen slot; otherwise both stay. -/
def State.Served (now : State) (a : StationId) (t : Station) : Prop :=
  let needs := now.needs a
  let u := now.station a
  (t.job ≠ none ∨ (∀ k ∈ needs, t.mirror.holds (k.val + 1) = true) → u.mirror = t.mirror ∧ u.job = t.job)
  ∧ ∀ before k after, t.job = none → needs = before ++ k :: after → t.mirror.holds (k.val + 1) = false →
      (∀ l ∈ before, t.mirror.holds (l.val + 1) = true) →
      (∀ i, t.mirror.Chosen needs i →
        u.mirror = { slots := t.mirror.slots.set i ⟨k.val + 1, .filling⟩, order := t.mirror.order.filter fun j => j ≠ i }
        ∧ u.job = some ⟨i, k, .opening, 0, (now.clip k).blocks, 1⟩)
      ∧ ((∀ i, ¬ t.mirror.Chosen needs i) → u.mirror = t.mirror ∧ u.job = none)

/-- R155: a station whose needs are recomputed where it is OWNED; the mirror and the job of another stay. -/
def State.ServedIfOwned (now : State) (a : StationId) (t : Station) : Prop :=
  if t.owner = .owned then now.Served a t
  else (now.station a).mirror = t.mirror ∧ (now.station a).job = t.job

/-- R153: a station when a clip leaves VALID: its RESIDENT slots of the clip become STALE, and a job for the clip is
abandoned and leaves its slot EMPTY. -/
def Station.unclipped (t : Station) (k : ClipId) : Station :=
  let staled := t.mirror.slots.map fun x =>
    if x.clip = k.val + 1 ∧ x.state = .resident then { x with state := .stale } else x
  match t.job with
  | some j =>
    if j.clip = k then { t with
      job := none, mirror := { slots := staled.set j.slot ⟨0, .empty⟩, order := t.mirror.order.filter fun i => i ≠ j.slot } }
    else { t with mirror := { t.mirror with slots := staled } }
  | none => { t with mirror := { t.mirror with slots := staled } }

/-- R153, R155: a clip left VALID: every station gives up what it holds of it, and the needs of the OWNED ones are
recomputed; no station changes beside its mirror and its job. -/
def State.ClipLeft (k : ClipId) (was now : State) : Prop :=
  ∀ a, { now.station a with mirror := (was.station a).mirror, job := (was.station a).job } = was.station a
    ∧ now.ServedIfOwned a ((was.station a).unclipped k)

/-! ### Transactions (R100, R107) -/

/-- The command that ends a transaction with an item. -/
def Item.ending : Item → KerbReply → Instr
  | .poll => .poll
  | .play _ => .playTransaction
  | .ack => .ackTransaction
  | .takeOver => .takeOverTransaction
  | .config => .configTransaction
  | .pattern _ => .patternTransaction
  | .level => .setLevelTransaction
  | .slotOpen => .slotOpenTransaction
  | .block => .blockTransaction
  | .slotCommit => .slotCommitTransaction

/-- The transaction in progress carries an item for a station, and its outcome counts. -/
def State.Carries (s : State) (a : StationId) (item : Item) (again : Bool) : Prop :=
  s.link.activity = .transaction ⟨a, item, false, again⟩

/-- R104: the fixed order in which a settings set is served. -/
def serviceOrder : List Setting := [.takeOver, .config] ++ allPatterns.map .pattern ++ [.level]

/-- R100, R177: a reply that ends the transaction OK. -/
def OkReply (a : StationId) (item : Item) (reply : KerbReply) : Prop := judge a item reply = .ok

/-! ### Laws every step keeps -/

/-- R1, Table 1-2: the ranges of the Timebase, and LOST exactly when the freshness counter stands at 30. -/
def Timebase.Law (t : Timebase) : Prop :=
  (t.cycle = 0 ∨ (300 ≤ t.cycle ∧ t.cycle ≤ 2400))
  ∧ (t.cycle = 0 → t.pos = 0 ∧ t.presence = .lost ∧ t.correction = 0) ∧ (t.cycle ≠ 0 → t.pos < t.cycle)
  ∧ -20 ≤ t.correction ∧ t.correction ≤ 20 ∧ t.fresh ≤ 30 ∧ (t.presence = .lost ↔ t.fresh = 30)
  ∧ (t.presence = .lost → t.correction = 0)

/-- R167: the notice queue holds at most 32 notices. -/
def State.NoticesLaw (s : State) : Prop := s.street.notices.length ≤ 32

/-- R161 to R163: the frame under reception is one whose length byte was accepted and whose last byte has not come; a
reply waits only while its request is in progress. -/
def State.ReceptionLaw (s : State) : Prop :=
  (∀ l got, s.street.receiver = .body l got → 4 ≤ l.toNat ∧ l.toNat ≤ 250 ∧ got.length < l.toNat + 2)
  ∧ (s.street.reply.isSome → s.street.busy = true)

/-- R148: the blocks held by LOADING and VALID clips number at most 4096. -/
def State.BlocksLaw (s : State) : Prop := s.blocksHeld ≤ 4096

/-- R97, Table 6-1: the ranges of the line's counters, which stand at 0 while the line is UP. -/
def State.LineLaw (s : State) : Prop :=
  s.link.faultAge ≤ 20 ∧ s.link.retry ≤ 9 ∧ s.link.quiet ≤ 20
  ∧ (s.link.line = .up → s.link.faultAge = 0 ∧ s.link.retry = 0)

/-- R103: at most one PLAY and at most one ACK in an urgent list. -/
def UrgentLaw (l : List Urgent) : Prop :=
  (l.filter fun u => u.isPlay).length ≤ 1 ∧ (l.filter fun u => !u.isPlay).length ≤ 1

/-- R103, R123, R132: a station is TAKING, OWNED or LOST only while it is bound and CONFIGURED is set; one that is not
OWNED or TAKING has no work; one that is not OWNED has an UNSET press state (R32). -/
def State.ControlLaw (s : State) : Prop :=
  ∀ a, UrgentLaw (s.station a).urgent
    ∧ ((s.station a).partHeld = true → (s.station a).binding.isSome ∧ s.configured = true)
    ∧ ((s.station a).controlled = false →
        (s.station a).urgent = [] ∧ (s.station a).settings = {} ∧ (s.station a).job = none)
    ∧ ((s.station a).owner ≠ .owned → (s.station a).press = {})

/-- R117, R145: a bound station's ceilings are at least its floor, and its commanded level lies between its floor and the
ceiling in force; A_f lies in 300 to 1000 (R143). -/
def State.LevelLaw (s : State) : Prop :=
  ∀ a, 300 ≤ (s.station a).ambient ∧ (s.station a).ambient ≤ 1000
    ∧ ∀ b, (s.station a).binding = some b →
      b.settings.floor ≤ b.settings.dayCeiling ∧ b.settings.floor ≤ b.settings.nightCeiling
      ∧ b.settings.floor ≤ (s.station a).level
      ∧ (s.station a).level ≤ b.settings.ceiling s.tb.dayNight

/-- R154, R160: a slot is RESIDENT only with a clip that is VALID, and a job copies a VALID clip; while the part is not
RUNNING no station is bound to it, so none holds a clip. -/
def State.ResidentLaw (s : State) : Prop :=
  (∀ a i, ((s.station a).mirror.slots[(i : Fin 4)]).state = .resident →
    ∃ k : ClipId, ((s.station a).mirror.slots[i]).clip = clipNumber k ∧ (s.clip k).state = .valid)
  ∧ (∀ a j, (s.station a).job = some j → (s.clip j.clip).state = .valid)
  ∧ (s.startUp.operating ≠ .running → ∀ a, (s.station a).owner = .absent ∧ (s.station a).job = none
      ∧ (s.station a).mirror = {})

/-- R82, R83: every channel is in use exactly when it is ENABLED and called for, and one not in use delivers nothing. -/
def State.LampLaw (s : State) : Prop :=
  ∀ n, (s.crossing n).LampsFollow ∧ ∀ x, (s.channel n x).inUse = false → (s.channel n x).actual = 0

/-- The sum of the applied targets of the cabinet. -/
def State.appliedSum (s : State) : Nat :=
  (s.crossings.toList.map fun c => c.walkLamp.applied + c.dontLamp.applied).sum

/-- R85: the countdown is blank but in CLEARANCE with the countdown enabled, where it is the clearance remaining over
ten, rounded up, at most 99. -/
def State.CountdownLaw (s : State) : Prop :=
  ∀ n, (s.crossing n).countdown =
    match (s.crossing n).state, (s.crossing n).walk with
    | .clearance, some w =>
      if (s.crossing n).countdownOn then some (min ((w.count + 9) / 10) 99) else none
    | _, _ => none

/-- The interval states of a walk in hand (Figure 4-1). -/
def IntervalState.walks : IntervalState → Bool
  | .starting | .walk | .clearance | .buffer => true
  | _ => false

/-- R51, R52, R70: a walk record exists exactly in the four states of a walk, with the settled state as its target; a
waiting crossing is in its settled state, but for one that DONT_LAMP took to FAULT while its mode was OFF (R74, log 32);
a crossing in STARTING or WALK has no cause, a mode that walks, a host that is PRESENT and its bit of the stored mask; a
channel in use is called for; a part that is not RUNNING has every crossing DARK. -/
def State.WalkLaw (s : State) : Prop :=
  ∀ n,
    ((s.crossing n).walk.isSome = (s.crossing n).state.walks)
    ∧ (∀ w, (s.crossing n).walk = some w → w.target = (s.crossing n).settled)
    ∧ ((s.crossing n).state.walks = false → (s.crossing n).state = (s.crossing n).settled
        ∨ ((s.crossing n).state = .fault ∧ (s.crossing n).mode = .off ∧ (s.crossing n).causes.dontLamp = true))
    ∧ ((s.crossing n).state = .starting ∨ (s.crossing n).state = .walk →
        (s.crossing n).causes = {} ∧ ((s.crossing n).mode = .normal ∨ (s.crossing n).mode = .recall)
        ∧ s.tb.presence = .present ∧ s.tb.mask.getLsbD n.val = true)
    ∧ (∀ x, (s.channel n x).inUse = true → (s.crossing n).state.calls x = true)
    ∧ (s.startUp.operating ≠ .running → (s.crossing n).state = .dark ∧ (s.crossing n).mode = .off)

end Sys2Proof.Machine
end

