-- ==== Sys2Proof/Certificates/Slice0/Obligations.lean ====
section
/-! DEFINITION. The statements for the provers, each from the rules of spec/ its docstring names. -/

open Sys2Proof Sys2Proof.Machine

/-! ### The queue, and the start of the part -/

/-- A step takes the command at the front of the queue and runs it with the queue's rest. That an empty queue idles is the
model's choice (log 23). -/
def Obligations.StepRunsTheFrontCommand : Prop :=
  (∀ (c : Instr) (rest : List Instr) (s : State),
    step { s with pending := c :: rest } = exec c { s with pending := rest })
  ∧ ∀ s : State, s.pending = [] → step s = .next s

/-- R171: power-on gives every item the value of its chapter's table; the waiting commands and the count of free orders stay
(logs 16, 26, 41, 43). The values of the model's own fields are the model's choice (logs 27, 38). -/
def Obligations.PowerOnSetsResetValues : Prop :=
  ∀ s : State, ∃ t, exec .powerOn s = .next t
    ∧ t = { State.reset with
        startUp := { State.reset.startUp with number := s.startUp.number + 1 }, draws := s.draws, pending := s.pending }
    ∧ t.tb = ⟨0, 0, 0, .day, .lost, 30, 0, 0⟩
    ∧ (∀ n, t.crossing n =
      { active := none, unusable := false, planned := none, placeA := none, placeB := none, mode := .off,
        state := .dark, causes := ⟨false, false, false, false⟩, served := false, inWindow := false, walk := none,
        countdown := none, countdownOn := false,
        walkLamp := ⟨1, 0, 0, 10, 0, false, 0, 0, 0, true⟩, dontLamp := ⟨1, 0, 0, 10, 0, false, 0, 0, 0, true⟩ })
    ∧ t.budgetLimit = false
    ∧ (∀ a, t.station a =
      { binding := none, owner := .absent, failures := 0, lastMode := none, ambient := 600, level := 0,
        speaker := false, tactile := false, mic := false, latePlay := false,
        mirror := ⟨Vector.replicate 4 ⟨0, .empty⟩, []⟩, clipFault := false, barred := [], press := ⟨none, false⟩,
        held := none, urgent := [], settings := ⟨false, false, 0, false⟩, job := none })
    ∧ t.configured = false
    ∧ t.link = ⟨0, .up, 0, 0, 0, 23, true, 0, .idle, false, []⟩
    ∧ t.patternOf 1 = some ⟨100, true, false, [(0, true), (4, false)]⟩
    ∧ t.patternOf 2 = some ⟨12, true, false, [(0, true), (3, false)]⟩
    ∧ t.patternOf 3 = some ⟨50, false, false, [(0, true), (10, false), (15, true), (25, false)]⟩
    ∧ t.patternOf 4 = some ⟨100, true, false, [(0, true), (4, false)]⟩
    ∧ (∀ k : PatternId, 4 ≤ k.val → t.patternOf (k.val + 1) = none)
    ∧ t.libraryEnabled = true ∧ (∀ k, t.clip k = ⟨.empty, 0, 0, 0, 0, []⟩)
    ∧ t.street = ⟨.hunt, false, none, none, [], false⟩
    ∧ t.startUp = ⟨.selfTest, some .configRom, {}, {}, Vector.replicate 16 false, s.startUp.number + 1⟩

/-- R170, R171, R148, R175: when the last byte of an accepted RESTART's reply has gone, the part is as after power-on, but that
the Clip Library keeps its enabled flag and its VALID clips; a completion of the old self-test does not occur. That a
completion names its self-test by a number is the model's choice (log 38). -/
def Obligations.RestartKeepsOnlyValidClips : Prop :=
  ∀ (s : State) (bytes : List Byte), s.street.sending = some ⟨.restartReply, bytes⟩ →
    ∃ t p, exec .selfTestStart s = .next t ∧ exec .frameSent s = .next t ∧ exec .powerOn s = .next p
      ∧ (∀ k, t.clip k = if (s.clip k).state = .valid then s.clip k else p.clip k)
      ∧ t.libraryEnabled = s.libraryEnabled
      ∧ { t with clips := p.clips, libraryEnabled := p.libraryEnabled } = p
      ∧ ∀ found : CheckInputs, found.selfTest ≤ s.startUp.number → exec (.selfTestCheckComplete found) t = .next t

/-- R172, R173: a check completes: its name joins the done set, and the failed set where it failed; the next check begins,
or the self-test ends with its START-UP notice. A completion of a check that is not in progress, or of a self-test that has
ended, changes nothing. That PLAN_MEMORY clears the unusable mark with the slots it empties is the model's reading (log 33),
and that a completion names its self-test by a number and its check is the model's choice (log 38). -/
def Obligations.SelfTestCheckCompletes : Prop :=
  (∀ (s : State) (found : CheckInputs),
    s.startUp.operating ≠ .selfTest ∨ s.startUp.number ≠ found.selfTest ∨ s.startUp.check ≠ some found.check →
    exec (.selfTestCheckComplete found) s = .next s)
  ∧ ∀ (s : State) (c : Check) (found : CheckInputs),
    s.startUp.operating = .selfTest → s.startUp.check = some c → found.check = c → found.selfTest = s.startUp.number →
    ∃ t, exec (.selfTestCheckComplete found) s = .next t
      ∧ t.startUp.number = s.startUp.number
      ∧ (c ≠ .headDrivers → t.startUp.failedChannels = s.startUp.failedChannels)
      ∧ t.startUp.done = s.startUp.done.add c
      ∧ (checkPasses found c → t.startUp.failed = s.startUp.failed)
      ∧ (¬ checkPasses found c → t.startUp.failed = s.startUp.failed.add c)
      ∧ (c = .streetLine → t.startUp.operating = .running ∧ t.startUp.check = none)
      ∧ ((c = .configRom ∨ c = .workMemory) → ¬ checkPasses found c →
          t.startUp.operating = .halted ∧ t.startUp.check = none)
      ∧ (c ≠ .streetLine → (c = .configRom ∨ c = .workMemory → checkPasses found c) →
          t.startUp.operating = .selfTest ∧ t.street = s.street
          ∧ (c, t.startUp.check) ∈ [(.configRom, some .workMemory), (.workMemory, some .planMemory),
            (.planMemory, some .clipMemory), (.clipMemory, some .headDrivers), (.headDrivers, some .kerbLine),
            (.kerbLine, some Check.streetLine)])
      ∧ (t.startUp.operating ≠ .selfTest →
          t.street = s.street.queued (.startUp t.startUp.done t.startUp.failed t.startUp.operating))
      ∧ (c = .planMemory → ∀ n, t.crossing n = { s.crossing n with active := none, planned := none, unusable := false })
      ∧ (c ≠ .planMemory → c ≠ .headDrivers → t.crossings = s.crossings ∧ t.budgetLimit = s.budgetLimit)
      ∧ (c = .clipMemory → t.libraryEnabled = found.good ∧ ∀ k, t.clip k =
          if found.good = true ∧ ((s.clip k).state = .valid → (s.clip k).verifies = true) then s.clip k else {})
      ∧ (c ≠ .clipMemory → t.clips = s.clips ∧ t.libraryEnabled = s.libraryEnabled)
      ∧ (c = .kerbLine → t.link = if found.heard = ⟨some 0, some 0, some 0, some 0xFF⟩ then s.link
          else { s.link with line := .fault, faultAge := 0, retry := 0 })
      ∧ (c ≠ .kerbLine → c ≠ .streetLine → t.link = s.link)
      ∧ t.tb = s.tb ∧ t.stations = s.stations ∧ t.configured = s.configured ∧ t.patterns = s.patterns
      ∧ t.draws = s.draws ∧ t.pending = s.pending

/-- R172: HEAD_DRIVERS disables each channel whose pulse fails, lists it, and adds its cause to its crossing without a
notice; every other channel is as before but for the budget. Channel 2n − 1 is the WALK channel of crossing n.
That a completion names its self-test by a number is the model's choice (log 38). -/
def Obligations.HeadDriversDisablesFailedChannels : Prop :=
  (∀ n, (channelIndex n .walk).val + 1 = 2 * (n.val + 1) - 1 ∧ (channelIndex n .dont).val + 1 = 2 * (n.val + 1))
  ∧ ∀ (s : State) (found : CheckInputs), s.startUp.operating = .selfTest → s.startUp.check = some .headDrivers →
    found.check = .headDrivers → found.selfTest = s.startUp.number →
    ∃ t, exec (.selfTestCheckComplete found) s = .next t
      ∧ (∀ n x, pulseBad found n x = true →
          t.channel n x = { s.channel n x with enabled := false, inUse := false, actual := 0, applied := 0 }
          ∧ t.startUp.failedChannels[channelIndex n x] = true)
      ∧ (∀ n x, pulseBad found n x = false →
          { t.channel n x with applied := (s.channel n x).applied } = s.channel n x
          ∧ t.startUp.failedChannels[channelIndex n x] = s.startUp.failedChannels[channelIndex n x])
      ∧ (∀ n, (t.crossing n).core = { s.crossing n with
          causes := { (s.crossing n).causes with
            walkLamp := (s.crossing n).causes.walkLamp || pulseBad found n .walk
            dontLamp := (s.crossing n).causes.dontLamp || pulseBad found n .dont } }.core)
      ∧ ((∃ n x, pulseBad found n x = true) → t.BudgetLaw)
      ∧ t.street = s.street

/-! ### The tick and the host -/

/-- R2, R3, R11, R24, R55, R88, R91: a tick moves the position by the correction rule, works the correction off by one and
opens a Kerb Link frame in RUNNING; then it does each piece of its work once: every crossing's count, window and start
evaluation, the swap where it made a wrap, the count of freshness to the loss of the host, a ramp step of every channel, and
each channel's open test. The pieces come in the order the operand names, an order the rules leave free (log 2), as they leave
that of the crossings at a loss of the host (log 43); that the position and the frame come first, and the order within the
swap and the ramp steps, are the model's (log 3), and so are that HOST_LOST makes the loss alone (log 1) and that the
differences of the stores come last (log 4). A walk that the tick truncates before its crossing's work, which counts its
clearance at once, has the release position one tick sooner, by the model's reading (log 42). -/
def Obligations.TickAdvancesTheTimebase : Prop :=
  (∀ (s : State) (i : TickInputs), ∃ t, exec (.tick i) s = .next t
    ∧ t.tb.cycle = s.tb.cycle ∧ t.tb.mask = s.tb.mask ∧ t.tb.dayNight = s.tb.dayNight
    ∧ (s.tb.cycle = 0 → t.tb.pos = 0 ∧ t.tb.correction = 0)
    ∧ (s.tb.cycle ≠ 0 →
        let a := if 0 < s.tb.correction then 2 else if s.tb.correction < 0 then 0 else 1
        t.tb.pos = if s.tb.pos + a < s.tb.cycle then s.tb.pos + a else s.tb.pos + a - s.tb.cycle)
    ∧ (s.tb.cycle ≠ 0 → t.tb.presence = s.tb.presence → t.tb.correction =
        if 0 < s.tb.correction then s.tb.correction - 1
        else if s.tb.correction < 0 then s.tb.correction + 1 else 0)
    ∧ (s.tb.presence = .lost → t.tb.presence = .lost ∧ t.tb.fresh = s.tb.fresh)
    ∧ (s.tb.presence = .present → s.tb.fresh + 1 < 30 → t.tb.presence = .present ∧ t.tb.fresh = s.tb.fresh + 1)
    ∧ (s.tb.presence = .present → 30 ≤ s.tb.fresh + 1 →
        t.tb.presence = .lost ∧ t.tb.fresh = 30 ∧ t.tb.correction = 0)
    ∧ t.configured = s.configured ∧ t.patterns = s.patterns ∧ t.startUp = s.startUp
    ∧ t.libraryEnabled = s.libraryEnabled ∧ t.pending = s.pending
    ∧ (t.draws = s.draws ∨ (s.tb.presence = .present ∧ 30 ≤ s.tb.fresh + 1 ∧ t.draws = s.draws + 1))
    ∧ (i.upsets = [] → t.clips = s.clips)
    ∧ (let a := if 0 < s.tb.correction then 2 else if s.tb.correction < 0 then 0 else 1
      let wraps := decide (s.tb.cycle ≠ 0 ∧ s.tb.cycle ≤ s.tb.pos + a)
      let moved := { s with tb := { s.tb with
        pos := t.tb.pos, tickPos := t.tb.pos
        correction := if s.tb.cycle = 0 then 0 else if 0 < s.tb.correction then s.tb.correction - 1
          else if s.tb.correction < 0 then s.tb.correction + 1 else 0 } }
      let opened := if s.startUp.operating = .running then moved.openFrame else moved
      t = (forEach (workOf i) (State.doWork s i.load wraps) opened).upsets i.upsets))
  ∧ (∀ i : TickInputs, (workOf i).Perm ([.freshness, .swap, .ramps] ++ allCrossings.map .crossing
        ++ (allCrossings.map fun n => .test n .walk) ++ allCrossings.map fun n => .test n .dont)
      ∧ ∀ v w, i.order.idxOf v < i.order.idxOf w → (workOf i).idxOf v < (workOf i).idxOf w)
  ∧ ∀ (was : State) (load : Vector Nat 16) (wraps : Bool) (u : State),
      (∀ n, (was.crossing n).state ≠ .walk ∨ (u.crossing n).state ≠ .clearance →
        State.doWork was load wraps (.crossing n) u = ((u.countStage n).windowStage n).startStage n)
      ∧ (∀ n w, (was.crossing n).state = .walk → (u.crossing n).state = .clearance → (u.crossing n).walk = some w →
        State.doWork was load wraps (.crossing n) u =
          (((u.setCrossing n { u.crossing n with walk := some { w with
            release := (u.tb.pos + w.clearance + w.buffer - 1) % u.tb.cycle } }).countStage n).windowStage n).startStage n)
      ∧ State.doWork was load wraps .swap u = (if wraps then forEach allCrossings (fun n v => v.swapAt n) u else u)
      ∧ (u.tb.presence = .present → 30 ≤ u.tb.fresh + 1 →
          exec .hostLost u = .next (State.doWork was load wraps .freshness u))
      ∧ (u.tb.presence = .present → u.tb.fresh + 1 < 30 →
          State.doWork was load wraps .freshness u = { u with tb := { u.tb with fresh := u.tb.fresh + 1 } })
      ∧ (u.tb.presence = .lost → State.doWork was load wraps .freshness u = u)
      ∧ (let ramped := State.doWork was load wraps .ramps u
        (∀ n x, ramped.channel n x = (u.channel n x).rampStep) ∧ (∀ n, (ramped.crossing n).core = (u.crossing n).core)
        ∧ { ramped with crossings := u.crossings } = u)
      ∧ ∀ n x, State.doWork was load wraps (.test n x) u = u.testChannel load[channelIndex n x] n x

/-- R98, R99, R110, R111, R113: in RUNNING a tick opens the next Kerb Link frame: its number, the beacon the line state
calls for, the fault age and retry count, the reversion at age 20, the quiet counter. That the frame opens before the
tick's other work, and that a transaction or a beacon still in progress is dropped, is the model's reading (logs 3,
11). -/
def Obligations.TickOpensTheKerbFrame : Prop :=
  ∀ (s : State) (i : TickInputs), s.startUp.operating = .running →
    ∃ t, exec (.tick i) s = .next t ∧
      let f : Byte := if s.link.keepNumber then s.link.frame else s.link.frame + 1
      let bit : Byte := if s.configured = true ∧ s.link.quiet = 0 then 1 else 0
      let beacon : List Byte := [0, f, bit, 0xFF ^^^ f ^^^ bit]
      t.link.frame = f ∧ t.link.keepNumber = false ∧ t.link.quiet = s.link.quiet - 1
      ∧ t.link.pointer = s.link.pointer ∧ t.link.line = s.link.line ∧ t.link.closed = decide (s.link.quiet ≠ 0)
      ∧ (s.link.line = .up → t.link.activity = .beacon false ∧ t.link.sent = beacon ∧ t.link.used = 460
          ∧ t.link.faultAge = s.link.faultAge ∧ t.link.retry = s.link.retry)
      ∧ (s.link.line = .fault → t.link.faultAge = min 20 (s.link.faultAge + 1)
          ∧ if 10 ≤ s.link.retry + 1 then
              t.link.retry = 0 ∧ t.link.activity = .beacon true ∧ t.link.sent = beacon ∧ t.link.used = 460
            else t.link.retry = s.link.retry + 1 ∧ t.link.activity = .idle ∧ t.link.sent = s.link.sent
              ∧ t.link.used = 0)
      ∧ (s.link.line = .fault → s.link.faultAge = 19 → ∀ a, t.station a =
          if (s.station a).partHeld then (s.station a).wentLocal else s.station a)

/-- R11, R13, R71: the host becomes LOST: every permit falls, a crossing in STARTING is cancelled to REST, one in WALK is
truncated with HOST_LOSS, and every other crossing runs on. The crossings come in an order that R95 leaves free (log 43). That
CYCLE LOST is queued before their notices, the command that makes this one event alone, and the release position of a
truncated walk are the model's (logs 19, 1 and 42). -/
def Obligations.HostLossWithdrawsEveryPermit : Prop :=
  ∀ s : State, s.tb.presence = .present → 30 ≤ s.tb.fresh + 1 → s.PlansSound →
    (∀ n, (s.crossing n).state = .starting ∨ (s.crossing n).state = .walk →
      (s.crossing n).walk.any fun w => w.target == .rest) →
    ∃ t, exec .hostLost s = .next t
      ∧ t.tb = { s.tb with presence := .lost, fresh := 30, correction := 0 } ∧ t.maskInForce = 0
      ∧ (∀ n w, (s.crossing n).walk = some w → (s.crossing n).state = .starting →
          (t.crossing n).core = ((s.crossing n).cancelled w .rest).core)
      ∧ (∀ n w, (s.crossing n).walk = some w → (s.crossing n).state = .walk →
          (t.crossing n).core =
            ((s.crossing n).cleared (s.truncated w .hostLoss) (s.planValues n).countdown).core)
      ∧ (∀ n, (s.crossing n).state ≠ .starting → (s.crossing n).state ≠ .walk →
          (s.crossing n).SameButApplied (t.crossing n))
      ∧ (∀ n, (s.crossing n).state = .starting ∨ (s.crossing n).state = .walk → (t.crossing n).LampsFollow)
      ∧ s.PlaysQueuedAt (fun m _ => (s.crossing m).state == .starting || (s.crossing m).state == .walk) t
      ∧ (∃ order : List CrossingId, order.Perm (allCrossings.filter fun n => (s.crossing n).state == .walk)
          ∧ t.street = (Notice.cycle .lost :: order.map fun n => Notice.truncate n .hostLoss).foldl Street.queued s.street)
      ∧ { s with tb := t.tb, draws := t.draws }.Beside t ∧ (t.draws = s.draws ∨ t.draws = s.draws + 1)
      ∧ ∃ order : List CrossingId, order.Perm allCrossings
          ∧ t = forEach order (fun n u => u.hostLossAt n) { s with
              tb := t.tb, draws := t.draws, street := s.street.queued (.cycle .lost) }

/-- R6: the drift of host position p from local position l on cycle length c is the shortest way from l to p, half an even
cycle counted as behind; with the rule's four examples. -/
def Obligations.DriftIsTheShortestDifference : Prop :=
  (∀ p l c : Nat, p < c → l < c →
    ∃ u : Nat, u < c ∧ (∃ k : Int, (u : Int) = (p : Int) - l + k * c)
      ∧ driftOf p l c = (if u ≤ c / 2 then (u : Int) else (u : Int) - c)
      ∧ -(((c + 1) / 2 : Nat) - 1 : Int) ≤ driftOf p l c ∧ driftOf p l c ≤ ((c / 2 : Nat) : Int))
  ∧ driftOf 5 895 900 = 10 ∧ driftOf 895 5 900 = -10 ∧ driftOf 450 0 901 = 450 ∧ driftOf 451 0 901 = -450

/-- R5, R7 to R10, R13, R14, R70, R90, R146, R166: an accepted SYNC sets the mask, the day/night flag, freshness and
presence, moves or corrects the position, lets the fallen permits act, and is answered with the report of the whole part as
it then stands; the notices-lost flag, reported set when it was, is cleared. A change of day and night gives every channel
the nominal target of the fine now in force and re-evaluates every bound station's level. The falls, the change of day and
night and the position come in an order that R25 and R147 leave free (log 16), but that the change comes before the position;
that the report comes last is the model's (log 40). A new cycle length may read one free order of the crossings more
(log 43). -/
def Obligations.SyncAcceptedSetsTheTimebase : Prop :=
  ∀ (s : State) (tag mask dn : Byte) (cycle position : Half) (d : DayNight),
    s.Takes → 300 ≤ cycle.toNat → cycle.toNat ≤ 2400 → position.toNat < cycle.toNat →
    (dn = 0 ∧ d = .day) ∨ (dn = 1 ∧ d = .night) →
    ∃ t, exec (.sync tag cycle position mask dn) s = .next t ∧
      let drift := driftOf position.toNat s.tb.pos s.tb.cycle
      let gradual : Bool := s.tb.presence == .present && cycle.toNat == s.tb.cycle && decide (drift.natAbs ≤ 20)
      let falls := allCrossings.filter fun n =>
        s.tb.presence == .present && s.tb.mask.getLsbD n.val && !mask.getLsbD n.val
      t.tb = { s.tb with
        mask := mask, dayNight := d, fresh := 0, presence := .present, cycle := cycle.toNat
        pos := if gradual then s.tb.pos else position.toNat
        correction := if gradual then drift else 0 }
      ∧ t.street.receiver = .hunt ∧ t.street.busy = true ∧ t.street.sending = s.street.sending
      ∧ t.street.lost = false
      ∧ (∃ lost : Bool, t.street.reply = some ⟨.reply, replyFrame 0x01 tag .ok
            ((allCrossings.map fun n => (t.crossing n).state.code)
              ++ [bits (allCrossings.map fun n => t.hasDemand n),
                bits (allCrossings.map fun n => !(t.crossing n).causes.isEmpty),
                bits [t.budgetLimit, t.link.line == .fault, lost]])⟩
          ∧ (s.street.lost = true → lost = true)
          ∧ (lost = true → s.street.lost = true ∨ 32 ≤ t.street.notices.length))
      ∧ t.configured = s.configured ∧ t.patterns = s.patterns ∧ t.clips = s.clips
      ∧ t.libraryEnabled = s.libraryEnabled ∧ t.startUp = s.startUp ∧ t.pending = s.pending
      ∧ (t.draws = s.draws + 1 ∨ (cycle.toNat ≠ s.tb.cycle ∧ t.draws = s.draws + 2))
      ∧ (∃ order : List SyncWork, order.Perm (falls.map .fall ++ (if d = s.tb.dayNight then [] else [.turn]) ++ [.position])
          ∧ (d ≠ s.tb.dayNight → order.idxOf .turn < order.idxOf .position)
          ∧ let u := forEach order (State.doSync s.tb.presence cycle.toNat position.toNat d) { s with
              tb := { s.tb with mask := mask, fresh := 0, presence := .present }
              street := { s.street with receiver := .hunt, busy := true }
              draws := s.draws + 1 }
            t.crossings = u.crossings ∧ t.stations = u.stations ∧ t.budgetLimit = u.budgetLimit ∧ t.link = u.link
              ∧ t.street.notices = u.street.notices)
      ∧ (∀ n x, (t.channel n x).nominal = if d = s.tb.dayNight then (s.channel n x).nominal
          else 100 * (s.channel n x).coarse
            * (if d = .day then (s.channel n x).dayFine else (s.channel n x).nightFine) / 255)
      ∧ (gradual = true → falls = [] →
          t.street.notices = s.street.notices ∧ s.link.SameButAgain t.link
          ∧ (d = s.tb.dayNight → t.crossings = s.crossings ∧ t.stations = s.stations ∧ t.budgetLimit = s.budgetLimit)
          ∧ (d ≠ s.tb.dayNight → t.BudgetLaw
              ∧ (∀ n, (t.crossing n).core = (s.crossing n).core)
              ∧ (∀ n x, { t.channel n x with nominal := (s.channel n x).nominal, applied := (s.channel n x).applied } =
                  s.channel n x)
              ∧ ∀ a, ((s.station a).binding = none → t.station a = s.station a)
                ∧ ∀ b, (s.station a).binding = some b →
                  let ceiling := b.settings.ceiling d
                  let target := min (max ((s.station a).ambient + b.settings.margin) b.settings.floor) ceiling
                  let level := (s.station a).level
                  let moves := level + 20 ≤ target ∨ target + 20 ≤ level ∨ ceiling < level ∨ level < b.settings.floor
                  t.station a = { s.station a with
                    level := if moves then target else level
                    settings := if moves ∧ target ≠ level ∧ (s.station a).controlled = true then
                      { (s.station a).settings with level := true } else (s.station a).settings }))

/-- R4, R163, R174: a SYNC whose cycle length, position or day/night field is out of range is refused with BAD_FIELD, and
changes nothing; in range it is answered OK with every mask. Outside RUNNING it is answered BAD_STATE and one of a wrong
length BAD_LENGTH, and neither changes anything else. That a SYNC of a wrong length comes as the command UNKNOWN_KIND with
the kind of SYNC is the model's choice (log 8). -/
def Obligations.SyncOutOfRangeIsRefused : Prop :=
  (∀ (s : State) (tag mask dn : Byte) (cycle position : Half), s.Takes →
    let out := cycle.toNat < 300 ∨ 2400 < cycle.toNat ∨ cycle.toNat ≤ position.toNat ∨ (dn ≠ 0 ∧ dn ≠ 1)
    (out → exec (.sync tag cycle position mask dn) s = .next (s.answered 0x01 tag .badField []))
    ∧ (¬ out → ∃ t fields, exec (.sync tag cycle position mask dn) s = .next t
        ∧ t.street.reply = some ⟨.reply, replyFrame 0x01 tag .ok fields⟩))
  ∧ (∀ (s : State) (tag mask dn : Byte) (cycle position : Half), s.street.busy = false →
    s.startUp.operating ≠ .running →
    exec (.sync tag cycle position mask dn) s = .next (s.answered 0x01 tag .badState []))
  ∧ ∀ (s : State) (tag : Byte) (payload : List Byte), s.street.busy = false → payload.length ≠ 6 →
    exec (.unknownKind 0x01 tag payload) s = .next (s.answered 0x01 tag .badLength [])

/-- R8 to R10, R15: the CYCLE notices of an accepted SYNC, at a part none of whose crossings has a notice to give. (Beside
a crossing's notice the order is the model's, log 19.) -/
def Obligations.SyncQueuesItsCycleNotices : Prop :=
  ∀ (s : State) (tag mask dn : Byte) (cycle position : Half), s.Takes → s.PlansSound →
    (∀ n, (s.crossing n).state = .dark ∨ (s.crossing n).state = .hold ∨ (s.crossing n).state = .fault) →
    300 ≤ cycle.toNat → cycle.toNat ≤ 2400 → position.toNat < cycle.toNat → (dn = 0 ∨ dn = 1) →
    ∃ t, exec (.sync tag cycle position mask dn) s = .next t ∧
      let notices : List Notice :=
        if s.tb.presence = .lost then
          if s.tb.cycle = 0 then []
          else if cycle.toNat = s.tb.cycle then [.cycle .regained] else [.cycle .regained, .cycle .length]
        else if cycle.toNat ≠ s.tb.cycle then [.cycle .length]
        else if 20 < (driftOf position.toNat s.tb.pos s.tb.cycle).natAbs then [.cycle .step] else []
      t.street.notices = (notices.foldl Street.queued s.street).notices

/-- R13, R70, R46, R63, R67, R73: a permit is withdrawn by a SYNC that changes nothing else: STARTING is cancelled with
its calls restored, WALK is truncated with CONFLICT, CLEARANCE and BUFFER take CONFLICT, a waiting crossing does not
change. The release position of a truncated walk is the model's reading (log 42). -/
def Obligations.WithdrawnPermitActsByInterval : Prop :=
  (∀ c h : Call, restoredCall none (some h) = some h ∧ restoredCall (some c) none = some c
    ∧ restoredCall (some c) (some h) =
      some ⟨c.accessible || h.accessible, c.source, c.first, min 255 (c.presses + h.presses)⟩)
  ∧ ∀ (s : State) (n : CrossingId) (tag mask dn : Byte) (cycle position : Half),
    s.Takes → (s.crossing n).sound = true → s.tb.presence = .present →
    300 ≤ cycle.toNat → cycle.toNat ≤ 2400 → position.toNat < cycle.toNat →
    cycle.toNat = s.tb.cycle → position.toNat = s.tb.pos →
    ((dn = 0 ∧ s.tb.dayNight = .day) ∨ (dn = 1 ∧ s.tb.dayNight = .night)) →
    s.tb.mask.getLsbD n.val = true → mask.getLsbD n.val = false →
    (∀ m, m ≠ n → s.tb.mask.getLsbD m.val = true → mask.getLsbD m.val = true) →
    ∃ t, exec (.sync tag cycle position mask dn) s = .next t ∧
      let u := { s with tb := t.tb, draws := t.draws }
      (((s.crossing n).state = .dark ∨ (s.crossing n).state = .rest ∨ (s.crossing n).state = .hold
          ∨ (s.crossing n).state = .fault) →
        t.crossings = s.crossings ∧ t.stations = s.stations ∧ t.street.notices = s.street.notices)
      ∧ (∀ w, (s.crossing n).walk = some w → (s.crossing n).state = .starting → w.target = .rest →
          u.Becomes n ((s.crossing n).cancelled w .rest) t ∧ s.PlaysQueued n t
          ∧ t.street.notices = s.street.notices)
      ∧ (∀ w, (s.crossing n).walk = some w → (s.crossing n).state = .walk → (s.crossing n).mode ≠ .off →
          (s.crossing n).causes = {} →
          u.Becomes n ({ s.crossing n with causes := { conflict := true } }.cleared
              { s.truncated w .conflict with target := .fault } (s.planValues n).countdown) t
          ∧ s.PlaysQueued n t
          ∧ t.street.notices =
              ((s.street.queued (.truncate n .conflict)).queued (.fault n { conflict := true })).notices)
      ∧ (∀ w, (s.crossing n).walk = some w →
          ((s.crossing n).state = .clearance ∨ (s.crossing n).state = .buffer) → (s.crossing n).mode ≠ .off →
          (s.crossing n).causes.conflict = false →
          u.Only n { s.crossing n with
            causes := { (s.crossing n).causes with conflict := true }, walk := some { w with target := .fault } } t
          ∧ t.stations = s.stations
          ∧ t.street.notices =
              (s.street.queued (.fault n { (s.crossing n).causes with conflict := true })).notices)

/-! ### Plans -/

/-- R18, R19, R26, R30: the window length and the clearances of an accepted plan, and membership and remaining window of a
position; a crossing out of plan has no window; the values that other blocks take from a usable plan, and those of Table 2-4
in the absence of one, where an undefined pattern is silence (in CLEARANCE too, log 34). -/
def Obligations.PlanValuesFollowTheRecord : Prop :=
  (∀ p : Plan, p.inRange = true → p.openAt ≠ p.endAt → p.accessibleSpeed ≤ p.normalSpeed →
    (1 ≤ p.windowLength ∧ p.windowLength < p.cycle ∧ (p.openAt + p.windowLength) % p.cycle = p.endAt)
    ∧ (10 * p.distance ≤ p.normalSpeed * p.normalClearance
        ∧ p.normalSpeed * (p.normalClearance - 1) < 10 * p.distance)
    ∧ (10 * p.distance ≤ p.accessibleSpeed * p.accessibleClearance
        ∧ p.accessibleSpeed * (p.accessibleClearance - 1) < 10 * p.distance)
    ∧ 20 ≤ p.normalClearance ∧ p.normalClearance ≤ 400
    ∧ 28 ≤ p.accessibleClearance ∧ p.accessibleClearance ≤ 667 ∧ p.normalClearance ≤ p.accessibleClearance
    ∧ (∀ x, x < p.cycle → (p.inWindow x = true ↔ (x + p.cycle - p.openAt) % p.cycle < p.windowLength))
    ∧ (∀ x, x < p.cycle → p.inWindow x = true →
        1 ≤ p.remaining x ∧ p.remaining x ≤ p.windowLength ∧ (x + p.remaining x) % p.cycle = p.endAt)
    ∧ p.inWindow p.openAt = true ∧ p.remaining p.openAt = p.windowLength ∧ p.inWindow p.endAt = false)
  ∧ (∀ (s : State) (n : CrossingId), s.outOfPlan n = true → s.positionInWindow n = false)
  ∧ ∀ (s : State) (n : CrossingId),
    let substitute (k : Nat) := if s.patternOf k = none then 0 else k
    (∀ r, (s.crossing n).active = some r → (s.crossing n).unusable = false →
      s.planValues n = ⟨r.plan.locator, r.plan.walkPattern,
        if r.plan.clearancePattern = 0 then r.plan.locator else r.plan.clearancePattern, r.plan.acknowledge,
        r.plan.walkClip, r.plan.countdown⟩
      ∧ (s.outOfPlan n = true ↔ r.plan.cycle ≠ s.tb.cycle))
    ∧ ((s.crossing n).active = none ∨ (s.crossing n).unusable = true →
      s.planValues n = ⟨substitute 1, substitute 2, substitute 4, substitute 3, 0, false⟩ ∧ s.outOfPlan n = true)

/-- R20 to R22: a SET PLAN is answered with the status of the first check of Table 2-3 that fails, and then changes
nothing; one that passes them all is answered OK. -/
def Obligations.SetPlanAnswersTheFirstFailedCheck : Prop :=
  ∀ (s : State) (tag crossing : Byte) (f : PlanFields), s.Takes →
    (s.planStatus crossing f ≠ .ok →
      exec (.setPlan tag crossing f) s = .next (s.answered 0x02 tag (s.planStatus crossing f) []))
    ∧ (s.planStatus crossing f = .ok → ∃ t, exec (.setPlan tag crossing f) s = .next t
        ∧ t.street.reply = some ⟨.reply, replyFrame 0x02 tag .ok []⟩ ∧ t.street.busy = true)

/-- R23, R155, R156: an accepted SET PLAN puts its record into the crossing's pending slot, and the needs of the crossing's
OWNED stations are recomputed: the VALID clips not barred that the active plan, the pending plan and the station's settings
name, in that order, each once; a station without a job starts one for the first that it does not hold RESIDENT, in the
slot of R156. Nothing else changes. -/
def Obligations.SetPlanFillsThePendingSlot : Prop :=
  (∀ (s : State) (a : StationId) (b : Binding), (s.station a).binding = some b →
    let planned := match (s.crossing b.crossing).planned with
      | some r => r.plan.walkClip
      | none => 0
    let serves (m : Nat) := decide (∃ k : ClipId, m = k.val + 1 ∧ (s.clip k).state = .valid ∧ k ∉ (s.station a).barred)
    (s.needs a).map (fun k => k.val + 1) =
      distinct ([(s.planValues b.crossing).walkClip, planned, b.settings.locateClip].filter serves))
  ∧ ∀ (s : State) (n : CrossingId) (tag crossing : Byte) (f : PlanFields), s.Takes →
    crossing.toNat = n.val + 1 → s.planStatus crossing f = .ok → (s.crossing n).sound = true →
    ∃ t, exec (.setPlan tag crossing f) s = .next t
      ∧ s.Only n { s.crossing n with planned := some ⟨recordOf f, .sound⟩ } t
      ∧ t.street = s.street.answered .reply (replyFrame 0x02 tag .ok [])
      ∧ (∀ a, (s.station a).owner = .owned → (s.station a).atCrossing n = true → t.Served a (s.station a))
      ∧ (∀ a, ¬ ((s.station a).owner = .owned ∧ (s.station a).atCrossing n = true) → t.station a = s.station a)
      ∧ (∀ a, { t.station a with mirror := (s.station a).mirror, job := (s.station a).job } = s.station a)

/-- R24, R25, R27, R29, R56, R138, R155: the swap of one crossing: nothing without a pending record or with a walk in hand;
a pending record without an uncorrectable error becomes the active one, the window is evaluated anew with its notice, the
needs of the OWNED stations are recomputed and the PLAYs of a waiting crossing queued; a damaged one is lost and adds
PLAN_MEMORY. A forward step of a SYNC over the top of the cycle swaps every DARK crossing, and where it meets the cancellation
of a start, either may come first. The window after a swap is evaluated at the position of that moment, by the model's reading
(log 18); a tick's swap is TickAdvancesTheTimebase's. -/
def Obligations.SwapTakesThePendingPlan : Prop :=
  (∀ (s : State) (n : CrossingId), (s.crossing n).planned = none ∨ (s.crossing n).state.walks = true →
    s.swapAt n = s)
  ∧ (∀ (s : State) (n : CrossingId) (r : SlotRecord), (s.crossing n).planned = some r → r.check ≠ .uncorrectable →
      (s.crossing n).state.walks = false →
      let c := s.crossing n
      let inside := decide (r.plan.cycle = s.tb.cycle) && r.plan.inWindow s.tb.pos
      let t := s.swapAt n
      s.Only n ({ c with active := some ⟨r.plan, .sound⟩, planned := none, unusable := false }.windowed inside) t
      ∧ t.street = s.street.windowTold n c inside (s.hasDemand n)
      ∧ (∀ a, (s.station a).owner = .owned → (s.station a).atCrossing n = true → t.Served a (s.station a))
      ∧ (∀ a, ¬ ((s.station a).owner = .owned ∧ (s.station a).atCrossing n = true) → t.station a = s.station a)
      ∧ (∀ a b, (s.station a).owner = .owned → (s.station a).binding = some b → b.crossing = n →
          { t.station a with mirror := (s.station a).mirror, job := (s.station a).job } =
            if c.state = .dark then s.station a else (s.station a).played (t.playFor a b c.state)))
  ∧ (∀ (s : State) (n : CrossingId) (r : SlotRecord), (s.crossing n).planned = some r →
      r.check = .uncorrectable → ((s.crossing n).active.all fun x => (s.crossing n).unusable || x.check == .sound) →
      (s.crossing n).walk = none → (s.crossing n).causes.planMemory = false →
      let c := { s.crossing n with planned := none, causes := { (s.crossing n).causes with planMemory := true } }
      let t := s.swapAt n
      ((c.state = .dark ∨ c.state = .fault) → s.Only n c t ∧ t.stations = s.stations)
      ∧ ((c.state = .rest ∨ c.state = .hold) → s.Becomes n (c.entered .fault) t ∧ s.PlaysQueued n t)
      ∧ (c.state.walks = false → t.street = s.street.queued (.fault n c.causes)))
  ∧ (∀ (s : State) (tag dn : Byte) (cycle position : Half), s.Takes → s.PlansSound →
      (∀ n, (s.crossing n).state = .dark) → s.tb.presence = .present →
      300 ≤ cycle.toNat → cycle.toNat ≤ 2400 → position.toNat < cycle.toNat → cycle.toNat = s.tb.cycle →
      (dn = 0 ∨ dn = 1) → 20 < driftOf position.toNat s.tb.pos s.tb.cycle →
      (s.tb.cycle : Int) ≤ s.tb.pos + driftOf position.toNat s.tb.pos s.tb.cycle →
      ∃ t, exec (.sync tag cycle position s.tb.mask dn) s = .next t
        ∧ ∀ n, (t.crossing n).planned = none
          ∧ (t.crossing n).active = ((s.crossing n).planned <|> (s.crossing n).active))
  ∧ ∀ (s : State) (n : CrossingId) (tag mask dn : Byte) (cycle position : Half) (w : Walk) (r : SlotRecord),
      s.Takes → s.PlansSound → (s.crossing n).state = .starting → (s.crossing n).walk = some w → w.target = .rest →
      (s.crossing n).planned = some r → s.tb.presence = .present → s.tb.mask.getLsbD n.val = true →
      mask.getLsbD n.val = false → 300 ≤ cycle.toNat → cycle.toNat ≤ 2400 → position.toNat < cycle.toNat →
      cycle.toNat = s.tb.cycle → (dn = 0 ∨ dn = 1) → 20 < driftOf position.toNat s.tb.pos s.tb.cycle →
      (s.tb.cycle : Int) ≤ s.tb.pos + driftOf position.toNat s.tb.pos s.tb.cycle →
      ∃ t, exec (.sync tag cycle position mask dn) s = .next t
        ∧ (t.crossing n).state = .rest ∧ (t.crossing n).walk = none
        ∧ (∀ ap, (t.crossing n).place ap = ((s.crossing n).cancelled w .rest).place ap)
        ∧ (((t.crossing n).planned = none ∧ (t.crossing n).active = some r)
          ∨ ((t.crossing n).planned = some r ∧ (t.crossing n).active = (s.crossing n).active))

/-- R27 to R29, R31, R63, R67, R72, R73: a QUERY CROSSING reads both records under their checks, the active one first by the
model's choice (log 39): a correctable difference is repaired in silence. An uncorrectable one marks the active record and
leaves the window, or empties the pending slot, and adds PLAN_MEMORY: a waiting crossing goes to FAULT, a start is cancelled,
a walk truncated, a clearance or buffer runs on to its new target. The window's notice before the FAULT notice is the model's
order (log 6), and the release position of a truncated walk its reading (log 42). -/
def Obligations.ReadFindsADamagedRecord : Prop :=
  ∀ (s : State) (n : CrossingId) (tag crossing : Byte), s.Takes → crossing.toNat = n.val + 1 →
    ∃ t, exec (.queryCrossing tag crossing) s = .next t
      ∧ t.street.reply = some ⟨.reply, replyFrame 0x12 tag .ok (t.crossingReport n)⟩
      ∧ let acts (c : Crossing) (on : Bool) (told : Street) :=
          (c.walk = none → (c.state = .dark ∨ c.state = .fault) →
            s.Only n c t ∧ t.stations = s.stations ∧ t.street.notices = (told.queued (.fault n c.causes)).notices)
          ∧ (c.walk = none → (c.state = .rest ∨ c.state = .hold) →
            s.Becomes n (c.entered .fault) t ∧ s.PlaysQueued n t
            ∧ t.street.notices = (told.queued (.fault n c.causes)).notices)
          ∧ (∀ w, c.walk = some w → c.state = .starting →
            s.Becomes n (c.cancelled w c.settled) t ∧ s.PlaysQueued n t
            ∧ t.street.notices = (told.queued (.fault n c.causes)).notices)
          ∧ (∀ w, c.walk = some w → c.state = .walk →
            s.Becomes n (c.cleared { s.truncated w .planMemory with target := c.settled } on) t
            ∧ s.PlaysQueued n t
            ∧ t.street.notices = ((told.queued (.truncate n .planMemory)).queued (.fault n c.causes)).notices)
          ∧ (∀ w, c.walk = some w → (c.state = .clearance ∨ c.state = .buffer) →
            s.Only n { c with walk := some { w with target := c.settled } } t ∧ t.stations = s.stations
            ∧ t.street.notices = (told.queued (.fault n c.causes)).notices)
        let causes := { (s.crossing n).causes with planMemory := true }
        (∀ r, (s.crossing n).active = some r → (s.crossing n).unusable = false → (s.crossing n).planned = none →
          (r.check = .correctable →
            s.Only n { s.crossing n with active := some ⟨r.plan, .sound⟩ } t ∧ t.stations = s.stations
            ∧ t.street.notices = s.street.notices)
          ∧ (r.check = .uncorrectable → (s.crossing n).causes.planMemory = false →
            let inside := (s.crossing n).inWindow
            let marked := { s.crossing n with
              unusable := true, inWindow := false, served := (s.crossing n).served && !inside, causes := causes }
            acts marked false (if (s.crossing n).state = .rest ∧ inside = true ∧ s.hasDemand n = true
                ∧ (s.crossing n).served = false then s.street.queued (.windowMissed n) else s.street)))
        ∧ (∀ r, (s.crossing n).planned = some r →
          ((s.crossing n).active.all fun x => (s.crossing n).unusable || x.check == .sound) →
          (r.check = .correctable →
            s.Only n { s.crossing n with planned := some ⟨r.plan, .sound⟩ } t ∧ t.stations = s.stations
            ∧ t.street.notices = s.street.notices)
          ∧ (r.check = .uncorrectable → (s.crossing n).causes.planMemory = false →
            acts { s.crossing n with planned := none, causes := causes } (s.planValues n).countdown s.street))

/-! ### Calls -/

/-- R33, R37, R38, R42, R43, R138: PLACE CALL by the interval state: out of range BAD_FIELD, DARK BAD_STATE; registered while
the crossing waits, clears or buffers; absorbed by a walk that serves it already. A record it creates carries the position
of the most recent tick, by the model's reading (log 21). -/
def Obligations.PlaceCallActsByInterval : Prop :=
  (∀ (s : State) (tag crossing approach accessible : Byte), s.Takes →
    (crossing = 0 ∨ 8 < crossing.toNat ∨ 1 < approach.toNat ∨ 1 < accessible.toNat) →
    exec (.placeCall tag crossing approach accessible) s = .next (s.answered 0x05 tag .badField []))
  ∧ ∀ (s : State) (n : CrossingId) (ap : Approach) (acc : Bool) (tag crossing : Byte), s.Takes →
      crossing.toNat = n.val + 1 → (s.crossing n).sound = true →
      let c := s.crossing n
      let command := Instr.placeCall tag crossing (approachCode ap) (yesNo acc)
      let old := c.place ap
      let new := registered old acc none s.tb.tickPos true
      (c.state = .dark → exec command s = .next (s.answered 0x05 tag .badState []))
      ∧ ((c.state = .starting ∨ c.state = .walk) → (acc = false ∨ c.walk.any Walk.accessible) →
          exec command s = .next (s.answered 0x05 tag .ok []))
      ∧ ((c.state = .rest ∨ c.state = .hold ∨ c.state = .fault ∨ c.state = .clearance ∨ c.state = .buffer) →
          ∃ t, exec command s = .next t
            ∧ s.Only n (c.setPlace ap (some new)) t
            ∧ t.street = (if callNoticed old acc then s.street.queued (.call n ap new.accessible none)
                else s.street).answered .reply (replyFrame 0x05 tag .ok [])
            ∧ s.PlaysQueuedAt (fun m x => m == n && x == ap && old.isNone
                && (c.state == .rest || c.state == .hold || c.state == .fault)) t)

/-- R41, R64, R66: an accessible PLACE CALL takes the join test in STARTING and the extension test in WALK; a pass makes the
walk accessible and never overruns the window; a fail, or a crossing out of plan, registers the call. That the tests and the
record take the position of the most recent tick, and that a failed test counts a press, is the model's reading (logs 17, 21,
31). -/
def Obligations.AccessibleCallJoinsOrExtends : Prop :=
  ∀ (s : State) (n : CrossingId) (ap : Approach) (tag crossing : Byte) (w : Walk), s.Takes →
    crossing.toNat = n.val + 1 → (s.crossing n).sound = true → (s.crossing n).walk = some w → w.accessible = false →
    let c := s.crossing n
    let x := s.tb.tickPos
    let command := Instr.placeCall tag crossing (approachCode ap) 1
    let fails := ∃ t, exec command s = .next t
      ∧ s.Only n (c.setPlace ap (some (registered (c.place ap) true none x true))) t
      ∧ t.stations = s.stations
      ∧ t.street = (if callNoticed (c.place ap) true then s.street.queued (.call n ap true none)
          else s.street).answered .reply (replyFrame 0x05 tag .ok [])
    (s.planInForce n = none → c.state = .starting ∨ c.state = .walk → fails)
    ∧ ∀ p, s.planInForce n = some p →
      (c.state = .starting →
        (¬ p.joinFits w x → fails)
        ∧ (p.joinFits w x →
            let w' := w.afterJoin p x s.tb.cycle
            p.minWalk ≤ w'.walkLength
            ∧ w.count + w'.walkLength + w'.clearance + p.buffer ≤ p.remaining x
            ∧ exec command s = .next ((s.setCrossing n { c with walk := some w' }).answered 0x05 tag .ok [])))
      ∧ (c.state = .walk →
        (¬ p.extensionFits w x → fails)
        ∧ (p.extensionFits w x →
            let w' := w.afterExtension p x s.tb.cycle
            w.count ≤ w'.count ∧ w'.count + w'.clearance + p.buffer ≤ p.remaining x
            ∧ exec command s = .next (((s.setCrossing n { c with walk := some w' }).notify
                (.extend n ((x + w'.count) % s.tb.cycle) w'.release)).answered 0x05 tag .ok [])))

/-- R44, R138: CANCEL CALL deletes the record of a place in every interval state, and leaves all else as it is. -/
def Obligations.CancelCallEmptiesThePlace : Prop :=
  (∀ (s : State) (tag crossing approach : Byte), s.Takes →
    (crossing = 0 ∨ 8 < crossing.toNat ∨ 1 < approach.toNat) →
    exec (.cancelCall tag crossing approach) s = .next (s.answered 0x06 tag .badField []))
  ∧ ∀ (s : State) (n : CrossingId) (ap : Approach) (tag crossing : Byte), s.Takes →
      crossing.toNat = n.val + 1 → (s.crossing n).sound = true →
      ∃ t, exec (.cancelCall tag crossing (approachCode ap)) s = .next t
        ∧ s.Only n ((s.crossing n).setPlace ap none) t
        ∧ t.street = s.street.answered .reply (replyFrame 0x06 tag .ok [])
        ∧ s.PlaysQueuedAt (fun m x => m == n && x == ap && ((s.crossing n).place ap).isSome
            && ((s.crossing n).state == .rest || (s.crossing n).state == .hold || (s.crossing n).state == .fault)) t

/-- R35 to R42, R64, R66: the poll of an OWNED station is decoded: the first reply only starts the press state; an advanced
sequence is a press, long or short; a press held to the threshold is upgraded once. The event is ignored in DARK, registered
with its CALL notice and its ACK at a crossing that waits, clears or buffers, and in STARTING and WALK absorbed, or, where it
is accessible and the walk is not, joined to the walk, an extension of it, or registered. The STATION notice before the others
(log 19), the tests' and the record's position, and the press counted by a failed test (logs 17, 21, 31) are the model's. -/
def Obligations.PollDecodesThePress : Prop :=
  ∀ (s : State) (a : StationId) (again : Bool) (reply : KerbReply) (b : Binding),
    s.Carries a .poll again → OkReply a .poll reply → (s.station a).owner = .owned → replyByte reply 2 = 1 →
    (s.station a).binding = some b → (s.crossing b.crossing).sound = true →
    ∃ t, exec (.poll reply) s = .next t ∧
      let n := b.crossing
      let c := s.crossing n
      let old := c.place b.approach
      let x := s.tb.tickPos
      let seq := replyByte reply 3
      let held := (replyByte reply 5).getLsbD 0
      let long := decide (b.settings.holdThreshold ≤ (replyByte reply 4).toNat)
      let clip := b.settings.locateClip
      let u := s.street.told a (s.station a) reply
      let nothing := t.crossings = s.crossings ∧ t.street = u ∧ (t.station a).urgent = (s.station a).urgent
      let registers (accessible upgrade counted : Bool) :=
        let new := registered old accessible (some a) x counted
        let newly : Bool := new.accessible && !(old.any Call.accessible)
        let ack : Ack := if accessible = true ∧ newly = true ∧ (s.station a).mirror.holds clip = true then ⟨0, clip⟩
          else ⟨(s.planValues n).acknowledge, 0⟩
        s.Only n (c.setPlace b.approach (some new)) { t with link := s.link }
        ∧ (t.street = if callNoticed old accessible then u.queued (.call n b.approach new.accessible (some a)) else u)
        ∧ (upgrade = false ∨ newly = true → (t.station a).urgent = urgentAdd (s.station a).urgent (.ack ack))
        ∧ (upgrade = true → newly = false → (t.station a).urgent = (s.station a).urgent)
        ∧ ∀ y, y ≠ a → t.station y = match (s.station y).binding with
          | none => s.station y
          | some b' =>
            if (s.station y).owner = .owned ∧ b'.crossing = n ∧ b'.approach = b.approach ∧ old = none
                ∧ (c.state = .rest ∨ c.state = .hold ∨ c.state = .fault) then
              (s.station y).played (t.playFor y b' c.state)
            else s.station y
      let walks (w : Walk) :=
        s.Only n { c with walk := some w } { t with link := s.link }
        ∧ (t.station a).urgent = (s.station a).urgent
      let happens (accessible upgrade : Bool) :=
        (c.state = .dark → nothing)
        ∧ ((c.state = .rest ∨ c.state = .hold ∨ c.state = .fault ∨ c.state = .clearance ∨ c.state = .buffer) →
            registers accessible upgrade (!upgrade))
        ∧ ∀ w, c.walk = some w → c.state = .starting ∨ c.state = .walk →
          ((accessible = false ∨ w.accessible = true) → nothing)
          ∧ (accessible = true → w.accessible = false →
            (s.planInForce n = none → registers true upgrade true)
            ∧ ∀ p, s.planInForce n = some p →
              (c.state = .starting →
                (p.joinFits w x → walks (w.afterJoin p x s.tb.cycle) ∧ t.street = u)
                ∧ (¬ p.joinFits w x → registers true upgrade true))
              ∧ (c.state = .walk →
                (p.extensionFits w x →
                  let w' := w.afterExtension p x s.tb.cycle
                  walks w' ∧ t.street = u.queued (.extend n ((x + w'.count) % s.tb.cycle) w'.release))
                ∧ (¬ p.extensionFits w x → registers true upgrade true)))
      (∀ y, y ≠ a → (s.station y).serves n b.approach = false → t.station y = s.station y)
      ∧ ((s.station a).press.last = none → (t.station a).press = ⟨some seq, held⟩ ∧ nothing)
      ∧ (∀ l, (s.station a).press.last = some l → seq ≠ l →
          (t.station a).press = ⟨some seq, long && held⟩ ∧ happens long false)
      ∧ (∀ l, (s.station a).press.last = some l → seq = l →
          held = true ∧ long = true ∧ (s.station a).press.upgraded = false →
          (t.station a).press = ⟨some l, true⟩ ∧ happens true true)
      ∧ (∀ l, (s.station a).press.last = some l → seq = l →
          ¬ (held = true ∧ long = true ∧ (s.station a).press.upgraded = false) →
          (t.station a).press = ⟨some l, (s.station a).press.upgraded && held⟩ ∧ nothing)

/-- R102, R125, R127, R142, R143, R145 to R147: what a poll reply changes at its station: the mode and the fault flags of an
OWNED or TAKING station, with an accepted sample the filtered ambient and the level of an OWNED one; a report of LOCAL and the
return of a LOST station lead to TAKING. Where the press of the same reply finds the active plan damaged, the press and the
sample are taken in one order or the other, which is left free (log 41). -/
def Obligations.PollTakesTheReport : Prop :=
  ∀ (s : State) (a : StationId) (again : Bool) (reply : KerbReply),
    s.Carries a .poll again → OkReply a .poll reply →
    ∃ t, exec (.poll reply) s = .next t
      ∧ (∀ b, (s.station a).owner = .owned → replyByte reply 2 = 1 → (s.station a).binding = some b →
          (s.crossing b.crossing).sound = true →
          let v := replyByte reply 6
          let sampled : Bool := v != 255 && !(replyByte reply 5).getLsbD 4 && !(replyByte reply 5).getLsbD 1
          let ambient := if sampled then (3 * (s.station a).ambient + (300 + 5 * min v.toNat 140) + 2) / 4
            else (s.station a).ambient
          let target := min (max (ambient + b.settings.margin) b.settings.floor) (b.settings.ceiling s.tb.dayNight)
          let level := (s.station a).level
          let moves : Bool := sampled && (decide (level + 20 ≤ target) || decide (target + 20 ≤ level)
            || decide (b.settings.ceiling s.tb.dayNight < level) || decide (level < b.settings.floor))
          { t.station a with press := (s.station a).press, urgent := (s.station a).urgent } =
            { (s.station a).reported reply with
              ambient := ambient
              level := if moves then target else level
              settings := if moves = true ∧ target ≠ level then { (s.station a).settings with level := true }
                else (s.station a).settings })
      ∧ ((s.station a).owner = .owned → replyByte reply 2 = 1 →
          let report := pollReport reply
          let idle := { s with link := { s.link with activity := .idle } }
          let taken := { (idle.setStation a ((s.station a).reported reply)) with street := s.street.told a (s.station a) reply }
          let sample (u : State) :=
            if replyByte reply 6 ≠ 255 ∧ report.microphone = false ∧ report.sounding = false then
              u.takeSample a (replyByte reply 6)
            else u
          let press (u : State) := u.decodePress a report.press
          let follows (u : State) := t.crossings = u.crossings ∧ t.stations = u.stations ∧ t.budgetLimit = u.budgetLimit
            ∧ t.street = u.street
          follows (sample (press taken)) ∨ follows (press (sample taken)))
      ∧ (((s.station a).owner = .owned ∧ replyByte reply 2 ≠ 1) ∨ (s.station a).owner = .lost →
          t.station a = ((s.station a).reported reply).taken s.takeOverSet
          ∧ t.street = s.street.queued ((t.station a).notice a) ∧ s.BesideStation a t)
      ∧ ((s.station a).owner = .taking →
          t.station a = (s.station a).reported reply ∧ t.street = s.street.told a (s.station a) reply
          ∧ s.BesideStation a t)
      ∧ ((s.station a).owner = .local ∨ (s.station a).owner = .absent →
          t.station a = { s.station a with failures := 0 } ∧ t.street = s.street ∧ s.BesideStation a t)

/-! ### The sequencer -/

/-- R45, R48, R55, R56, R58 to R61, R138: stage 2 of a crossing's tick evaluates its window: an entry without demand queues
NO DEMAND, an exit with demand unserved queues WINDOW MISSED, and an exit clears the served flag. Stage 3 is the start
evaluation of a crossing in REST: it commits a walk exactly when every condition of R58 and the late-start test of R59 hold;
W is as R60 fixes it, never below Wmin and never past the window; otherwise nothing changes. -/
def Obligations.StartEvaluationCommitsExactlyWhenDue : Prop :=
  (∀ (s : State) (n : CrossingId), (s.crossing n).sound = true →
    let inside := match s.planInForce n with
      | some p => p.inWindow s.tb.pos
      | none => false
    s.windowStage n = { s.setCrossing n ((s.crossing n).windowed inside) with
      street := s.street.windowTold n (s.crossing n) inside (s.hasDemand n) })
  ∧ (∀ (s : State) (n : CrossingId),
    s.startStage n = if (s.crossing n).state = .rest then s.startEvaluation n else s)
  ∧ ∀ (s : State) (n : CrossingId), (s.crossing n).state = .rest → (s.crossing n).sound = true →
    let c := s.crossing n
    let acc := c.placeA.any Call.accessible || c.placeB.any Call.accessible
    let demand := c.placeA.isSome = true ∨ c.placeB.isSome = true ∨ c.mode = .recall
      ∨ ∃ ap, (∃ a, (s.station a).serves n ap = true)
        ∧ ∀ a, (s.station a).serves n ap = true → (s.station a).owner ≠ .owned
    let conditions := (c.mode = .normal ∨ c.mode = .recall) ∧ s.tb.presence = .present
      ∧ s.tb.mask.getLsbD n.val = true ∧ demand ∧ c.inWindow = true ∧ c.served = false
    let t := s.startEvaluation n
    (¬ conditions → t = s)
    ∧ (s.planInForce n = none → t = s)
    ∧ ∀ p, s.planInForce n = some p →
      let f := if acc then p.accessibleClearance else p.normalClearance
      let r := p.remaining s.tb.pos
      (¬ 2 + p.minWalk + f + p.buffer ≤ r → t = s)
      ∧ (conditions → 2 + p.minWalk + f + p.buffer ≤ r →
          let l := if p.dwell then r - 2 - f - p.buffer
            else min (if acc then p.minWalk + p.extension else p.minWalk) (r - 2 - f - p.buffer)
          p.minWalk ≤ l ∧ 2 + l + f + p.buffer ≤ r
            ∧ s.Becomes n ({ c with
                placeA := none, placeB := none, served := true
                walk := some ⟨acc, 2, l, f, p.buffer, (s.tb.pos + 2) % s.tb.cycle,
                  (s.tb.pos + 2 + l + f + p.buffer) % s.tb.cycle, none, c.placeA, c.placeB, c.settled⟩ }.entered
                .starting) t
            ∧ s.PlaysQueued n t ∧ t.street = s.street)

/-- R62, R65, R68, R69, R83, R85, R88, R138: stage 1 of a tick counts the interval in hand down, the countdown with it;
the lead's end lights WALK and queues the WALK notice and no PLAY; the walk's end enters CLEARANCE with the record's
clearance, its countdown and its PLAYs. That a command makes one such end alone is the model's choice (log 1); stage 1 of a
tick makes the same end. -/
def Obligations.LeadAndWalkEnd : Prop :=
  (∀ (s : State) (n : CrossingId) (w : Walk), (s.crossing n).walk = some w → 1 < w.count →
    (s.crossing n).state.walks = true →
    s.countStage n = s.setCrossing n { s.crossing n with
      walk := some { w with count := w.count - 1 }
      countdown := if (s.crossing n).state = .clearance then
        countdownShown (s.crossing n).countdownOn (w.count - 1) else (s.crossing n).countdown })
  ∧ ∀ (s : State) (n : CrossingId) (w : Walk), (s.crossing n).walk = some w → w.count ≤ 1 →
    ((s.crossing n).state = .starting →
      let release := (s.tb.pos + w.walkLength + w.clearance + w.buffer) % s.tb.cycle
      ∃ t, exec (.leadEnd n) s = .next t ∧ t = s.countStage n
        ∧ s.Becomes n { s.crossing n with
            state := .walk
            walk := some { w with count := w.walkLength, lampStart := s.tb.pos, release := release } } t
        ∧ t.stations = s.stations
        ∧ t.street = s.street.queued (.walk n s.tb.pos w.walkLength w.clearance w.buffer release))
    ∧ ((s.crossing n).state = .walk → (s.crossing n).sound = true →
      ∃ t, exec (.walkEnd n) s = .next t ∧ t = s.countStage n
        ∧ s.Becomes n ((s.crossing n).cleared w (s.planValues n).countdown) t
        ∧ s.PlaysQueued n t ∧ t.street = s.street)

/-- R68, R69, R72, R77, R138: the clearance's end enters BUFFER, or releases the walk where B is 0; the buffer's end
releases it: RELEASE, then FAULT where the target is FAULT; the record goes and the target is entered. That a command
makes one such end alone is the model's choice (log 1); stage 1 of a tick makes the same end. -/
def Obligations.ClearanceAndBufferEnd : Prop :=
  ∀ (s : State) (n : CrossingId) (w : Walk), (s.crossing n).walk = some w → w.count ≤ 1 →
    (s.crossing n).sound = true → w.target.walks = false →
    let released (command : Instr) := ∃ t, exec command s = .next t ∧ t = s.countStage n
      ∧ s.Becomes n ({ s.crossing n with walk := none }.entered w.target) t ∧ s.PlaysQueued n t
      ∧ t.street = if w.target = .fault then
          (s.street.queued (.release n)).queued (.fault n (s.crossing n).causes)
        else s.street.queued (.release n)
    ((s.crossing n).state = .clearance → w.buffer ≠ 0 →
      ∃ t, exec (.clearanceEnd n) s = .next t ∧ t = s.countStage n
        ∧ s.Becomes n ({ s.crossing n with walk := some { w with count := w.buffer } }.entered .buffer) t
        ∧ s.PlaysQueued n t ∧ t.street = s.street)
    ∧ ((s.crossing n).state = .clearance → w.buffer = 0 → released (.clearanceEnd n))
    ∧ ((s.crossing n).state = .buffer → released (.bufferEnd n))

/-- R53, R54, R63, R67, R72, R77: SET MODE: refused out of range or after a failed PLAN_MEMORY check; without effect for
the mode held; otherwise Table 4-3 by interval state. The release position of a truncated walk is the model's reading
(log 42). -/
def Obligations.SetModeActsByInterval : Prop :=
  (∀ (s : State) (tag crossing mode : Byte), s.Takes →
    (crossing = 0 ∨ 8 < crossing.toNat ∨ 3 < mode.toNat) →
    exec (.setMode tag crossing mode) s = .next (s.answered 0x03 tag .badField []))
  ∧ ∀ (s : State) (n : CrossingId) (m : Mode) (tag crossing : Byte), s.Takes → crossing.toNat = n.val + 1 →
      let c := s.crossing n
      let c' := { c with mode := m }
      let command := Instr.setMode tag crossing m.code
      let answer := replyFrame 0x03 tag .ok []
      (m ≠ .off → s.startUp.failed.planMemory = true → exec command s = .next (s.answered 0x03 tag .badState []))
      ∧ ((m = .off ∨ s.startUp.failed.planMemory = false) → c.mode = m →
          exec command s = .next (s.answered 0x03 tag .ok []))
      ∧ ((m = .off ∨ s.startUp.failed.planMemory = false) → c.mode ≠ m → c.sound = true →
          ∃ t, exec command s = .next t
            ∧ (c.walk = none → c.state = .dark → m ≠ .off →
                s.Becomes n ({ c' with served := c.served || c.inWindow }.entered c'.settled) t ∧ s.PlaysQueued n t
                ∧ t.street = (if c'.settled = .fault then s.street.queued (.fault n c.causes) else s.street).answered
                    .reply answer)
            ∧ (c.walk = none → (c.state = .rest ∨ c.state = .hold ∨ c.state = .fault) →
                t.street = s.street.answered .reply answer
                ∧ (c'.settled ≠ c.state → s.Becomes n (c'.entered c'.settled) t ∧ s.PlaysQueued n t)
                ∧ (c'.settled = c.state → s.Only n c' t ∧ t.stations = s.stations))
            ∧ (∀ w, c.walk = some w → c.causes = {} → c.state = .starting → (m = .off ∨ m = .hold) →
                s.Becomes n (c'.cancelled w c'.settled) t ∧ s.PlaysQueued n t
                ∧ t.street = s.street.answered .reply answer)
            ∧ (∀ w, c.walk = some w → c.state = .walk → (m = .off ∨ m = .hold) →
                s.Becomes n (c'.cleared { s.truncated w (if m = .off then .modeOff else .modeHold) with
                    target := c'.settled }
                  (s.planValues n).countdown) t
                ∧ s.PlaysQueued n t
                ∧ t.street = (s.street.queued (.truncate n (if m = .off then .modeOff else .modeHold))).answered
                    .reply answer)
            ∧ (∀ w, c.walk = some w →
                (c.state = .clearance ∨ c.state = .buffer
                  ∨ ((c.state = .starting ∨ c.state = .walk) ∧ (m = .normal ∨ m = .recall))) →
                s.Only n { c' with walk := some { w with target := c'.settled } } t ∧ t.stations = s.stations
                ∧ t.street = s.street.answered .reply answer))

/-- R76, R94, R72: CLEAR FAULT: refused out of range; without effect on an empty cause set, or one whose only cause stays;
otherwise CONFLICT and the lamp causes go, the channels are re-enabled, PLAN_MEMORY goes when the active plan is usable, a
FAULT notice carries what remains, and FAULT gives way to the settled state. -/
def Obligations.ClearFaultRemovesWhatHasGone : Prop :=
  (∀ (s : State) (tag crossing : Byte), s.Takes → (crossing = 0 ∨ 8 < crossing.toNat) →
    exec (.clearFault tag crossing) s = .next (s.answered 0x04 tag .badField []))
  ∧ ∀ (s : State) (n : CrossingId) (tag crossing : Byte), s.Takes → crossing.toNat = n.val + 1 →
      (s.crossing n).sound = true → (s.crossing n).mode ≠ .off ∨ (s.crossing n).state ≠ .fault →
      let c := s.crossing n
      let left : CauseSet := { planMemory := c.causes.planMemory && !(c.active.isSome && !c.unusable) }
      let lamps := c.causes.walkLamp || c.causes.dontLamp
      let c' := { c with causes := left, walk := c.walk.map fun w =>
        { w with target := { c with causes := left }.settled } }
      let leaves := c.state = .fault ∧ c'.settled ≠ .fault
      (left = c.causes → (c.walk.all fun w => w.target == c.settled) = true →
        exec (.clearFault tag crossing) s = .next (s.answered 0x04 tag .ok []))
      ∧ (left ≠ c.causes → ∃ t, exec (.clearFault tag crossing) s = .next t
          ∧ (t.crossing n).core = (if leaves then c'.entered c'.settled else c').core
          ∧ (∀ x, (t.channel n x).enabled = ((c.channel x).enabled || lamps))
          ∧ (∀ x, (t.channel n x).openCount =
              if lamps = true ∧ (c.channel x).enabled = false then 0 else (c.channel x).openCount)
          ∧ (lamps = true ∨ leaves → (t.crossing n).LampsFollow ∧ t.BudgetLaw)
          ∧ (lamps = false → ¬ leaves → s.Only n c' t)
          ∧ s.BesideCrossing n t
          ∧ (leaves → s.PlaysQueued n t) ∧ (¬ leaves → t.stations = s.stations)
          ∧ t.street = (s.street.queued (.fault n left)).answered .reply (replyFrame 0x04 tag .ok []))

/-! ### Head outputs -/

/-- R91 to R93, R63, R67, R72 to R74: a short on a channel that delivers current, or the third open sample of a tested
one, disables the channel and adds its cause: WALK_LAMP truncates the walk; DONT_LAMP takes a waiting crossing and one in
CLEARANCE or BUFFER to FAULT, and cancels a commit. That LAMP_OPEN_DETECTED makes the third sample alone (log 1), and that
FAULT is entered from CLEARANCE and BUFFER with mode OFF too (log 32), is the model's choice, and the release position of a
truncated walk its reading (log 42). -/
def Obligations.LampFaultDisablesTheChannel : Prop :=
  ∀ (s : State) (n : CrossingId) (x : Aspect), (s.crossing n).LampsFollow → (s.crossing n).sound = true →
    (s.crossing n).mode ≠ .off ∨ (s.crossing n).state = .clearance ∨ (s.crossing n).state = .buffer →
    (s.crossing n).causes.has (lampCause x) = false →
    let c := { s.crossing n with causes := (s.crossing n).causes.add (lampCause x) }
    let after (t : State) :=
      (∀ y, y ≠ x → (t.channel n y).enabled = (c.channel y).enabled)
      ∧ { t.channel n x with openCount := (c.channel x).openCount } =
          { c.channel x with enabled := false, inUse := false, actual := 0, applied := 0 }
      ∧ (t.crossing n).LampsFollow ∧ t.BudgetLaw ∧ s.BesideCrossing n t
      ∧ (∀ w, x = .walk → (s.crossing n).walk = some w →
          (t.crossing n).core =
            (c.cleared { s.truncated w .walkLamp with target := .fault } (s.planValues n).countdown).core
          ∧ s.PlaysQueued n t
          ∧ t.street = (s.street.queued (.truncate n .walkLamp)).queued (.fault n c.causes))
      ∧ (x = .dont → t.street = s.street.queued (.fault n c.causes))
      ∧ (x = .dont → c.state = .rest ∨ c.state = .hold →
          (t.crossing n).core = ((c.modWalk fun w => { w with target := .fault }).entered .fault).core
          ∧ s.PlaysQueued n t)
      ∧ (∀ w, x = .dont → c.state = .starting → c.walk = some w →
          (t.crossing n).core = (c.cancelled w .fault).core ∧ s.PlaysQueued n t)
      ∧ (x = .dont → c.state = .clearance ∨ c.state = .buffer →
          (t.crossing n).core = ({ c with walk := none }.entered .fault).core ∧ s.PlaysQueued n t)
      ∧ (x = .dont → c.state = .fault → c.walk = none → (t.crossing n).core = c.core ∧ t.stations = s.stations)
    (0 < s.lampCurrent n x →
      ∃ t, exec (.lampShortSensed n x) s = .next t ∧ after t
        ∧ (t.channel n x).openCount = (s.channel n x).openCount)
    ∧ ((s.crossing n).lit x = true → 20 ≤ (s.channel n x).actual → 2 ≤ (s.channel n x).openCount →
        ∃ t, exec (.lampOpenDetected n x) s = .next t ∧ after t ∧ (t.channel n x).openCount = 3)

/-- R91, R92: the open test of a channel at a tick: not made while dark or below 20 mA; a load of half of the drive or more
clears the count, a lower one counts a sample, and the third disables the channel, as the command LAMP_OPEN_DETECTED does
alone (log 1). -/
def Obligations.OpenTestCountsSamples : Prop :=
  ∀ (s : State) (n : CrossingId) (x : Aspect) (load : Nat),
    let ch := s.channel n x
    let t := s.testChannel load n x
    ((s.crossing n).lit x = false ∨ ch.actual < 20 → t = s)
    ∧ ((s.crossing n).lit x = true → 20 ≤ ch.actual →
        (ch.actual ≤ 2 * load → t.channel n x = { ch with openCount := 0 })
        ∧ (2 * load < ch.actual → ch.openCount < 2 → t.channel n x = { ch with openCount := ch.openCount + 1 })
        ∧ (2 * load < ch.actual → 2 ≤ ch.openCount → (t.channel n x).enabled = false ∧ (t.channel n x).actual = 0
            ∧ exec (.lampOpenDetected n x) s = .next t)
        ∧ (ch.actual ≤ 2 * load ∨ ch.openCount < 2 →
            t.street = s.street ∧ t.stations = s.stations ∧ s.BesideCrossing n t
            ∧ (t.crossing n).core = (s.crossing n).core))

/-- R86 to R89: SET HEAD: refused out of range; otherwise the channel takes its settings, its nominal target follows
the day/night flag, and the budget is evaluated anew. A ramp step moves the drive of a channel in use toward its applied
target by the ramp rate, and never past it. -/
def Obligations.SetHeadSetsTheChannel : Prop :=
  (∀ ch : Channel, ch.rampStep = { ch with
    actual := if ch.inUse = false then ch.actual
      else if ch.actual ≤ ch.applied then min (ch.actual + ch.ramp) ch.applied
      else max (ch.actual - ch.ramp) ch.applied })
  ∧ ∀ (s : State) (tag crossing aspect coarse day night ramp : Byte), s.Takes →
    ((crossing = 0 ∨ 8 < crossing.toNat ∨ 1 < aspect.toNat ∨ coarse = 0 ∨ 4 < coarse.toNat ∨ ramp = 0
        ∨ 100 < ramp.toNat) →
      exec (.setHead tag crossing aspect coarse day night ramp) s = .next (s.answered 0x07 tag .badField []))
    ∧ ∀ (n : CrossingId) (x : Aspect), crossing.toNat = n.val + 1 → ((aspect = 0 ∧ x = .walk) ∨ (aspect = 1 ∧ x = .dont)) →
        1 ≤ coarse.toNat → coarse.toNat ≤ 4 → 1 ≤ ramp.toNat → ramp.toNat ≤ 100 →
        ∃ t, exec (.setHead tag crossing aspect coarse day night ramp) s = .next t
          ∧ { t.channel n x with applied := (s.channel n x).applied } = { s.channel n x with
              coarse := coarse.toNat, dayFine := day.toNat, nightFine := night.toNat, ramp := ramp.toNat
              nominal := 100 * coarse.toNat
                * (if s.tb.dayNight = .day then day.toNat else night.toNat) / 255 }
          ∧ (∀ y, y ≠ x → { t.channel n y with applied := (s.channel n y).applied } = s.channel n y)
          ∧ (t.crossing n).core = (s.crossing n).core ∧ s.BesideCrossing n t ∧ t.BudgetLaw
          ∧ t.stations = s.stations ∧ t.street = s.street.answered .reply (replyFrame 0x07 tag .ok [])

/-! ### The Kerb Link -/

/-- R98, R99, R110, R113, R123, R130: a beacon is judged by its echo: a bad one of a line that is UP puts the line into
FAULT; a good one lets the frame go on with its polls; the good beacon that ends a quiet period takes the bound stations over
(log 12). A good beacon in FAULT recovers the line, takes them over and lets the frame go on; a bad one changes nothing but
the line's activity (log 14). A take-over queues a STATION notice for each station whose clip fault flag it clears, in
ascending address by the model's choice (log 36). -/
def Obligations.BeaconEchoSettlesTheLine : Prop :=
  ∀ (s : State) (h : Heard),
    let good := [h.b0, h.b1, h.b2, h.b3] = s.link.sent.map some
    let idle := { s with link := { s.link with activity := .idle } }
    (s.link.activity = .beacon false →
      (¬ good → exec (.beaconCheck h) s =
        .next { s with link := { s.link with line := .fault, faultAge := 0, retry := 0, activity := .idle } })
      ∧ (good → s.link.closed = false → exec (.beaconCheck h) s = .next (s.periodicFrom 0))
      ∧ (good → s.link.closed = true → ∃ t, exec (.beaconCheck h) s = .next t
          ∧ t.link = { s.link with activity := .idle } ∧ s.BesideStations t ∧ t.configured = s.configured
          ∧ t.street = (if s.configured = true ∧ s.link.line = .up ∧ s.link.quiet = 0 then s.takeOverNotices
              else []).foldl Street.queued s.street
          ∧ ∀ a, (s.TakesOver a → t.station a = (s.station a).taken s.takeOverSet)
              ∧ (¬ s.TakesOver a → t.station a = s.station a)))
    ∧ (s.link.activity = .beacon true →
      exec (.beaconCheck h) s = exec (.beaconRetry h) s
      ∧ (¬ good → exec (.beaconRetry h) s = .next idle)
      ∧ (good → ∃ t, exec (.beaconRetry h) s = .next t
          ∧ (let up := { s.link with line := .up, faultAge := 0, retry := 0, activity := .idle }
            (s.link.closed = true → t.link = up)
            ∧ (s.link.closed = false → ∃ u : State, t = u.periodicFrom 0 ∧ { u.link with activity := .idle } = up))
          ∧ s.BesideStations t ∧ t.configured = s.configured
          ∧ t.street = (if s.configured = true ∧ s.link.quiet = 0 then s.takeOverNotices
              else []).foldl Street.queued s.street
          ∧ ∀ a, t.station a = if s.configured = true ∧ s.link.quiet = 0 ∧ (s.station a).owner = .local
                ∧ (s.station a).binding.isSome = true then (s.station a).taken s.takeOverSet else s.station a))

/-- R111, R113, R123, R128, R130: at fault age 20 every station the part holds goes LOCAL with one STATION notice; at the end
of the quiet period every bound LOCAL station of a CONFIGURED part is taken over if the line is UP, with a notice where this
clears its clip fault flag. That a command makes one such event alone is the model's choice (log 1), and so is the ascending
order of the notices (log 36). -/
def Obligations.ReversionAndQuietPeriodEnd : Prop :=
  (∀ s : State, s.link.line = .fault → s.link.faultAge = 19 →
    ∃ t, exec .lineFaultReversion s = .next t
      ∧ (∀ a, t.station a = if (s.station a).partHeld then (s.station a).wentLocal else s.station a)
      ∧ t.street = ((allStations.filter fun a => (s.station a).partHeld).map fun a =>
          (s.station a).wentLocal.notice a).foldl Street.queued s.street
      ∧ { s.link with faultAge := 20 }.SameButDiscard t.link
      ∧ s.BesideStations t ∧ t.configured = s.configured)
  ∧ ∀ s : State, s.link.quiet = 1 →
    ∃ t, exec .quietPeriodEnd s = .next t
      ∧ (∀ a, t.station a = if s.configured = true ∧ s.link.line = .up ∧ (s.station a).owner = .local
            ∧ (s.station a).binding.isSome = true then (s.station a).taken s.takeOverSet else s.station a)
      ∧ t.street = (if s.configured = true ∧ s.link.line = .up then s.takeOverNotices
          else []).foldl Street.queued s.street
      ∧ { s.link with quiet := 0 }.SameButDiscard t.link
      ∧ s.BesideStations t ∧ t.configured = s.configured

/-- R100, R106, R107, R126, R177: a transaction ends OK when the reply's check is good and it names the station and the
request's type, NO_REPLY when none comes, and BAD otherwise; a reply of another length than Table 6-2's is BAD by the model's
reading (log 15). One of any kind that does not end OK adds a failure to a station under control and leaves its work; the third
makes it LOST with its work cleared and a STATION notice; a LOST station's count stays; the pointer moves but after a poll. -/
def Obligations.FailedTransactionCounts : Prop :=
  (∀ (a : StationId) (item : Item) (reply : KerbReply),
    (judge a item reply = .noReply ↔ reply = none)
    ∧ (judge a item reply = .ok ↔ ∃ rest : List Byte,
        reply = some (withCrc (BitVec.ofNat 8 (a.val + 1) :: item.code :: rest))
        ∧ rest.length = if item = .poll then 8 else 2))
  ∧ ∀ (s : State) (a : StationId) (item : Item) (again : Bool) (reply : KerbReply),
    s.Carries a item again → judge a item reply ≠ .ok →
    ∃ t, exec (item.ending reply) s = .next t
      ∧ s.BesideStation a t ∧ t.link.pointer = (if item = .poll then s.link.pointer else a)
      ∧ ((s.station a).controlled = true → (s.station a).failures < 2 →
          t.station a = { s.station a with failures := (s.station a).failures + 1 } ∧ t.street = s.street)
      ∧ ((s.station a).controlled = true → 2 ≤ (s.station a).failures →
          t.station a = (s.station a).gone ∧ t.street = s.street.queued ((s.station a).gone.notice a))
      ∧ ((s.station a).controlled = false → t.station a = s.station a ∧ t.street = s.street)

/-- R106 to R109, R140: a PLAY or an ACK that ends OK clears the failures and removes its entry unless it was replaced; a
PLAY sets the late-play flag when its frame is past the launch frame, and becomes the held content; the pointer moves. -/
def Obligations.DeliveredPlayAndAck : Prop :=
  ∀ (s : State) (a : StationId) (again : Bool) (reply : KerbReply),
    (∀ p, s.Carries a (.play p) again → OkReply a (.play p) reply →
      ∃ t, exec (.playTransaction reply) s = .next t
        ∧ t.station a = { s.station a with
            failures := 0
            urgent := if again then (s.station a).urgent else (s.station a).urgent.filter fun u => !u.isPlay
            latePlay := (s.station a).latePlay
              || decide (1 ≤ (s.link.frame - p.launch).toNat ∧ (s.link.frame - p.launch).toNat ≤ 127)
            held := some p }
        ∧ s.BesideStation a t ∧ t.street = s.street ∧ t.link.pointer = a)
    ∧ (s.Carries a .ack again → OkReply a .ack reply →
      ∃ t, exec (.ackTransaction reply) s = .next t
        ∧ t.station a = { s.station a with
            failures := 0
            urgent := if again then (s.station a).urgent else (s.station a).urgent.filter fun u => u.isPlay }
        ∧ s.BesideStation a t ∧ t.street = s.street ∧ t.link.pointer = a)

/-- R104, R107: a TAKE-OVER, CONFIG, PATTERN or SET LEVEL that ends OK removes its item, unless it was marked again; a
station that is not TAKING, or whose set is not empty by it, changes in nothing else but its failure count. -/
def Obligations.DeliveredSettingLeavesTheSet : Prop :=
  (∀ (t : SettingsSet) (x y : Setting), (t.remove x).has y = (t.has y && decide (x ≠ y))
    ∧ (t.add x).has y = (t.has y || decide (x = y)))
  ∧ ∀ (s : State) (a : StationId) (x : Setting) (again : Bool) (reply : KerbReply),
    s.Carries a x.item again → OkReply a x.item reply →
    again = true ∨ (s.station a).owner ≠ .taking ∨ (s.station a).settings.remove x ≠ {} →
    ∃ t, exec (x.item.ending reply) s = .next t
      ∧ t.station a = { s.station a with
          failures := 0
          settings := if again then (s.station a).settings else (s.station a).settings.remove x }
      ∧ s.BesideStation a t ∧ t.street = s.street ∧ t.link.pointer = a

/-- R106, R124, R130, R136, R155, R156: the last setting of a TAKING station makes it OWNED: a STATION notice, the PLAY of its
crossing's state (in STARTING launched when the lead ends, log 35), and its needs recomputed. -/
def Obligations.LastSettingMakesTheStationOwned : Prop :=
  ∀ (s : State) (a : StationId) (x : Setting) (reply : KerbReply) (b : Binding),
    s.Carries a x.item false → OkReply a x.item reply → (s.station a).owner = .taking →
    (s.station a).settings.remove x = {} → (s.station a).binding = some b →
    (s.crossing b.crossing).sound = true →
    ∃ t, exec (x.item.ending reply) s = .next t
      ∧ { t.station a with mirror := (s.station a).mirror, job := (s.station a).job } = { s.station a with
          owner := .owned, failures := 0, settings := {}
          urgent := urgentAdd (s.station a).urgent (.play (s.playFor a b (s.crossing b.crossing).state))
          level := s.targetLevel a }
      ∧ t.street = s.street.queued ({ s.station a with owner := .owned }.notice a)
      ∧ s.BesideStation a t ∧ t.link.pointer = a ∧ t.Served a (s.station a)

/-- R105, R106, R155 to R157: a job's transactions that end OK move it on: after SLOT OPEN it sends from block 0, each BLOCK
counts one, the last leads to the commit; COMMIT OK makes the slot RESIDENT at the tail of the commit order, the first COMMIT
BAD starts the job again, the second empties the slot, bars the clip and reports the first barred clip; the needs of an OWNED
station are recomputed at the job's end. -/
def Obligations.JobMovesOnByItsTransactions : Prop :=
  ∀ (s : State) (a : StationId) (again : Bool) (reply : KerbReply) (j : Job), (s.station a).job = some j →
    let st := s.station a
    (s.Carries a .slotOpen again → OkReply a .slotOpen reply →
      ∃ t, exec (.slotOpenTransaction reply) s = .next t ∧ s.BesideStation a t ∧ t.street = s.street
        ∧ t.link.pointer = a
        ∧ t.station a = { st with failures := 0, job := some { j with state := .sending, next := 0 } })
    ∧ (s.Carries a .block again → OkReply a .block reply →
      ∃ t, exec (.blockTransaction reply) s = .next t ∧ s.BesideStation a t ∧ t.street = s.street
        ∧ t.link.pointer = a
        ∧ t.station a = { st with
            failures := 0
            job := some { j with
              next := j.next + 1
              state := if j.next + 1 = j.total then .committing else .sending } })
    ∧ (s.Carries a .slotCommit again → OkReply a .slotCommit reply →
        (∀ b, st.binding = some b → (s.crossing b.crossing).sound = true) →
      ∃ t, exec (.slotCommitTransaction reply) s = .next t ∧ s.BesideStation a t ∧ t.link.pointer = a
        ∧ let ended (u : Station) := t.ServedIfOwned a u
            ∧ { t.station a with mirror := u.mirror, job := none } = { u with failures := 0 }
          (replyByte reply 2 = 0 → t.street = s.street
            ∧ ended { st with
              job := none
              mirror := { slots := st.mirror.slots.set j.slot ⟨j.clip.val + 1, .resident⟩,
                          order := (st.mirror.order.filter fun i => i ≠ j.slot) ++ [j.slot] } })
          ∧ (replyByte reply 2 ≠ 0 → j.attempt = 1 → t.street = s.street
            ∧ t.station a = { st with failures := 0, job := some { j with state := .opening, next := 0, attempt := 2 } })
          ∧ (replyByte reply 2 ≠ 0 → j.attempt ≠ 1 →
            (t.street = if st.barred = [] then s.street.queued ({ st with clipFault := true }.notice a) else s.street)
            ∧ ended { st with
              job := none
              barred := if j.clip ∈ st.barred then st.barred else st.barred ++ [j.clip]
              clipFault := if st.barred = [] then true else st.clipFault
              mirror := { slots := st.mirror.slots.set j.slot ⟨0, .empty⟩,
                          order := st.mirror.order.filter fun i => i ≠ j.slot } }))

/-- R98, R101, R104 to R106, R178: the next poll is of the lowest address from the place reached that is polled in this frame;
when none is left the station with work that comes first after the pointer is offered one transaction, if the frame has the
time: the head of its urgent list, else the first item of its settings set in the fixed order, else its job's, each in the
bytes of its table. When a transaction ends, the next poll or visit follows, unless the frame carries nothing further, which
after a kerb reset is the model's reading (log 13). -/
def Obligations.NextTransactionFollowsTheOrder : Prop :=
  (∀ s : State,
    (∀ i : Nat, let t := s.periodicFrom i
      (∀ a, i ≤ a.val → (s.station a).polledIn a s.link.frame = true →
        (∀ b, i ≤ b.val → b < a → (s.station b).polledIn b s.link.frame = false) →
        t = { s with link := { s.link with
          activity := .transaction ⟨a, .poll, false, false⟩
          sent := withCrc [byte (a.val + 1), 0x01, s.link.frame, 0]
          used := s.link.used + 1020 } })
      ∧ ((∀ a, i ≤ a.val → (s.station a).polledIn a s.link.frame = false) → t = s.asynchronous))
    ∧ ((∀ a, (s.station a).hasWork = false) →
        s.asynchronous = { s with link := { s.link with activity := .idle } })
    ∧ ∀ a, (s.station a).hasWork = true →
        (∀ b, (s.station b).hasWork = true →
          (a.val + 23 - s.link.pointer.val) % 24 ≤ (b.val + 23 - s.link.pointer.val) % 24) →
        ∃ item bytes, s.offer a = some (item, bytes)
          ∧ (let micros := 40 * (bytes.length + if item = .poll then 12 else 6) + 300
            s.asynchronous =
              if s.link.used + micros + 2000 ≤ 100000 then
                { s with link := { s.link with
                  activity := .transaction ⟨a, item, false, false⟩, sent := bytes, used := s.link.used + micros } }
              else { s with link := { s.link with activity := .idle } }))
  ∧ (∀ (s : State) (a : StationId),
    let st := s.station a
    let address := byte (a.val + 1)
    let flags (x y : Bool) := byte (x.toNat + 2 * y.toNat)
    let two (v : Nat) : List Byte := [byte (v / 256), byte v]
    let offers (item : Item) (body : List Byte) := s.offer a = some (item, withCrc (address :: item.code :: body))
    (∀ p rest, st.urgent = .play p :: rest →
      offers (.play p) ([byte p.pattern, byte p.clip, flags p.tactile p.lamp] ++ two p.level ++ [p.launch, 0, 0]))
    ∧ (∀ k rest, st.urgent = .ack k :: rest → offers .ack [byte k.pattern, byte k.clip, 0, 0])
    ∧ (st.urgent = [] → ∀ before x after, serviceOrder = before ++ x :: after → st.settings.has x = true →
        (∀ y ∈ before, st.settings.has y = false) →
        (x = .takeOver → offers .takeOver [0, 0])
        ∧ (x = .config → ∀ b, st.binding = some b →
            offers .config ([byte b.settings.holdThreshold, byte b.settings.rampRate, yesNo b.settings.tactile,
              byte b.settings.locateClip] ++ List.replicate 12 0))
        ∧ (∀ k, x = .pattern k →
            (s.patternOf (k.val + 1) = none → offers (.pattern k) (byte (k.val + 1) :: List.replicate 19 0))
            ∧ ∀ q, s.patternOf (k.val + 1) = some q →
                offers (.pattern k) ([byte (k.val + 1), byte q.period, flags q.repeating q.initial, byte q.points.length]
                  ++ q.points.flatMap (fun p => [byte p.1, yesNo p.2]) ++ List.replicate (16 - 2 * q.points.length) 0))
        ∧ (x = .level → offers .level (two st.level ++ [0, 0])))
    ∧ (st.urgent = [] → st.settings = {} → ∀ j, st.job = some j →
        let c := s.clip j.clip
        (j.state = .opening →
          offers .slotOpen ([byte j.slot.val, byte (j.clip.val + 1)] ++ two c.length ++ [0, 0]))
        ∧ (j.state = .sending → j.next < 512 →
            offers .block ([byte (64 * j.slot.val + j.next / 256), byte j.next] ++ (c.data.drop (128 * j.next)).take 128))
        ∧ (j.state = .committing →
          offers .slotCommit ([byte j.slot.val, byte (j.clip.val + 1)] ++ two c.check.toNat ++ [0, 0])))
    ∧ (st.urgent = [] → st.settings = {} → st.job = none → s.offer a = none))
  ∧ (∀ (s : State) (x : Transaction) (reply : KerbReply), s.link.activity = .transaction x →
      ∃ u : State, exec (x.item.ending reply) s = .next (u.proceed x)
        ∧ u.link = { s.link with activity := .idle }
        ∧ (x.discard = true → u = { s with link := { s.link with activity := .idle } }))
  ∧ ∀ (u : State) (x : Transaction),
      let moved := { u with link := { u.link with pointer := if x.item = .poll then u.link.pointer else x.station } }
      (u.link.closed = true → u.proceed x = moved)
      ∧ (u.link.closed = false → u.proceed x =
          if x.item = .poll then u.periodicFrom (x.station.val + 1) else moved.asynchronous)

/-! ### Stations -/

/-- R118, R119, R123, R144, R145, R155: BIND STATION: refused out of range and at a full approach; a first binding and a
binding elsewhere start the station anew, TAKING when the part is CONFIGURED and the link ready, LOCAL otherwise; new settings
at the same approach keep it, with CONFIG and its level to be sent and its needs recomputed. What a first binding and a move leave of the station's
other items is the model's reading (log 29). -/
def Obligations.BindStationBindsTheAddress : Prop :=
  ∀ (s : State) (tag address crossing approach : Byte) (f : BindFields), s.Takes →
    (¬ bindInRange address crossing approach f →
      exec (.bindStation tag address crossing approach f) s = .next (s.answered 0x08 tag .badField []))
    ∧ ∀ (a : StationId) (n : CrossingId) (ap : Approach), bindInRange address crossing approach f →
        address.toNat = a.val + 1 → crossing.toNat = n.val + 1 → approach = approachCode ap →
        let others := allStations.filter fun x => x ≠ a && (s.station x).serves n ap
        let st := s.station a
        let set := settingsFrom f
        let b : Binding := ⟨n, ap, set⟩
        let target (ambient : Nat) := min (max (ambient + set.margin) set.floor) (set.ceiling s.tb.dayNight)
        let fresh := { st with
          binding := some b, ambient := 600, speaker := false, tactile := false, mic := false, clipFault := false
          barred := [], level := target 600 }
        let placed (u : Station) := if s.configured = true ∧ s.link.line = .up ∧ s.link.quiet = 0 then
          u.taken s.takeOverSet else { u with owner := .local }
        let moves := st.level + 20 ≤ target st.ambient ∨ target st.ambient + 20 ≤ st.level
          ∨ set.ceiling s.tb.dayNight < st.level ∨ st.level < set.floor
        (2 ≤ others.length →
          exec (.bindStation tag address crossing approach f) s = .next (s.answered 0x08 tag .noSpace []))
        ∧ (others.length < 2 → (s.crossing n).sound = true →
          ∃ t, exec (.bindStation tag address crossing approach f) s = .next t
            ∧ s.BesideStation a t ∧ t.street = s.street.answered .reply (replyFrame 0x08 tag .ok [])
            ∧ (s.link.SameButDiscard t.link ∨ s.link.SameButAgain t.link)
            ∧ (st.binding = none → t.station a = placed { fresh with latePlay := false, press := {} })
            ∧ (∀ old, st.binding = some old → (old.crossing ≠ n ∨ old.approach ≠ ap) →
                t.station a = placed (if st.partHeld then { fresh.stripped with failures := 0 } else fresh))
            ∧ (∀ old, st.binding = some old → old.crossing = n → old.approach = ap →
                t.ServedIfOwned a st ∧ { t.station a with mirror := st.mirror, job := st.job } = { st with
                  binding := some b
                  level := if moves then target st.ambient else st.level
                  settings := if st.controlled then { st.settings with
                      config := true
                      level := st.settings.level || decide (moves ∧ target st.ambient ≠ st.level) }
                    else st.settings }))

/-- R120 to R123, R128: UNBIND STATION gives the address back its values of Table 7-1; CONFIGURE takes every bound LOCAL
station over where the link is ready; UNCONFIGURE sends every station under part control to LOCAL; the settings of a
take-over are TAKE-OVER, CONFIG and each defined pattern. -/
def Obligations.UnbindConfigureUnconfigure : Prop :=
  (∀ s : State, s.takeOverSet.takeOver = true ∧ s.takeOverSet.config = true ∧ s.takeOverSet.level = false
    ∧ ∀ k : PatternId, s.takeOverSet.patterns.getLsbD k.val = (s.patternOf (k.val + 1)).isSome)
  ∧ (∀ (s : State) (tag address : Byte), s.Takes →
      ((address = 0 ∨ 24 < address.toNat) →
        exec (.unbindStation tag address) s = .next (s.answered 0x09 tag .badField []))
      ∧ ∀ a : StationId, address.toNat = a.val + 1 →
          ((s.station a).binding = none →
            exec (.unbindStation tag address) s = .next (s.answered 0x09 tag .ok []))
          ∧ ((s.station a).binding ≠ none → ∃ t, exec (.unbindStation tag address) s = .next t
              ∧ t.station a = State.reset.station a ∧ s.BesideStation a t ∧ s.link.SameButDiscard t.link
              ∧ t.street = s.street.answered .reply (replyFrame 0x09 tag .ok [])))
  ∧ (∀ (s : State) (tag : Byte), s.Takes →
      ∃ t, exec (.configure tag) s = .next t
        ∧ t.configured = true ∧ s.BesideStations t ∧ s.link.SameButDiscard t.link
        ∧ t.street = s.street.answered .reply (replyFrame 0x0A tag .ok [])
        ∧ ∀ a, t.station a = if s.link.line = .up ∧ s.link.quiet = 0 ∧ (s.station a).owner = .local
              ∧ (s.station a).binding.isSome = true then (s.station a).taken s.takeOverSet else s.station a)
  ∧ ∀ (s : State) (tag : Byte), s.Takes →
      ∃ t, exec (.unconfigure tag) s = .next t
        ∧ t.configured = false ∧ s.BesideStations t ∧ s.link.SameButDiscard t.link
        ∧ t.street = s.street.answered .reply (replyFrame 0x0B tag .ok [])
        ∧ ∀ a, t.station a = if s.configured = true ∧ (s.station a).partHeld = true then (s.station a).wentLocal
            else s.station a

/-- R112, R128: the kerb reset: every bound station LOCAL, all work and mirrors cleared, frame 0 next, a quiet period of 20
frames, the pointer at 24, the outcome of a transaction in progress discarded; the line state and its counts stay, and a
beacon in progress is still judged (log 13). -/
def Obligations.KerbResetClearsTheLink : Prop :=
  ∀ (s : State) (tag : Byte), s.Takes →
    ∃ t, exec (.resetKerbLink tag) s = .next t
      ∧ t.link = { s.link with
          frame := 0, keepNumber := true, quiet := 20, pointer := 23, closed := true
          activity := match s.link.activity with
            | .transaction x => .transaction { x with discard := true }
            | x => x }
      ∧ (∀ a, t.station a = if (s.station a).binding.isSome = true then (s.station a).wentLocal
          else (s.station a).stripped)
      ∧ s.BesideStations t ∧ t.configured = s.configured
      ∧ t.street = s.street.answered .reply (replyFrame 0x0C tag .ok [])

/-! ### Patterns and clips -/

/-- R134, R135: SET PATTERN: BAD_FIELD for any field out of range or offsets that do not increase; an erasure of a pattern a
held plan names, or while a record is unusable, BAD_STATE; otherwise the record is written or erased, and PATTERN k goes
to every station under control. -/
def Obligations.SetPatternWritesTheRecord : Prop :=
  ∀ (s : State) (tag pattern period cadence initial : Byte) (points : List PointFields), s.Takes →
    let command := Instr.setPattern tag pattern period cadence initial points
    let fits := 1 ≤ pattern.toNat ∧ pattern.toNat ≤ 16 ∧ 5 ≤ period.toNat ∧ period.toNat ≤ 200 ∧ cadence.toNat ≤ 1
      ∧ initial.toNat ≤ 1 ∧ points.length ≤ 8 ∧ (∀ q ∈ points, q.level.toNat ≤ 1 ∧ q.offset.toNat < period.toNat)
      ∧ (points.map fun q => q.offset.toNat).Pairwise (· < ·)
    (¬ fits → exec command s = .next (s.answered 0x0D tag .badField []))
    ∧ ∀ k : PatternId, fits → pattern.toNat = k.val + 1 →
        let named := ∃ n, ((s.crossing n).unusable = true ∧ (s.crossing n).active ≠ none)
          ∨ ∃ r, ((s.crossing n).active = some r ∨ (s.crossing n).planned = some r) ∧ r.plan.names (k.val + 1) = true
        let written (record : Option Pattern) := ∃ t, exec command s = .next t
          ∧ t.patternOf (k.val + 1) = record ∧ (∀ l, l ≠ k.val + 1 → t.patternOf l = s.patternOf l)
          ∧ (∀ a, t.station a = if (s.station a).controlled = true then
              { s.station a with settings := (s.station a).settings.add (.pattern k) } else s.station a)
          ∧ t.tb = s.tb ∧ t.crossings = s.crossings ∧ t.configured = s.configured ∧ t.clips = s.clips
          ∧ s.link.SameButAgain t.link ∧ t.startUp = s.startUp ∧ t.pending = s.pending
          ∧ t.street = s.street.answered .reply (replyFrame 0x0D tag .ok [])
        (points ≠ [] → written (some ⟨period.toNat, cadence == 1, initial == 1,
            points.map fun q => (q.offset.toNat, q.level == 1)⟩))
        ∧ (points = [] → s.PlansSound →
            (named → exec command s = .next (s.answered 0x0D tag .badState []))
            ∧ (¬ named → written none))

/-- R148 to R150, R153, R155, R156: CLIP OPEN and CLIP DATA by their checks, in order; an accepted CLIP OPEN starts the load anew, and a
VALID clip leaves VALID; an accepted CLIP DATA appends its bytes. -/
def Obligations.ClipOpenAndData : Prop :=
  (∀ (s : State) (tag clip : Byte) (length check : Half), s.Takes →
    let command := Instr.clipOpen tag clip length check
    (s.libraryEnabled = false → exec command s = .next (s.answered 0x0E tag .badState []))
    ∧ (s.libraryEnabled = true → (clip = 0 ∨ 64 < clip.toNat ∨ length.toNat < 16) →
        exec command s = .next (s.answered 0x0E tag .badField []))
    ∧ ∀ k : ClipId, s.libraryEnabled = true → clip.toNat = k.val + 1 → 16 ≤ length.toNat →
        let blocks := (length.toNat + 127) / 128
        let free := 4096 - s.blocksHeld + if (s.clip k).state = .empty then 0 else (s.clip k).blocks
        (free < blocks → exec command s = .next (s.answered 0x0E tag .noSpace []))
        ∧ (blocks ≤ free → s.PlansSound →
            let loading := s.setClip k ⟨.loading, length.toNat, blocks, check, 0, []⟩
            ((s.clip k).state ≠ .valid → exec command s = .next (loading.answered 0x0E tag .ok []))
            ∧ ((s.clip k).state = .valid → ∃ t, exec command s = .next t
                ∧ t.clips = loading.clips ∧ s.ClipLeft k t ∧ t.tb = s.tb ∧ t.crossings = s.crossings
                ∧ t.configured = s.configured ∧ s.link.SameButDiscard t.link ∧ t.patterns = s.patterns
                ∧ t.street = s.street.answered .reply (replyFrame 0x0E tag .ok []))))
  ∧ ∀ (s : State) (tag clip : Byte) (offset : Half) (data : List Byte), s.Takes → 1 ≤ data.length → data.length ≤ 240 →
      let command := Instr.clipData tag clip offset data
      ((clip = 0 ∨ 64 < clip.toNat) → exec command s = .next (s.answered 0x0F tag .badField []))
      ∧ ∀ k : ClipId, clip.toNat = k.val + 1 →
          let c := s.clip k
          (c.state ≠ .loading ∨ offset.toNat ≠ c.received → exec command s = .next (s.answered 0x0F tag .badState []))
          ∧ (c.state = .loading → offset.toNat = c.received →
              exec command s = .next (if c.length < offset.toNat + data.length then s.answered 0x0F tag .badField []
                else (s.setClip k { c with received := c.received + data.length, data := c.data ++ data }).answered
                  0x0F tag .ok []))

/-- R130, R151 to R153, R155, R156: CLIP CLOSE of a whole load makes a clip with the marker and the CRC VALID, which frees it
from every barred set, and any other EMPTY with CHECK_FAILED; CLIP ERASE empties a clip, which leaves VALID. The needs of
every OWNED station are recomputed where a clip becomes or leaves VALID. The ascending order of the STATION notices of the
stations freed is the model's (log 36). -/
def Obligations.ClipCloseAndErase : Prop :=
  (∀ (s : State) (tag clip : Byte), s.Takes → (clip = 0 ∨ 64 < clip.toNat) →
    exec (.clipClose tag clip) s = .next (s.answered 0x10 tag .badField [])
    ∧ exec (.clipErase tag clip) s = .next (s.answered 0x11 tag .badField []))
  ∧ ∀ (s : State) (k : ClipId) (tag clip : Byte), s.Takes → clip.toNat = k.val + 1 →
      let c := s.clip k
      let whole := c.data[0]? = some 0x5A ∧ c.data[1]? = some 0xC3 ∧ crc16 c.data = c.check
      let freed (a : StationId) := k ∈ (s.station a).barred ∧ ∀ l ∈ (s.station a).barred, l = k
      ((c.state ≠ .loading ∨ c.received < c.length) →
        exec (.clipClose tag clip) s = .next (s.answered 0x10 tag .badState []))
      ∧ (c.state = .loading → c.length ≤ c.received → ¬ whole →
          exec (.clipClose tag clip) s = .next ((s.setClip k {}).answered 0x10 tag .checkFailed []))
      ∧ (c.state = .loading → c.length ≤ c.received → whole → s.PlansSound →
          ∃ t, exec (.clipClose tag clip) s = .next t
            ∧ t.clips = (s.setClip k { c with state := .valid }).clips
            ∧ t.tb = s.tb ∧ t.crossings = s.crossings ∧ t.configured = s.configured ∧ t.link = s.link
            ∧ (∀ a, { t.station a with mirror := (s.station a).mirror, job := (s.station a).job } =
                { s.station a with
                  barred := (s.station a).barred.filter fun l => l ≠ k
                  clipFault := if freed a then false else (s.station a).clipFault })
            ∧ (∀ a, t.ServedIfOwned a (s.station a))
            ∧ t.street = (((allStations.filter fun a => freed a).map fun a =>
                { s.station a with clipFault := false }.notice a).foldl Street.queued s.street).answered
                  .reply (replyFrame 0x10 tag .ok []))
      ∧ (c.state = .empty → exec (.clipErase tag clip) s = .next (s.answered 0x11 tag .ok []))
      ∧ (c.state = .loading → exec (.clipErase tag clip) s = .next ((s.setClip k {}).answered 0x11 tag .ok []))
      ∧ (c.state = .valid → s.PlansSound → ∃ t, exec (.clipErase tag clip) s = .next t
          ∧ t.clips = (s.setClip k {}).clips ∧ s.ClipLeft k t ∧ t.tb = s.tb ∧ t.crossings = s.crossings
          ∧ t.configured = s.configured ∧ s.link.SameButDiscard t.link ∧ t.patterns = s.patterns
          ∧ t.street = s.street.answered .reply (replyFrame 0x11 tag .ok []))

/-! ### The aids -/

/-- R103, R136, R137: the content of a PLAY by interval state, and its place in an urgent list: it takes the place of the
PLAY that waits, or joins the tail; an ACK keeps its place. In CLEARANCE a usable plan without a clearance pattern sounds its
locator; an undefined pattern 4 in the absence of a usable plan is silence (log 34). That the launch frame of STARTING is the
lead's end also for a station that becomes OWNED within the lead is the model's reading (log 35). -/
def Obligations.PlayFollowsTheInterval : Prop :=
  (∀ (s : State) (a : StationId) (b : Binding),
    let v := s.planValues b.crossing
    let c := s.crossing b.crossing
    let level := min (max ((s.station a).ambient + b.settings.margin) b.settings.floor) (b.settings.ceiling s.tb.dayNight)
    let clip := if (s.station a).mirror.holds v.walkClip then v.walkClip else 0
    (s.station a).binding = some b →
    s.playFor a b .dark = ⟨0, 0, false, false, level, s.link.frame⟩
    ∧ (∀ st, st = .rest ∨ st = .hold ∨ st = .fault →
        s.playFor a b st = ⟨v.locator, 0, false, (c.place b.approach).isSome, level, s.link.frame⟩)
    ∧ (∀ w, c.walk = some w →
        s.playFor a b .starting =
          ⟨v.walkPattern, clip, b.settings.tactile, false, level, s.link.frame + BitVec.ofNat 8 w.count⟩)
    ∧ s.playFor a b .walk = ⟨v.walkPattern, 0, b.settings.tactile, false, level, s.link.frame⟩
    ∧ s.playFor a b .clearance =
        ⟨match c.usablePlan with
          | some p => if p.clearancePattern = 0 then p.locator else p.clearancePattern
          | none => if s.patternOf 4 = none then 0 else 4, 0, false, false, level, s.link.frame⟩
    ∧ s.playFor a b .buffer = ⟨v.locator, 0, false, false, level, s.link.frame⟩)
  ∧ ∀ (l : List Urgent) (p : Play), UrgentLaw l →
      UrgentLaw (urgentAdd l (.play p)) ∧ (urgentAdd l (.play p)).filter Urgent.isPlay = [.play p]
      ∧ (urgentAdd l (.play p)).filter (fun u => !u.isPlay) = l.filter (fun u => !u.isPlay)
      ∧ (l.any Urgent.isPlay = false → urgentAdd l (.play p) = l ++ [.play p])
      ∧ (∀ i : Nat, ((urgentAdd l (.play p))[i]?.map Urgent.isPlay) = (l[i]?.map Urgent.isPlay)
          ∨ (i = l.length ∧ l.any Urgent.isPlay = false))

/-! ### The Street Link -/

/-- R31, R50, R81, R96, R131, R159, R165, R174: the queries and RESTART: each is answered with the model's report of its
crossing, station, clip or start-up state, and changes nothing but the late-play flag; the reports of a crossing and a
station have the lengths, and at the offsets named the items, of Tables 12-19 and 12-20. The plan id of a record with the
unusable mark is reported as it was written, by the model's choice (log 37). -/
def Obligations.QueriesReportTheState : Prop :=
  ∀ (s : State) (tag x : Byte), s.Takes →
    (∀ n : CrossingId, x.toNat = n.val + 1 → (s.crossing n).sound = true →
      let r := s.crossingReport n
      exec (.queryCrossing tag x) s = .next (s.answered 0x12 tag .ok r)
      ∧ r.length = 59 ∧ r[0]? = some x ∧ r[1]? = some (s.crossing n).mode.code
      ∧ r[2]? = some (s.crossing n).state.code ∧ r[3]? = some (s.crossing n).causes.code
      ∧ (∀ p, (s.crossing n).active = some p → r[5]? = some (byte p.plan.planId))
      ∧ (∀ p, (s.crossing n).planned = some p → r[6]? = some (byte p.plan.planId))
      ∧ ((s.crossing n).active = none → r[5]? = some 0) ∧ ((s.crossing n).planned = none → r[6]? = some 0)
      ∧ r[32]? = some (countdownCode (s.crossing n).countdown)
      ∧ r.drop 33 = channelBytes (s.crossing n).walkLamp ++ channelBytes (s.crossing n).dontLamp)
    ∧ ((x = 0 ∨ 8 < x.toNat) → exec (.queryCrossing tag x) s = .next (s.answered 0x12 tag .badField []))
    ∧ (∀ a : StationId, x.toNat = a.val + 1 →
        let r := s.stationReport a
        exec (.queryStation tag x) s =
          .next ((s.setStation a { s.station a with latePlay := false }).answered 0x13 tag .ok r)
        ∧ r.length = 58 ∧ r[0]? = some x ∧ r[16]? = some (s.station a).owner.code
        ∧ r[17]? = some (byte (s.station a).failures) ∧ r[24]? = some (yesNo (s.station a).latePlay)
        ∧ r.drop 51 = heldBytes (s.station a).held)
    ∧ ((x = 0 ∨ 24 < x.toNat) → exec (.queryStation tag x) s = .next (s.answered 0x13 tag .badField []))
    ∧ (∀ k : ClipId, x.toNat = k.val + 1 →
        exec (.queryClip tag x) s = .next (s.answered 0x14 tag .ok
          ([yesNo s.libraryEnabled] ++ half (4096 - s.blocksHeld) ++ [(s.clip k).state.code] ++ half (s.clip k).length
            ++ half (s.clip k).blocks ++ half (s.clip k).check.toNat ++ half (s.clip k).received)))
    ∧ ((x = 0 ∨ 64 < x.toNat) → exec (.queryClip tag x) s = .next (s.answered 0x14 tag .badField []))
    ∧ ∀ o : OperatingState, ∀ u : State, u = { s with startUp := { s.startUp with operating := o } } →
        exec (.queryStartUp tag) u = .next (u.answered 0x15 tag .ok
          [o.code, checkCode u.startUp.check, u.startUp.done.code, u.startUp.failed.code,
            bits (u.startUp.failedChannels.toList.drop 8), bits (u.startUp.failedChannels.toList.take 8)])
        ∧ exec (.restart tag) u = .next
            { u with street := u.street.answered .restartReply (replyFrame 0x16 tag .ok []) }

/-- R162, R163: a bad CRC, a gap, a framing error and a frame that meets a request in progress each discard the frame in
silence; a good frame of no request kind is answered UNKNOWN_KIND in every operating state. That REQUEST_WHILE_BUSY changes
nothing with no request in progress is the model's choice (log 1). -/
def Obligations.DiscardsAreSilent : Prop :=
  ∀ s : State,
    let hunting := { s with street := { s.street with receiver := .hunt } }
    exec .badCrcFrame s = .next hunting ∧ exec .byteGapTimeout s = .next hunting
    ∧ exec .framingError s = .next hunting
    ∧ exec .requestWhileBusy s = .next (if s.street.busy = true then hunting else s)
    ∧ ∀ (kind tag : Byte) (payload : List Byte), (kind = 0 ∨ 0x16 < kind.toNat) →
        (s.street.busy = true → exec (.unknownKind kind tag payload) s = .next hunting)
        ∧ (s.street.busy = false →
            let reply := frameOf (if kind = 0 ∨ 0x80 ≤ kind.toNat then 0xFF else kind + 0x80) tag [1, 0]
            exec (.unknownKind kind tag payload) s = .next { s with street := s.street.answered .reply reply })

/-- R162, R163, Tables 12-3 to 12-8 and 12-18: the receiver takes a frame byte by byte; the last byte of a good frame is the
request its bytes spell, for every request kind and every value of every field; of a bad one it is a bad CRC. That
UNKNOWN_KIND with a request kind is the request its payload spells is the model's choice (log 8). -/
def Obligations.BytesSpellTheRequest : Prop :=
  (∀ (s : State) (l b kind tag : Byte) (got payload : List Byte), s.street.receiver = .body l got →
    l.toNat = payload.length + 2 → l :: (got ++ [b]) = withCrc (l :: kind :: tag :: payload) →
    exec (.streetLinkByteReceived b) s = exec (.unknownKind kind tag payload) s)
  ∧ (∀ (s : State) (l b : Byte) (got : List Byte), s.street.receiver = .body l got → got.length + 1 = l.toNat + 2 →
    l :: (got ++ [b]) ≠ withCrc (l :: (got ++ [b]).take l.toNat) →
    exec (.streetLinkByteReceived b) s = exec .badCrcFrame s)
  ∧ (∀ (s : State) (b : Byte),
    let become (r : Receiver) := Host.Outcome.next (φ := Fault) (ρ := Refusal)
      { s with street := { s.street with receiver := r } }
    (s.street.receiver = .hunt → exec (.streetLinkByteReceived b) s = become (if b = 0xA5 then .length else .hunt))
    ∧ (s.street.receiver = .length →
        exec (.streetLinkByteReceived b) s = become (if 4 ≤ b.toNat ∧ b.toNat ≤ 250 then .body b [] else .hunt))
    ∧ ∀ l got, s.street.receiver = .body l got → got.length + 1 < l.toNat + 2 →
        exec (.streetLinkByteReceived b) s = become (.body l (got ++ [b])))
  ∧ ∀ (s : State) (tag a b c d e f : Byte) (points : List PointFields) (data : List Byte) (g : PlanFields)
      (h : BindFields),
    let spelled (kind : Byte) (payload : List Byte) := exec (.unknownKind kind tag payload) s
    let two (x : Half) : List Byte := [x.extractLsb' 8 8, x.extractLsb' 0 8]
    spelled 0x01 [a, b, c, d, e, f] = exec (.sync tag (a ++ b) (c ++ d) e f) s
    ∧ spelled 0x02 ([a, g.planId] ++ two g.cycle ++ two g.openAt ++ two g.endAt ++ two g.minWalk ++ [g.extension]
        ++ two g.distance ++ [g.normalSpeed, g.accessibleSpeed, g.buffer, g.dwell, g.countdown, g.locator,
          g.walkPattern, g.clearancePattern, g.acknowledge, g.walkClip]) = exec (.setPlan tag a g) s
    ∧ spelled 0x03 [a, b] = exec (.setMode tag a b) s
    ∧ spelled 0x04 [a, f] = exec (.clearFault tag a) s
    ∧ spelled 0x05 [a, b, c] = exec (.placeCall tag a b c) s
    ∧ spelled 0x06 [a, b] = exec (.cancelCall tag a b) s
    ∧ spelled 0x07 [a, b, c, d, e, f] = exec (.setHead tag a b c d e f) s
    ∧ spelled 0x08 ([a, b, c] ++ two h.margin ++ two h.floor ++ two h.dayCeiling ++ two h.nightCeiling
        ++ [h.holdThreshold, h.rampRate, h.locateClip, h.tactile]) = exec (.bindStation tag a b c h) s
    ∧ spelled 0x09 [a, f] = exec (.unbindStation tag a) s
    ∧ spelled 0x0A [e, f] = exec (.configure tag) s
    ∧ spelled 0x0B [e, f] = exec (.unconfigure tag) s
    ∧ spelled 0x0C [e, f] = exec (.resetKerbLink tag) s
    ∧ (points.length < 256 → spelled 0x0D ([a, b, c, d, BitVec.ofNat 8 points.length]
        ++ points.flatMap fun q => [q.offset, q.level]) = exec (.setPattern tag a b c d points) s)
    ∧ spelled 0x0E [a, b, c, d, e] = exec (.clipOpen tag a (b ++ c) (d ++ e)) s
    ∧ spelled 0x0F ([a, b, c] ++ data) = exec (.clipData tag a (b ++ c) data) s
    ∧ spelled 0x10 [a, f] = exec (.clipClose tag a) s
    ∧ spelled 0x11 [a, f] = exec (.clipErase tag a) s
    ∧ spelled 0x12 [a, f] = exec (.queryCrossing tag a) s
    ∧ spelled 0x13 [a, f] = exec (.queryStation tag a) s
    ∧ spelled 0x14 [a, f] = exec (.queryClip tag a) s
    ∧ spelled 0x15 [e, f] = exec (.queryStartUp tag) s
    ∧ spelled 0x16 [e, f] = exec (.restart tag) s

/-- R167, R168: the free outgoing line begins the waiting reply, which ends the request in progress; with none waiting and
no request in progress it begins the oldest notice; at a frame's end it chooses again. -/
def Obligations.OutgoingLineServesTheReplyFirst : Prop :=
  ∀ s : State,
    let u := s.street
    let begun (f : OutFrame) := { u with sending := some f, reply := none, busy := false }
    let told (n : Notice) (rest : List Notice) :=
      { u with sending := some ⟨.notice, frameOf n.fields.1 0 (padded n.fields.2)⟩, notices := rest }
    (∀ f, u.sending = none → u.reply = some f → exec .replyBegin s = .next { s with street := begun f })
    ∧ (∀ n rest, u.sending = none → u.reply = none → u.busy = false → u.notices = n :: rest →
        exec .noticeBegin s = .next { s with street := told n rest })
    ∧ ∀ f, u.sending = some f → f.cls ≠ .restartReply →
        (∀ g, u.reply = some g → exec .frameSent s = .next { s with street := begun g })
        ∧ (∀ n rest, u.reply = none → u.busy = false → u.notices = n :: rest →
            exec .frameSent s = .next { s with street := told n rest })
        ∧ (u.reply = none → (u.busy = true ∨ u.notices = []) →
            exec .frameSent s = .next { s with street := { u with sending := none } })

/-- R163, R174: a request of any kind that meets a request in progress is discarded; outside RUNNING every request but QUERY
START-UP and RESTART is answered BAD_STATE and changes nothing; CLIP DATA without data or with more than 240 bytes is
answered BAD_LENGTH. -/
def Obligations.RequestsOutsideRunningChangeNothing : Prop :=
  ∀ (s : State) (c : Instr) (kind tag : Byte), requestKind c = some (kind, tag) →
    (s.street.busy = true → exec c s = .next { s with street := { s.street with receiver := .hunt } })
    ∧ (s.street.busy = false → s.startUp.operating ≠ .running → kind ≠ 0x15 → kind ≠ 0x16 →
        exec c s = .next (s.answered kind tag .badState []))
    ∧ ∀ clip offset data, s.street.busy = false → (data = [] ∨ 240 < data.length) →
        exec (.clipData tag clip offset data) s = .next (s.answered 0x0F tag .badLength [])

/-! ### Laws every step keeps -/

/-- R1, R2, R5, R11: the Timebase's ranges, and LOST exactly at freshness 30, hold after every step from any state where
they hold. -/
def Obligations.TimebaseLawIsKept : Prop :=
  ∀ s t : State, s.tb.Law → step s = .next t → t.tb.Law

/-- R162, R163, R167: at most 32 notices, a well-formed reception, and a reply only of a request in progress. -/
def Obligations.StreetLawsAreKept : Prop :=
  ∀ s t : State, s.NoticesLaw → s.ReceptionLaw → step s = .next t → t.NoticesLaw ∧ t.ReceptionLaw

/-- R97, R110, R148: the ranges of the Kerb Link's counters, and the blocks held never above 4096. -/
def Obligations.LineAndBlocksLawsAreKept : Prop :=
  ∀ s t : State, step s = .next t → (s.LineLaw → t.LineLaw) ∧ (s.BlocksLaw → t.BlocksLaw)

/-- R32, R103, R123: one PLAY and one ACK at most; part control only while bound and CONFIGURED; no work and no press state
outside it. -/
def Obligations.ControlLawIsKept : Prop :=
  ∀ s t : State, s.ControlLaw → step s = .next t → t.ControlLaw

/-- R117, R143, R145: each bound station's commanded level lies between its floor and the ceiling in force, and A_f in its
range. -/
def Obligations.LevelLawIsKept : Prop :=
  ∀ s t : State, s.LevelLaw → step s = .next t → t.LevelLaw

/-- R153, R154, R160: a slot is RESIDENT only with a clip that is VALID, and a job copies a VALID clip. -/
def Obligations.ResidentLawIsKept : Prop :=
  ∀ s t : State, s.ResidentLaw → step s = .next t → t.ResidentLaw

/-- R83, R87: the channels follow their crossings and the budget; the applied targets never sum to more than 2400 mA. -/
def Obligations.CabinetNeverOverdrawn : Prop :=
  (∀ s t : State, s.LampLaw → s.BudgetLaw → step s = .next t → t.LampLaw ∧ t.BudgetLaw)
  ∧ ∀ s : State, s.LampLaw → s.BudgetLaw → s.appliedSum ≤ 2400

/-- R51, R52, R70, R85: a walk record exactly in a walk; waiting crossings in their settled state; STARTING and WALK only
with a PRESENT host and the crossing's bit set in the stored mask; the countdown only in CLEARANCE and as R85 says. The
exception of WalkLaw, a crossing that DONT_LAMP took to FAULT with mode OFF, is the model's choice (log 32). -/
def Obligations.WalkOnlyUnderPermit : Prop :=
  ∀ s t : State, s.WalkLaw → s.CountdownLaw → step s = .next t → t.WalkLaw ∧ t.CountdownLaw

/-- The state after reset meets every law. -/
def Obligations.ResetMeetsTheLaws : Prop :=
  State.reset.tb.Law ∧ State.reset.NoticesLaw ∧ State.reset.ReceptionLaw ∧ State.reset.LineLaw
  ∧ State.reset.BlocksLaw ∧ State.reset.ControlLaw ∧ State.reset.LevelLaw ∧ State.reset.ResidentLaw
  ∧ State.reset.LampLaw ∧ State.reset.BudgetLaw ∧ State.reset.WalkLaw ∧ State.reset.CountdownLaw
end

