-- ==== Sys2Proof/Laws/State.lean ====
section
/-! SUPPORT. What each update of the state leaves in each field, by rfl, and what is read after a write; what a self-test start
ends, and what a tick makes of the release position of a truncated walk. -/

namespace Sys2Proof.Machine

/-! ### setCrossing -/

@[simp] theorem State.setCrossing_tb (s : State) (n : CrossingId) (c : Crossing) : (s.setCrossing n c).tb = s.tb := rfl
@[simp] theorem State.setCrossing_budgetLimit (s : State) (n : CrossingId) (c : Crossing) : (s.setCrossing n c).budgetLimit = s.budgetLimit := rfl
@[simp] theorem State.setCrossing_stations (s : State) (n : CrossingId) (c : Crossing) : (s.setCrossing n c).stations = s.stations := rfl
@[simp] theorem State.setCrossing_configured (s : State) (n : CrossingId) (c : Crossing) : (s.setCrossing n c).configured = s.configured := rfl
@[simp] theorem State.setCrossing_link (s : State) (n : CrossingId) (c : Crossing) : (s.setCrossing n c).link = s.link := rfl
@[simp] theorem State.setCrossing_patterns (s : State) (n : CrossingId) (c : Crossing) : (s.setCrossing n c).patterns = s.patterns := rfl
@[simp] theorem State.setCrossing_libraryEnabled (s : State) (n : CrossingId) (c : Crossing) : (s.setCrossing n c).libraryEnabled = s.libraryEnabled := rfl
@[simp] theorem State.setCrossing_clips (s : State) (n : CrossingId) (c : Crossing) : (s.setCrossing n c).clips = s.clips := rfl
@[simp] theorem State.setCrossing_street (s : State) (n : CrossingId) (c : Crossing) : (s.setCrossing n c).street = s.street := rfl
@[simp] theorem State.setCrossing_startUp (s : State) (n : CrossingId) (c : Crossing) : (s.setCrossing n c).startUp = s.startUp := rfl
@[simp] theorem State.setCrossing_pending (s : State) (n : CrossingId) (c : Crossing) : (s.setCrossing n c).pending = s.pending := rfl
@[simp] theorem State.setCrossing_draws (s : State) (n : CrossingId) (c : Crossing) : (s.setCrossing n c).draws = s.draws := rfl
@[simp] theorem State.setCrossing_station (s : State) (n : CrossingId) (c : Crossing) (i : StationId) : (s.setCrossing n c).station i = s.station i := rfl
@[simp] theorem State.setCrossing_clip (s : State) (n : CrossingId) (c : Crossing) (i : ClipId) : (s.setCrossing n c).clip i = s.clip i := rfl

/-! ### modCrossing -/

@[simp] theorem State.modCrossing_tb (s : State) (n : CrossingId) (f : Crossing → Crossing) : (s.modCrossing n f).tb = s.tb := rfl
@[simp] theorem State.modCrossing_budgetLimit (s : State) (n : CrossingId) (f : Crossing → Crossing) : (s.modCrossing n f).budgetLimit = s.budgetLimit := rfl
@[simp] theorem State.modCrossing_stations (s : State) (n : CrossingId) (f : Crossing → Crossing) : (s.modCrossing n f).stations = s.stations := rfl
@[simp] theorem State.modCrossing_configured (s : State) (n : CrossingId) (f : Crossing → Crossing) : (s.modCrossing n f).configured = s.configured := rfl
@[simp] theorem State.modCrossing_link (s : State) (n : CrossingId) (f : Crossing → Crossing) : (s.modCrossing n f).link = s.link := rfl
@[simp] theorem State.modCrossing_patterns (s : State) (n : CrossingId) (f : Crossing → Crossing) : (s.modCrossing n f).patterns = s.patterns := rfl
@[simp] theorem State.modCrossing_libraryEnabled (s : State) (n : CrossingId) (f : Crossing → Crossing) : (s.modCrossing n f).libraryEnabled = s.libraryEnabled := rfl
@[simp] theorem State.modCrossing_clips (s : State) (n : CrossingId) (f : Crossing → Crossing) : (s.modCrossing n f).clips = s.clips := rfl
@[simp] theorem State.modCrossing_street (s : State) (n : CrossingId) (f : Crossing → Crossing) : (s.modCrossing n f).street = s.street := rfl
@[simp] theorem State.modCrossing_startUp (s : State) (n : CrossingId) (f : Crossing → Crossing) : (s.modCrossing n f).startUp = s.startUp := rfl
@[simp] theorem State.modCrossing_pending (s : State) (n : CrossingId) (f : Crossing → Crossing) : (s.modCrossing n f).pending = s.pending := rfl
@[simp] theorem State.modCrossing_draws (s : State) (n : CrossingId) (f : Crossing → Crossing) : (s.modCrossing n f).draws = s.draws := rfl
@[simp] theorem State.modCrossing_station (s : State) (n : CrossingId) (f : Crossing → Crossing) (i : StationId) : (s.modCrossing n f).station i = s.station i := rfl
@[simp] theorem State.modCrossing_clip (s : State) (n : CrossingId) (f : Crossing → Crossing) (i : ClipId) : (s.modCrossing n f).clip i = s.clip i := rfl

/-! ### setStation -/

@[simp] theorem State.setStation_tb (s : State) (a : StationId) (t : Station) : (s.setStation a t).tb = s.tb := rfl
@[simp] theorem State.setStation_crossings (s : State) (a : StationId) (t : Station) : (s.setStation a t).crossings = s.crossings := rfl
@[simp] theorem State.setStation_budgetLimit (s : State) (a : StationId) (t : Station) : (s.setStation a t).budgetLimit = s.budgetLimit := rfl
@[simp] theorem State.setStation_configured (s : State) (a : StationId) (t : Station) : (s.setStation a t).configured = s.configured := rfl
@[simp] theorem State.setStation_link (s : State) (a : StationId) (t : Station) : (s.setStation a t).link = s.link := rfl
@[simp] theorem State.setStation_patterns (s : State) (a : StationId) (t : Station) : (s.setStation a t).patterns = s.patterns := rfl
@[simp] theorem State.setStation_libraryEnabled (s : State) (a : StationId) (t : Station) : (s.setStation a t).libraryEnabled = s.libraryEnabled := rfl
@[simp] theorem State.setStation_clips (s : State) (a : StationId) (t : Station) : (s.setStation a t).clips = s.clips := rfl
@[simp] theorem State.setStation_street (s : State) (a : StationId) (t : Station) : (s.setStation a t).street = s.street := rfl
@[simp] theorem State.setStation_startUp (s : State) (a : StationId) (t : Station) : (s.setStation a t).startUp = s.startUp := rfl
@[simp] theorem State.setStation_pending (s : State) (a : StationId) (t : Station) : (s.setStation a t).pending = s.pending := rfl
@[simp] theorem State.setStation_draws (s : State) (a : StationId) (t : Station) : (s.setStation a t).draws = s.draws := rfl
@[simp] theorem State.setStation_crossing (s : State) (a : StationId) (t : Station) (m : CrossingId) : (s.setStation a t).crossing m = s.crossing m := rfl
@[simp] theorem State.setStation_channel (s : State) (a : StationId) (t : Station) (m : CrossingId) (x : Aspect) :
    (s.setStation a t).channel m x = s.channel m x := rfl
@[simp] theorem State.setStation_clip (s : State) (a : StationId) (t : Station) (i : ClipId) : (s.setStation a t).clip i = s.clip i := rfl

/-! ### modStation -/

@[simp] theorem State.modStation_tb (s : State) (a : StationId) (f : Station → Station) : (s.modStation a f).tb = s.tb := rfl
@[simp] theorem State.modStation_crossings (s : State) (a : StationId) (f : Station → Station) : (s.modStation a f).crossings = s.crossings := rfl
@[simp] theorem State.modStation_budgetLimit (s : State) (a : StationId) (f : Station → Station) : (s.modStation a f).budgetLimit = s.budgetLimit := rfl
@[simp] theorem State.modStation_configured (s : State) (a : StationId) (f : Station → Station) : (s.modStation a f).configured = s.configured := rfl
@[simp] theorem State.modStation_link (s : State) (a : StationId) (f : Station → Station) : (s.modStation a f).link = s.link := rfl
@[simp] theorem State.modStation_patterns (s : State) (a : StationId) (f : Station → Station) : (s.modStation a f).patterns = s.patterns := rfl
@[simp] theorem State.modStation_libraryEnabled (s : State) (a : StationId) (f : Station → Station) : (s.modStation a f).libraryEnabled = s.libraryEnabled := rfl
@[simp] theorem State.modStation_clips (s : State) (a : StationId) (f : Station → Station) : (s.modStation a f).clips = s.clips := rfl
@[simp] theorem State.modStation_street (s : State) (a : StationId) (f : Station → Station) : (s.modStation a f).street = s.street := rfl
@[simp] theorem State.modStation_startUp (s : State) (a : StationId) (f : Station → Station) : (s.modStation a f).startUp = s.startUp := rfl
@[simp] theorem State.modStation_pending (s : State) (a : StationId) (f : Station → Station) : (s.modStation a f).pending = s.pending := rfl
@[simp] theorem State.modStation_draws (s : State) (a : StationId) (f : Station → Station) : (s.modStation a f).draws = s.draws := rfl
@[simp] theorem State.modStation_crossing (s : State) (a : StationId) (f : Station → Station) (m : CrossingId) : (s.modStation a f).crossing m = s.crossing m := rfl
@[simp] theorem State.modStation_channel (s : State) (a : StationId) (f : Station → Station) (m : CrossingId) (x : Aspect) :
    (s.modStation a f).channel m x = s.channel m x := rfl
@[simp] theorem State.modStation_clip (s : State) (a : StationId) (f : Station → Station) (i : ClipId) : (s.modStation a f).clip i = s.clip i := rfl

/-! ### setClip -/

@[simp] theorem State.setClip_tb (s : State) (k : ClipId) (c : Clip) : (s.setClip k c).tb = s.tb := rfl
@[simp] theorem State.setClip_crossings (s : State) (k : ClipId) (c : Clip) : (s.setClip k c).crossings = s.crossings := rfl
@[simp] theorem State.setClip_budgetLimit (s : State) (k : ClipId) (c : Clip) : (s.setClip k c).budgetLimit = s.budgetLimit := rfl
@[simp] theorem State.setClip_stations (s : State) (k : ClipId) (c : Clip) : (s.setClip k c).stations = s.stations := rfl
@[simp] theorem State.setClip_configured (s : State) (k : ClipId) (c : Clip) : (s.setClip k c).configured = s.configured := rfl
@[simp] theorem State.setClip_link (s : State) (k : ClipId) (c : Clip) : (s.setClip k c).link = s.link := rfl
@[simp] theorem State.setClip_patterns (s : State) (k : ClipId) (c : Clip) : (s.setClip k c).patterns = s.patterns := rfl
@[simp] theorem State.setClip_libraryEnabled (s : State) (k : ClipId) (c : Clip) : (s.setClip k c).libraryEnabled = s.libraryEnabled := rfl
@[simp] theorem State.setClip_street (s : State) (k : ClipId) (c : Clip) : (s.setClip k c).street = s.street := rfl
@[simp] theorem State.setClip_startUp (s : State) (k : ClipId) (c : Clip) : (s.setClip k c).startUp = s.startUp := rfl
@[simp] theorem State.setClip_pending (s : State) (k : ClipId) (c : Clip) : (s.setClip k c).pending = s.pending := rfl
@[simp] theorem State.setClip_draws (s : State) (k : ClipId) (c : Clip) : (s.setClip k c).draws = s.draws := rfl
@[simp] theorem State.setClip_crossing (s : State) (k : ClipId) (c : Clip) (m : CrossingId) : (s.setClip k c).crossing m = s.crossing m := rfl
@[simp] theorem State.setClip_channel (s : State) (k : ClipId) (c : Clip) (m : CrossingId) (x : Aspect) :
    (s.setClip k c).channel m x = s.channel m x := rfl
@[simp] theorem State.setClip_station (s : State) (k : ClipId) (c : Clip) (i : StationId) : (s.setClip k c).station i = s.station i := rfl

/-! ### modTimebase -/

@[simp] theorem State.modTimebase_tb (s : State) (f : Timebase → Timebase) : (s.modTimebase f).tb = f s.tb := rfl
@[simp] theorem State.modTimebase_crossings (s : State) (f : Timebase → Timebase) : (s.modTimebase f).crossings = s.crossings := rfl
@[simp] theorem State.modTimebase_budgetLimit (s : State) (f : Timebase → Timebase) : (s.modTimebase f).budgetLimit = s.budgetLimit := rfl
@[simp] theorem State.modTimebase_stations (s : State) (f : Timebase → Timebase) : (s.modTimebase f).stations = s.stations := rfl
@[simp] theorem State.modTimebase_configured (s : State) (f : Timebase → Timebase) : (s.modTimebase f).configured = s.configured := rfl
@[simp] theorem State.modTimebase_link (s : State) (f : Timebase → Timebase) : (s.modTimebase f).link = s.link := rfl
@[simp] theorem State.modTimebase_patterns (s : State) (f : Timebase → Timebase) : (s.modTimebase f).patterns = s.patterns := rfl
@[simp] theorem State.modTimebase_libraryEnabled (s : State) (f : Timebase → Timebase) : (s.modTimebase f).libraryEnabled = s.libraryEnabled := rfl
@[simp] theorem State.modTimebase_clips (s : State) (f : Timebase → Timebase) : (s.modTimebase f).clips = s.clips := rfl
@[simp] theorem State.modTimebase_street (s : State) (f : Timebase → Timebase) : (s.modTimebase f).street = s.street := rfl
@[simp] theorem State.modTimebase_startUp (s : State) (f : Timebase → Timebase) : (s.modTimebase f).startUp = s.startUp := rfl
@[simp] theorem State.modTimebase_pending (s : State) (f : Timebase → Timebase) : (s.modTimebase f).pending = s.pending := rfl
@[simp] theorem State.modTimebase_draws (s : State) (f : Timebase → Timebase) : (s.modTimebase f).draws = s.draws := rfl
@[simp] theorem State.modTimebase_crossing (s : State) (f : Timebase → Timebase) (m : CrossingId) : (s.modTimebase f).crossing m = s.crossing m := rfl
@[simp] theorem State.modTimebase_channel (s : State) (f : Timebase → Timebase) (m : CrossingId) (x : Aspect) :
    (s.modTimebase f).channel m x = s.channel m x := rfl
@[simp] theorem State.modTimebase_station (s : State) (f : Timebase → Timebase) (i : StationId) : (s.modTimebase f).station i = s.station i := rfl
@[simp] theorem State.modTimebase_clip (s : State) (f : Timebase → Timebase) (i : ClipId) : (s.modTimebase f).clip i = s.clip i := rfl

/-! ### modLink -/

@[simp] theorem State.modLink_tb (s : State) (f : Link → Link) : (s.modLink f).tb = s.tb := rfl
@[simp] theorem State.modLink_crossings (s : State) (f : Link → Link) : (s.modLink f).crossings = s.crossings := rfl
@[simp] theorem State.modLink_budgetLimit (s : State) (f : Link → Link) : (s.modLink f).budgetLimit = s.budgetLimit := rfl
@[simp] theorem State.modLink_stations (s : State) (f : Link → Link) : (s.modLink f).stations = s.stations := rfl
@[simp] theorem State.modLink_configured (s : State) (f : Link → Link) : (s.modLink f).configured = s.configured := rfl
@[simp] theorem State.modLink_link (s : State) (f : Link → Link) : (s.modLink f).link = f s.link := rfl
@[simp] theorem State.modLink_patterns (s : State) (f : Link → Link) : (s.modLink f).patterns = s.patterns := rfl
@[simp] theorem State.modLink_libraryEnabled (s : State) (f : Link → Link) : (s.modLink f).libraryEnabled = s.libraryEnabled := rfl
@[simp] theorem State.modLink_clips (s : State) (f : Link → Link) : (s.modLink f).clips = s.clips := rfl
@[simp] theorem State.modLink_street (s : State) (f : Link → Link) : (s.modLink f).street = s.street := rfl
@[simp] theorem State.modLink_startUp (s : State) (f : Link → Link) : (s.modLink f).startUp = s.startUp := rfl
@[simp] theorem State.modLink_pending (s : State) (f : Link → Link) : (s.modLink f).pending = s.pending := rfl
@[simp] theorem State.modLink_draws (s : State) (f : Link → Link) : (s.modLink f).draws = s.draws := rfl
@[simp] theorem State.modLink_crossing (s : State) (f : Link → Link) (m : CrossingId) : (s.modLink f).crossing m = s.crossing m := rfl
@[simp] theorem State.modLink_channel (s : State) (f : Link → Link) (m : CrossingId) (x : Aspect) :
    (s.modLink f).channel m x = s.channel m x := rfl
@[simp] theorem State.modLink_station (s : State) (f : Link → Link) (i : StationId) : (s.modLink f).station i = s.station i := rfl
@[simp] theorem State.modLink_clip (s : State) (f : Link → Link) (i : ClipId) : (s.modLink f).clip i = s.clip i := rfl

/-! ### modStreet -/

@[simp] theorem State.modStreet_tb (s : State) (f : Street → Street) : (s.modStreet f).tb = s.tb := rfl
@[simp] theorem State.modStreet_crossings (s : State) (f : Street → Street) : (s.modStreet f).crossings = s.crossings := rfl
@[simp] theorem State.modStreet_budgetLimit (s : State) (f : Street → Street) : (s.modStreet f).budgetLimit = s.budgetLimit := rfl
@[simp] theorem State.modStreet_stations (s : State) (f : Street → Street) : (s.modStreet f).stations = s.stations := rfl
@[simp] theorem State.modStreet_configured (s : State) (f : Street → Street) : (s.modStreet f).configured = s.configured := rfl
@[simp] theorem State.modStreet_link (s : State) (f : Street → Street) : (s.modStreet f).link = s.link := rfl
@[simp] theorem State.modStreet_patterns (s : State) (f : Street → Street) : (s.modStreet f).patterns = s.patterns := rfl
@[simp] theorem State.modStreet_libraryEnabled (s : State) (f : Street → Street) : (s.modStreet f).libraryEnabled = s.libraryEnabled := rfl
@[simp] theorem State.modStreet_clips (s : State) (f : Street → Street) : (s.modStreet f).clips = s.clips := rfl
@[simp] theorem State.modStreet_street (s : State) (f : Street → Street) : (s.modStreet f).street = f s.street := rfl
@[simp] theorem State.modStreet_startUp (s : State) (f : Street → Street) : (s.modStreet f).startUp = s.startUp := rfl
@[simp] theorem State.modStreet_pending (s : State) (f : Street → Street) : (s.modStreet f).pending = s.pending := rfl
@[simp] theorem State.modStreet_draws (s : State) (f : Street → Street) : (s.modStreet f).draws = s.draws := rfl
@[simp] theorem State.modStreet_crossing (s : State) (f : Street → Street) (m : CrossingId) : (s.modStreet f).crossing m = s.crossing m := rfl
@[simp] theorem State.modStreet_channel (s : State) (f : Street → Street) (m : CrossingId) (x : Aspect) :
    (s.modStreet f).channel m x = s.channel m x := rfl
@[simp] theorem State.modStreet_station (s : State) (f : Street → Street) (i : StationId) : (s.modStreet f).station i = s.station i := rfl
@[simp] theorem State.modStreet_clip (s : State) (f : Street → Street) (i : ClipId) : (s.modStreet f).clip i = s.clip i := rfl

/-! ### modStartUp -/

@[simp] theorem State.modStartUp_tb (s : State) (f : StartUp → StartUp) : (s.modStartUp f).tb = s.tb := rfl
@[simp] theorem State.modStartUp_crossings (s : State) (f : StartUp → StartUp) : (s.modStartUp f).crossings = s.crossings := rfl
@[simp] theorem State.modStartUp_budgetLimit (s : State) (f : StartUp → StartUp) : (s.modStartUp f).budgetLimit = s.budgetLimit := rfl
@[simp] theorem State.modStartUp_stations (s : State) (f : StartUp → StartUp) : (s.modStartUp f).stations = s.stations := rfl
@[simp] theorem State.modStartUp_configured (s : State) (f : StartUp → StartUp) : (s.modStartUp f).configured = s.configured := rfl
@[simp] theorem State.modStartUp_link (s : State) (f : StartUp → StartUp) : (s.modStartUp f).link = s.link := rfl
@[simp] theorem State.modStartUp_patterns (s : State) (f : StartUp → StartUp) : (s.modStartUp f).patterns = s.patterns := rfl
@[simp] theorem State.modStartUp_libraryEnabled (s : State) (f : StartUp → StartUp) : (s.modStartUp f).libraryEnabled = s.libraryEnabled := rfl
@[simp] theorem State.modStartUp_clips (s : State) (f : StartUp → StartUp) : (s.modStartUp f).clips = s.clips := rfl
@[simp] theorem State.modStartUp_street (s : State) (f : StartUp → StartUp) : (s.modStartUp f).street = s.street := rfl
@[simp] theorem State.modStartUp_startUp (s : State) (f : StartUp → StartUp) : (s.modStartUp f).startUp = f s.startUp := rfl
@[simp] theorem State.modStartUp_pending (s : State) (f : StartUp → StartUp) : (s.modStartUp f).pending = s.pending := rfl
@[simp] theorem State.modStartUp_draws (s : State) (f : StartUp → StartUp) : (s.modStartUp f).draws = s.draws := rfl
@[simp] theorem State.modStartUp_crossing (s : State) (f : StartUp → StartUp) (m : CrossingId) : (s.modStartUp f).crossing m = s.crossing m := rfl
@[simp] theorem State.modStartUp_channel (s : State) (f : StartUp → StartUp) (m : CrossingId) (x : Aspect) :
    (s.modStartUp f).channel m x = s.channel m x := rfl
@[simp] theorem State.modStartUp_station (s : State) (f : StartUp → StartUp) (i : StationId) : (s.modStartUp f).station i = s.station i := rfl
@[simp] theorem State.modStartUp_clip (s : State) (f : StartUp → StartUp) (i : ClipId) : (s.modStartUp f).clip i = s.clip i := rfl

/-! ### notify -/

@[simp] theorem State.notify_tb (s : State) (x : Notice) : (s.notify x).tb = s.tb := rfl
@[simp] theorem State.notify_crossings (s : State) (x : Notice) : (s.notify x).crossings = s.crossings := rfl
@[simp] theorem State.notify_budgetLimit (s : State) (x : Notice) : (s.notify x).budgetLimit = s.budgetLimit := rfl
@[simp] theorem State.notify_stations (s : State) (x : Notice) : (s.notify x).stations = s.stations := rfl
@[simp] theorem State.notify_configured (s : State) (x : Notice) : (s.notify x).configured = s.configured := rfl
@[simp] theorem State.notify_link (s : State) (x : Notice) : (s.notify x).link = s.link := rfl
@[simp] theorem State.notify_patterns (s : State) (x : Notice) : (s.notify x).patterns = s.patterns := rfl
@[simp] theorem State.notify_libraryEnabled (s : State) (x : Notice) : (s.notify x).libraryEnabled = s.libraryEnabled := rfl
@[simp] theorem State.notify_clips (s : State) (x : Notice) : (s.notify x).clips = s.clips := rfl
@[simp] theorem State.notify_startUp (s : State) (x : Notice) : (s.notify x).startUp = s.startUp := rfl
@[simp] theorem State.notify_pending (s : State) (x : Notice) : (s.notify x).pending = s.pending := rfl
@[simp] theorem State.notify_draws (s : State) (x : Notice) : (s.notify x).draws = s.draws := rfl
@[simp] theorem State.notify_crossing (s : State) (x : Notice) (m : CrossingId) : (s.notify x).crossing m = s.crossing m := rfl
@[simp] theorem State.notify_channel (s : State) (x : Notice) (m : CrossingId) (y : Aspect) :
    (s.notify x).channel m y = s.channel m y := rfl
@[simp] theorem State.notify_station (s : State) (x : Notice) (i : StationId) : (s.notify x).station i = s.station i := rfl
@[simp] theorem State.notify_clip (s : State) (x : Notice) (i : ClipId) : (s.notify x).clip i = s.clip i := rfl

/-! ### notifyStation -/

@[simp] theorem State.notifyStation_tb (s : State) (a : StationId) : (s.notifyStation a).tb = s.tb := rfl
@[simp] theorem State.notifyStation_crossings (s : State) (a : StationId) : (s.notifyStation a).crossings = s.crossings := rfl
@[simp] theorem State.notifyStation_budgetLimit (s : State) (a : StationId) : (s.notifyStation a).budgetLimit = s.budgetLimit := rfl
@[simp] theorem State.notifyStation_stations (s : State) (a : StationId) : (s.notifyStation a).stations = s.stations := rfl
@[simp] theorem State.notifyStation_configured (s : State) (a : StationId) : (s.notifyStation a).configured = s.configured := rfl
@[simp] theorem State.notifyStation_link (s : State) (a : StationId) : (s.notifyStation a).link = s.link := rfl
@[simp] theorem State.notifyStation_patterns (s : State) (a : StationId) : (s.notifyStation a).patterns = s.patterns := rfl
@[simp] theorem State.notifyStation_libraryEnabled (s : State) (a : StationId) : (s.notifyStation a).libraryEnabled = s.libraryEnabled := rfl
@[simp] theorem State.notifyStation_clips (s : State) (a : StationId) : (s.notifyStation a).clips = s.clips := rfl
@[simp] theorem State.notifyStation_startUp (s : State) (a : StationId) : (s.notifyStation a).startUp = s.startUp := rfl
@[simp] theorem State.notifyStation_pending (s : State) (a : StationId) : (s.notifyStation a).pending = s.pending := rfl
@[simp] theorem State.notifyStation_draws (s : State) (a : StationId) : (s.notifyStation a).draws = s.draws := rfl
@[simp] theorem State.notifyStation_crossing (s : State) (a : StationId) (m : CrossingId) : (s.notifyStation a).crossing m = s.crossing m := rfl
@[simp] theorem State.notifyStation_channel (s : State) (a : StationId) (m : CrossingId) (x : Aspect) :
    (s.notifyStation a).channel m x = s.channel m x := rfl
@[simp] theorem State.notifyStation_station (s : State) (a : StationId) (i : StationId) : (s.notifyStation a).station i = s.station i := rfl
@[simp] theorem State.notifyStation_clip (s : State) (a : StationId) (i : ClipId) : (s.notifyStation a).clip i = s.clip i := rfl

/-! ### notifyFault -/

@[simp] theorem State.notifyFault_tb (s : State) (n : CrossingId) : (s.notifyFault n).tb = s.tb := rfl
@[simp] theorem State.notifyFault_crossings (s : State) (n : CrossingId) : (s.notifyFault n).crossings = s.crossings := rfl
@[simp] theorem State.notifyFault_budgetLimit (s : State) (n : CrossingId) : (s.notifyFault n).budgetLimit = s.budgetLimit := rfl
@[simp] theorem State.notifyFault_stations (s : State) (n : CrossingId) : (s.notifyFault n).stations = s.stations := rfl
@[simp] theorem State.notifyFault_configured (s : State) (n : CrossingId) : (s.notifyFault n).configured = s.configured := rfl
@[simp] theorem State.notifyFault_link (s : State) (n : CrossingId) : (s.notifyFault n).link = s.link := rfl
@[simp] theorem State.notifyFault_patterns (s : State) (n : CrossingId) : (s.notifyFault n).patterns = s.patterns := rfl
@[simp] theorem State.notifyFault_libraryEnabled (s : State) (n : CrossingId) : (s.notifyFault n).libraryEnabled = s.libraryEnabled := rfl
@[simp] theorem State.notifyFault_clips (s : State) (n : CrossingId) : (s.notifyFault n).clips = s.clips := rfl
@[simp] theorem State.notifyFault_startUp (s : State) (n : CrossingId) : (s.notifyFault n).startUp = s.startUp := rfl
@[simp] theorem State.notifyFault_pending (s : State) (n : CrossingId) : (s.notifyFault n).pending = s.pending := rfl
@[simp] theorem State.notifyFault_draws (s : State) (n : CrossingId) : (s.notifyFault n).draws = s.draws := rfl
@[simp] theorem State.notifyFault_crossing (s : State) (n : CrossingId) (m : CrossingId) : (s.notifyFault n).crossing m = s.crossing m := rfl
@[simp] theorem State.notifyFault_channel (s : State) (n : CrossingId) (m : CrossingId) (x : Aspect) :
    (s.notifyFault n).channel m x = s.channel m x := rfl
@[simp] theorem State.notifyFault_station (s : State) (n : CrossingId) (i : StationId) : (s.notifyFault n).station i = s.station i := rfl
@[simp] theorem State.notifyFault_clip (s : State) (n : CrossingId) (i : ClipId) : (s.notifyFault n).clip i = s.clip i := rfl

/-! ### Read after write -/

@[simp] theorem State.setCrossing_crossing (s : State) (n m : CrossingId) (c : Crossing) :
    (s.setCrossing n c).crossing m = if m = n then c else s.crossing m := by
  simp only [State.setCrossing, State.crossing, Fin.getElem_fin, Vector.getElem_set]
  by_cases h : m = n
  · simp [h]
  · simp [h, Ne.symm h, Fin.val_inj]

@[simp] theorem State.modCrossing_crossing (s : State) (n m : CrossingId) (f : Crossing → Crossing) :
    (s.modCrossing n f).crossing m = if m = n then f (s.crossing n) else s.crossing m :=
  State.setCrossing_crossing s n m _

@[simp] theorem State.setStation_station (s : State) (a b : StationId) (t : Station) :
    (s.setStation a t).station b = if b = a then t else s.station b := by
  simp only [State.setStation, State.station, Fin.getElem_fin, Vector.getElem_set]
  by_cases h : b = a
  · simp [h]
  · simp [h, Ne.symm h, Fin.val_inj]

@[simp] theorem State.modStation_station (s : State) (a b : StationId) (f : Station → Station) :
    (s.modStation a f).station b = if b = a then f (s.station a) else s.station b :=
  State.setStation_station s a b _

@[simp] theorem State.setClip_clip (s : State) (k l : ClipId) (c : Clip) :
    (s.setClip k c).clip l = if l = k then c else s.clip l := by
  simp only [State.setClip, State.clip, Fin.getElem_fin, Vector.getElem_set]
  by_cases h : l = k
  · simp [h]
  · simp [h, Ne.symm h, Fin.val_inj]

@[simp] theorem Crossing.setPlace_place (c : Crossing) (ap bp : Approach) (r : Option Call) :
    (c.setPlace ap r).place bp = if bp = ap then r else c.place bp := by cases ap <;> cases bp <;> rfl

@[simp] theorem Crossing.setChannel_channel (c : Crossing) (x y : Aspect) (ch : Channel) :
    (c.setChannel x ch).channel y = if y = x then ch else c.channel y := by cases x <;> cases y <;> rfl

@[simp] theorem Crossing.modChannel_channel (c : Crossing) (x y : Aspect) (f : Channel → Channel) :
    (c.modChannel x f).channel y = if y = x then f (c.channel x) else c.channel y :=
  Crossing.setChannel_channel c x y _

@[simp] theorem Crossing.mapChannels_channel (c : Crossing) (f : Channel → Channel) (y : Aspect) :
    (c.mapChannels f).channel y = f (c.channel y) := by cases y <;> rfl

/-! ### Two states are equal when all their entries are -/

theorem State.crossings_ext {s t : State} (h : ∀ n, s.crossing n = t.crossing n) : s.crossings = t.crossings := by
  ext i hi : 1
  exact h ⟨i, hi⟩

theorem State.stations_ext {s t : State} (h : ∀ a, s.station a = t.station a) : s.stations = t.stations := by
  ext i hi : 1
  exact h ⟨i, hi⟩

theorem State.clips_ext {s t : State} (h : ∀ k, s.clip k = t.clip k) : s.clips = t.clips := by
  ext i hi : 1
  exact h ⟨i, hi⟩

/-! ### A self-test start, and the completions it ends (R171, R175) -/

@[simp] theorem StartUp.restarted_operating (u : StartUp) : u.restarted.operating = .selfTest := rfl
@[simp] theorem StartUp.restarted_check (u : StartUp) : u.restarted.check = some .configRom := rfl
@[simp] theorem StartUp.restarted_done (u : StartUp) : u.restarted.done = {} := rfl
@[simp] theorem StartUp.restarted_failed (u : StartUp) : u.restarted.failed = {} := rfl
@[simp] theorem StartUp.restarted_failedChannels (u : StartUp) :
    u.restarted.failedChannels = Vector.replicate 16 false := rfl
@[simp] theorem StartUp.restarted_number (u : StartUp) : u.restarted.number = u.number + 1 := rfl
@[simp] theorem State.selfTestStart_startUp (s : State) : s.selfTestStart.startUp = s.startUp.restarted := rfl
@[simp] theorem State.selfTestStart_pending (s : State) : s.selfTestStart.pending = s.pending := rfl
@[simp] theorem State.selfTestStart_draws (s : State) : s.selfTestStart.draws = s.draws := rfl

/-- R172: a check awaits its completion exactly while it is in progress in the self-test of that number. -/
theorem StartUp.awaits_iff (u : StartUp) (f : CheckInputs) :
    u.awaits f = true ↔ u.operating = .selfTest ∧ u.number = f.selfTest ∧ u.check = some f.check := by
  simp [StartUp.awaits, and_assoc]

/-- R175: no completion of an earlier self-test is awaited after a start. -/
theorem StartUp.restarted_awaits_earlier (u : StartUp) (f : CheckInputs) (h : f.selfTest ≤ u.number) :
    u.restarted.awaits f = false := by
  have : u.number + 1 ≠ f.selfTest := by omega
  simp [StartUp.awaits, this]

/-! ### A walk truncated within a tick (R51) -/

/-- Table 4-2: the release position of a walk truncated before its crossing's work of the tick is one tick sooner. -/
theorem State.releaseAtThisTick_truncated (was s : State) (n : CrossingId) (w : Walk) (h : (was.crossing n).state = .walk)
    (c : (s.crossing n).state = .clearance) (r : (s.crossing n).walk = some w) :
    State.releaseAtThisTick was n s = s.setCrossing n { s.crossing n with walk := some { w with
      release := (s.tb.pos + w.clearance + w.buffer - 1) % s.tb.cycle } } := by
  simp [State.releaseAtThisTick, h, c, State.modCrossing, Crossing.modWalk, r]

/-- Every other crossing's work finds the crossing as it is. -/
theorem State.releaseAtThisTick_other (was s : State) (n : CrossingId)
    (h : (was.crossing n).state ≠ .walk ∨ (s.crossing n).state ≠ .clearance) : State.releaseAtThisTick was n s = s := by
  rw [State.releaseAtThisTick, if_neg (by tauto)]

end Sys2Proof.Machine
end

