-- ==== Sys2Proof/Laws/Ops.lean ====
section
/-! SUPPORT. What the shared operations of Ops and Aids can do: tables, loops, the notice queue, urgent lists, settings
sets and marks. -/

namespace Sys2Proof.Machine

/-! ### Tables and loops -/

@[simp] theorem tableMap_getElem {α β : Type} {n : Nat} (f : α → β) (v : Vector α n) (i : Nat) (h : i < n) :
    (tableMap f v)[i] = f v[i] := by
  cases v with
  | mk a ha => simp [tableMap]

theorem mem_allCrossings (n : CrossingId) : n ∈ allCrossings := by revert n; decide

theorem mem_allStations (a : StationId) : a ∈ allStations := by revert a; decide

theorem mem_allPatterns (k : PatternId) : k ∈ allPatterns := by revert k; decide

theorem mem_distinct {α : Type} [DecidableEq α] (x : α) (l : List α) : x ∈ distinct l ↔ x ∈ l := by
  induction l with
  | nil => exact Iff.rfl
  | cons y l ih =>
    by_cases h : x = y
    · simp [distinct, h]
    · simp [distinct, h, ih]

theorem nodup_distinct {α : Type} [DecidableEq α] (l : List α) : (distinct l).Nodup := by
  induction l with
  | nil => exact List.nodup_nil
  | cons y l ih => exact List.nodup_cons.2 ⟨by simp, ih.filter _⟩

theorem mem_inOrder {α : Type} [DecidableEq α] (choice works : List α) (w : α) : w ∈ inOrder choice works ↔ w ∈ works := by
  unfold inOrder
  split <;> simp [mem_distinct]

theorem nodup_inOrder {α : Type} [DecidableEq α] (choice works : List α) (h : works.Nodup) :
    (inOrder choice works).Nodup := by
  unfold inOrder
  split
  · exact h
  · exact h
  · exact nodup_distinct _

/-- Whatever the choice, the members taken are the members there are, each once. -/
theorem inOrder_perm {α : Type} [DecidableEq α] (choice works : List α) (h : works.Nodup) :
    (inOrder choice works).Perm works :=
  (List.perm_ext_iff_of_nodup (nodup_inOrder choice works h) h).2 (mem_inOrder choice works)

theorem nodup_allCrossings : allCrossings.Nodup := by decide

theorem nodup_allStations : allStations.Nodup := by decide

/-- A loop keeps what each of its changes keeps. -/
theorem forEach_keeps {ι : Type} (P : State → Prop) (f : ι → State → State) (step : ∀ i s, P s → P (f i s)) :
    ∀ (l : List ι) (s : State), P s → P (forEach l f s) := by
  intro l
  induction l with
  | nil => intro s h; exact h
  | cons i l ih => intro s h; exact ih _ (step i s h)

/-- R95: an event that reaches every crossing takes each once, in some order, and reads at most one free order. -/
theorem forCrossings_order (moves : Crossing → Bool) (f : CrossingId → State → State) (s : State) :
    ∃ (order : List CrossingId) (d : Nat), order.Perm allCrossings ∧ (d = s.draws ∨ d = s.draws + 1)
      ∧ forCrossings moves f s = forEach order f { s with draws := d } := by
  unfold forCrossings
  split
  · exact ⟨_, _, inOrder_perm _ _ nodup_allCrossings, .inr rfl, rfl⟩
  · exact ⟨_, _, .refl _, .inl rfl, rfl⟩

/-- Where it moves one crossing at the most, it takes the crossings in ascending order. -/
theorem forCrossings_ascending (moves : Crossing → Bool) (f : CrossingId → State → State) (s : State) (n : CrossingId)
    (h : ∀ m, m ≠ n → moves (s.crossing m) = false) : forCrossings moves f s = forEach allCrossings f s := by
  unfold forCrossings
  split
  · next a b l e =>
    have nodup : (a :: b :: l).Nodup := e ▸ nodup_allCrossings.filter _
    have ab : a ≠ b := by rintro rfl; simp at nodup
    have only (m : CrossingId) (k : m ∈ a :: b :: l) : m = n := by
      rw [← e, List.mem_filter] at k
      by_contra x
      rw [h m x] at k
      exact absurd k.2 (by simp)
    exact absurd ((only a (by simp)).trans (only b (by simp)).symm) ab
  · rfl

/-- A loop over distinct stations, each change touching its own station by a rule that no other change disturbs, does
to every station of the list what its own change does. -/
theorem forEach_station (f : StationId → State → State) (g : StationId → Station → Station)
    (own : ∀ a s, (f a s).station a = g a (s.station a)) (other : ∀ a b s, b ≠ a → (f a s).station b = s.station b) :
    ∀ (l : List StationId) (s : State) (b : StationId), l.Nodup →
      (forEach l f s).station b = if b ∈ l then g b (s.station b) else s.station b := by
  intro l
  induction l with
  | nil => intro s b _; simp [forEach]
  | cons a l ih =>
    intro s b hd
    have hd' := List.nodup_cons.mp hd
    have h := ih (f a s) b hd'.2
    simp only [forEach, List.foldl_cons] at h ⊢
    rw [h]
    by_cases hb : b = a
    · subst hb; simp [hd'.1, own]
    · simp [hb, other a b s hb]

/-! ### The notice queue (R167) -/

theorem State.notify_street (s : State) (n : Notice) : (s.notify n).street = s.street.queued n := rfl

theorem State.notifyStation_street (s : State) (a : StationId) :
    (s.notifyStation a).street = s.street.queued ((s.station a).notice a) := rfl

theorem State.notifyFault_street (s : State) (n : CrossingId) :
    (s.notifyFault n).street = s.street.queued (.fault n (s.crossing n).causes) := rfl

@[simp] theorem Street.queued_receiver (t : Street) (n : Notice) : (t.queued n).receiver = t.receiver := by
  unfold Street.queued; split <;> rfl

@[simp] theorem Street.queued_busy (t : Street) (n : Notice) : (t.queued n).busy = t.busy := by
  unfold Street.queued; split <;> rfl

@[simp] theorem Street.queued_reply (t : Street) (n : Notice) : (t.queued n).reply = t.reply := by
  unfold Street.queued; split <;> rfl

@[simp] theorem Street.queued_sending (t : Street) (n : Notice) : (t.queued n).sending = t.sending := by
  unfold Street.queued; split <;> rfl

/-- R167: the queue never grows past 32 places. -/
theorem Street.queued_length (t : Street) (n : Notice) (h : t.notices.length ≤ 32) : (t.queued n).notices.length ≤ 32 := by
  unfold Street.queued
  split
  · simp; omega
  · exact h

/-! ### Urgent lists (R103) -/

theorem urgentAdd_any (l : List Urgent) (u : Urgent) : (urgentAdd l u).any (fun v => v.isPlay == u.isPlay) = true := by
  unfold urgentAdd
  split
  · next h =>
    simp only [List.any_eq_true, List.mem_map] at h ⊢
    obtain ⟨v, hv, e⟩ := h
    exact ⟨u, ⟨v, hv, by simp [e]⟩, by simp⟩
  · simp

/-! ### Settings sets (R104) -/

@[simp] theorem SettingsSet.add_takeOver (t : SettingsSet) : t.add .takeOver = { t with takeOver := true } := rfl
@[simp] theorem SettingsSet.add_config (t : SettingsSet) : t.add .config = { t with config := true } := rfl
@[simp] theorem SettingsSet.add_level (t : SettingsSet) : t.add .level = { t with level := true } := rfl

/-! ### Marks on the transaction in progress (R103, R104, R108) -/

/-- R103: a mark changes nothing but the transaction's mark. -/
theorem State.markAgain_eq (s : State) (a : StationId) (carries : Item → Bool) :
    s.markAgain a carries = { s with link := (s.markAgain a carries).link } := by
  unfold State.markAgain
  split
  · split <;> rfl
  · rfl

theorem State.markAgain_link (s : State) (a : StationId) (carries : Item → Bool) :
    s.link.SameButAgain (s.markAgain a carries).link := by
  generalize h : s.markAgain a carries = n
  unfold State.markAgain at h
  split at h
  · next t e =>
    split at h
    · subst h; right; rw [e]; rfl
    · subst h; left; rfl
  · subst h; left; rfl

/-- R108: a discarded outcome changes nothing but the transaction's mark. -/
theorem State.discardOutcome_eq (s : State) (a : StationId) (carries : Item → Bool) :
    s.discardOutcome a carries = { s with link := (s.discardOutcome a carries).link } := by
  unfold State.discardOutcome
  split
  · split <;> rfl
  · rfl

theorem State.discardOutcome_link (s : State) (a : StationId) (carries : Item → Bool) :
    s.link.SameButDiscard (s.discardOutcome a carries).link := by
  generalize h : s.discardOutcome a carries = n
  unfold State.discardOutcome at h
  split at h
  · next t e =>
    split at h
    · subst h; right; rw [e]; rfl
    · subst h; left; rfl
  · subst h; left; rfl

theorem Link.SameButAgain.refl (l : Link) : l.SameButAgain l := .inl rfl

theorem Link.SameButDiscard.refl (l : Link) : l.SameButDiscard l := .inl rfl

theorem Link.SameButAgain.trans {a b c : Link} (h : a.SameButAgain b) (k : b.SameButAgain c) : a.SameButAgain c := by
  obtain rfl | h := h
  · exact k
  · obtain rfl | k := k
    · exact .inr h
    · right
      cases e : a.activity with
      | transaction t =>
        simp only [e] at h
        subst h
        simpa using k
      | idle => simp [e] at h
      | beacon r => simp [e] at h

theorem Link.SameButDiscard.trans {a b c : Link} (h : a.SameButDiscard b) (k : b.SameButDiscard c) :
    a.SameButDiscard c := by
  obtain rfl | h := h
  · exact k
  · obtain rfl | k := k
    · exact .inr h
    · right
      cases e : a.activity with
      | transaction t =>
        simp only [e] at h
        subst h
        simpa using k
      | idle => simp [e] at h
      | beacon r => simp [e] at h

end Sys2Proof.Machine
end

