-- ==== Sys2Proof/Laws/Heads.lean ====
section
/-! SUPPORT. What the budget and the switching of channels do (R83, R87, R88). -/

namespace Sys2Proof.Machine

@[simp] theorem State.mapChannels_crossing (s : State) (f : Channel → Channel) (n : CrossingId) :
    (s.mapChannels f).crossing n = (s.crossing n).mapChannels f := by
  simp [State.mapChannels, State.crossing]

@[simp] theorem State.mapChannels_channel (s : State) (f : Channel → Channel) (n : CrossingId) (x : Aspect) :
    (s.mapChannels f).channel n x = f (s.channel n x) := by
  simp [State.channel]

/-- A change of every channel that keeps the in-use flags and the nominal targets keeps their sum. -/
theorem State.mapChannels_nominalSum (s : State) (f : Channel → Channel) (use : ∀ c, (f c).inUse = c.inUse)
    (nominal : ∀ c, (f c).nominal = c.nominal) : (s.mapChannels f).nominalSum = s.nominalSum := by
  simp [State.nominalSum, State.mapChannels, tableMap, Crossing.mapChannels, use, nominal, Function.comp_def]

@[simp] theorem State.rebudget_crossing (s : State) (n : CrossingId) :
    s.rebudget.crossing n =
      (s.crossing n).mapChannels (Channel.apply (decide (Config.cabinetLimit < s.nominalSum))) :=
  State.mapChannels_crossing s _ n

@[simp] theorem State.rebudget_channel (s : State) (n : CrossingId) (x : Aspect) :
    s.rebudget.channel n x = (s.channel n x).apply (decide (Config.cabinetLimit < s.nominalSum)) :=
  State.mapChannels_channel s _ n x

@[simp] theorem State.rebudget_nominalSum (s : State) : s.rebudget.nominalSum = s.nominalSum :=
  s.mapChannels_nominalSum _ (fun _ => rfl) fun _ => rfl

/-- R87: the budget's law holds after every evaluation of it. -/
theorem State.rebudget_budgetLaw (s : State) : s.rebudget.BudgetLaw := by
  refine ⟨?_, fun n x => ?_⟩
  · rw [State.rebudget_nominalSum]
    rfl
  · rw [State.rebudget_channel]
    simp [Channel.apply, State.rebudget, capped, Config.clampTarget, Nat.min_comm]

/-- R87: an evaluation of the budget changes applied targets only. -/
theorem State.rebudget_same (s : State) (n : CrossingId) : (s.crossing n).SameButApplied (s.rebudget.crossing n) := by
  simp [Crossing.SameButApplied, Crossing.mapChannels, Channel.apply]

/-- R88: switching changes the drive only, and as R88 says. -/
theorem Channel.switched_eq (was now : Channel) :
    was.switched now = { now with actual :=
      if now.inUse = was.inUse then now.actual else if now.inUse then now.applied else 0 } := by
  obtain ⟨_, _, _, _, _, u, _, _, _, _⟩ := was
  obtain ⟨_, _, _, _, _, v, _, _, _, _⟩ := now
  cases u <;> cases v <;> rfl

end Sys2Proof.Machine
end

