-- ==== Sys2Proof/Laws/Kept.lean ====
section
/-! SUPPORT. What every operation of the Sequencer, the Call Register, the Aid Engine, the Clip Library's mirrors and the
Station Table leaves alone, said once for each: the relation `State.Kept`. -/

namespace Sys2Proof.Machine

/-- What these operations keep: every block beside the crossings, the stations and the budget flag, but for new notices
and for the marks on the transaction in progress. -/
structure State.Kept (s t : State) : Prop where
  tb : t.tb = s.tb
  configured : t.configured = s.configured
  patterns : t.patterns = s.patterns
  libraryEnabled : t.libraryEnabled = s.libraryEnabled
  clips : t.clips = s.clips
  startUp : t.startUp = s.startUp
  draws : t.draws = s.draws
  pending : t.pending = s.pending
  link : t.link = { s.link with activity := t.link.activity }
  street : t.street = { s.street with notices := t.street.notices, lost := t.street.lost }
  queue : s.street.notices.length ≤ 32 → t.street.notices.length ≤ 32

theorem State.Kept.refl (s : State) : s.Kept s := ⟨rfl, rfl, rfl, rfl, rfl, rfl, rfl, rfl, rfl, rfl, id⟩

theorem State.Kept.trans {s t u : State} (h : s.Kept t) (k : t.Kept u) : s.Kept u where
  tb := k.tb.trans h.tb
  configured := k.configured.trans h.configured
  patterns := k.patterns.trans h.patterns
  libraryEnabled := k.libraryEnabled.trans h.libraryEnabled
  clips := k.clips.trans h.clips
  startUp := k.startUp.trans h.startUp
  draws := k.draws.trans h.draws
  pending := k.pending.trans h.pending
  link := by rw [k.link, h.link]
  street := by rw [k.street, h.street]
  queue := fun e => k.queue (h.queue e)

variable {s t : State}

theorem State.Kept.withDraws (h : s.Kept t) (d : Nat) : ({ s with draws := d } : State).Kept { t with draws := d } :=
  ⟨h.tb, h.configured, h.patterns, h.libraryEnabled, h.clips, h.startUp, rfl, h.pending, h.link, h.street, h.queue⟩

theorem State.Kept.forEach {ι : Type} {l : List ι} {f : ι → State → State} (h : s.Kept t)
    (step : ∀ i u, s.Kept u → s.Kept (f i u)) : s.Kept (forEach l f t) :=
  forEach_keeps s.Kept f step l t h

theorem State.Kept.setCrossing {n : CrossingId} {c : Crossing} (h : s.Kept t) : s.Kept (t.setCrossing n c) :=
  h.trans ⟨rfl, rfl, rfl, rfl, rfl, rfl, rfl, rfl, rfl, rfl, id⟩

theorem State.Kept.modCrossing {n : CrossingId} {f : Crossing → Crossing} (h : s.Kept t) : s.Kept (t.modCrossing n f) :=
  h.setCrossing

theorem State.Kept.setStation {a : StationId} {x : Station} (h : s.Kept t) : s.Kept (t.setStation a x) :=
  h.trans ⟨rfl, rfl, rfl, rfl, rfl, rfl, rfl, rfl, rfl, rfl, id⟩

theorem State.Kept.modStation {a : StationId} {f : Station → Station} (h : s.Kept t) : s.Kept (t.modStation a f) :=
  h.setStation

theorem State.Kept.notify {x : Notice} (h : s.Kept t) : s.Kept (t.notify x) :=
  h.trans ⟨rfl, rfl, rfl, rfl, rfl, rfl, rfl, rfl, rfl,
    by rw [State.notify_street]; unfold Street.queued; split <;> rfl, Street.queued_length _ _⟩

theorem State.Kept.notifyStation {a : StationId} (h : s.Kept t) : s.Kept (t.notifyStation a) := h.notify

theorem State.Kept.notifyFault {n : CrossingId} (h : s.Kept t) : s.Kept (t.notifyFault n) := h.notify

theorem State.Kept.mapChannels {f : Channel → Channel} (h : s.Kept t) : s.Kept (t.mapChannels f) :=
  h.trans ⟨rfl, rfl, rfl, rfl, rfl, rfl, rfl, rfl, rfl, rfl, id⟩

theorem State.Kept.rebudget (h : s.Kept t) : s.Kept t.rebudget :=
  h.trans ⟨rfl, rfl, rfl, rfl, rfl, rfl, rfl, rfl, rfl, rfl, id⟩

theorem State.Kept.headsUpToDate {n : CrossingId} (h : s.Kept t) : s.Kept (t.headsUpToDate n) :=
  h.trans ⟨rfl, rfl, rfl, rfl, rfl, rfl, rfl, rfl, rfl, rfl, id⟩

theorem State.Kept.markAgain {a : StationId} {c : Item → Bool} (h : s.Kept t) : s.Kept (t.markAgain a c) := by
  refine h.trans ?_
  unfold State.markAgain
  split
  · split
    · exact ⟨rfl, rfl, rfl, rfl, rfl, rfl, rfl, rfl, rfl, rfl, id⟩
    · exact .refl _
  · exact .refl _

theorem State.Kept.discardOutcome {a : StationId} {c : Item → Bool} (h : s.Kept t) : s.Kept (t.discardOutcome a c) := by
  refine h.trans ?_
  unfold State.discardOutcome
  split
  · split
    · exact ⟨rfl, rfl, rfl, rfl, rfl, rfl, rfl, rfl, rfl, rfl, id⟩
    · exact .refl _
  · exact .refl _

/-- A checked read keeps what these operations keep. -/
abbrev PlanRead.Keeps (read : PlanRead) : Prop := ∀ n u, State.Kept u (read n u)

theorem State.Kept.read {read : PlanRead} {n : CrossingId} (h : s.Kept t) (r : read.Keeps) : s.Kept (read n t) :=
  h.trans (r n t)

theorem State.Kept.queueUrgent {a : StationId} {u : Urgent} (h : s.Kept t) :
    s.Kept (t.queueUrgent a u) := by
  unfold State.queueUrgent
  dsimp only
  repeat' (with_reducible first | exact h | refine State.Kept.modStation ?_ | refine State.Kept.markAgain ?_ | split)

theorem State.Kept.addSetting {a : StationId} {x : Setting} (h : s.Kept t) :
    s.Kept (t.addSetting a x) := by
  unfold State.addSetting
  dsimp only
  repeat' (with_reducible first | exact h | refine State.Kept.modStation ?_ | refine State.Kept.markAgain ?_ | split)

theorem State.Kept.takeTarget {a : StationId} (h : s.Kept t) :
    s.Kept (t.takeTarget a) := by
  unfold State.takeTarget
  dsimp only
  repeat' (with_reducible first | exact h | refine State.Kept.modStation ?_)

theorem State.Kept.reevaluateLevel {a : StationId} (h : s.Kept t) :
    s.Kept (t.reevaluateLevel a) := by
  unfold State.reevaluateLevel
  dsimp only
  repeat' (with_reducible first | exact h | refine State.Kept.addSetting ?_ | refine State.Kept.takeTarget ?_ | split)

theorem State.Kept.queuePlayTo {a : StationId} (h : s.Kept t) :
    s.Kept (t.queuePlayTo a) := by
  unfold State.queuePlayTo
  dsimp only
  repeat' (with_reducible first | exact h | refine State.Kept.queueUrgent ?_ | refine State.Kept.takeTarget ?_ | split)

theorem State.Kept.queuePlaysTo {l : List StationId} (h : s.Kept t) :
    s.Kept (t.queuePlaysTo l) := by
  unfold State.queuePlaysTo
  repeat' (with_reducible first | assumption | refine State.Kept.queuePlayTo ?_ | refine State.Kept.forEach ?_ (fun _ _ h => ?_))

theorem State.Kept.takeSample {a : StationId} {v : Byte} (h : s.Kept t) :
    s.Kept (t.takeSample a v) := by
  unfold State.takeSample
  repeat' (with_reducible first | exact h | refine State.Kept.modStation ?_ | refine State.Kept.reevaluateLevel ?_)

theorem State.Kept.rampAll (h : s.Kept t) :
    s.Kept (t.rampAll) := by
  unfold State.rampAll
  repeat' (with_reducible first | exact h | refine State.Kept.mapChannels ?_)

theorem State.Kept.retargetHeads (h : s.Kept t) :
    s.Kept (t.retargetHeads) := by
  unfold State.retargetHeads
  repeat' (with_reducible first | exact h | refine State.Kept.mapChannels ?_ | refine State.Kept.rebudget ?_)

theorem State.Kept.disableChannel {n : CrossingId} {x : Aspect} (h : s.Kept t) :
    s.Kept (t.disableChannel n x) := by
  unfold State.disableChannel
  repeat' (with_reducible first | exact h | refine State.Kept.modCrossing ?_ | refine State.Kept.rebudget ?_)

theorem State.Kept.reenableChannels {n : CrossingId} (h : s.Kept t) :
    s.Kept (t.reenableChannels n) := by
  unfold State.reenableChannels
  repeat' (with_reducible first | exact h | refine State.Kept.modCrossing ?_)

theorem State.Kept.windowEntry {n : CrossingId} (h : s.Kept t) :
    s.Kept (t.windowEntry n) := by
  unfold State.windowEntry
  dsimp only
  repeat' (with_reducible first | exact h | refine State.Kept.modCrossing ?_ | refine State.Kept.notify ?_ | split)

theorem State.Kept.windowExit {n : CrossingId} (h : s.Kept t) :
    s.Kept (t.windowExit n) := by
  unfold State.windowExit
  dsimp only
  repeat' (with_reducible first | exact h | refine State.Kept.modCrossing ?_ | refine State.Kept.notify ?_ | split)

theorem State.Kept.evaluateWindow {n : CrossingId} (h : s.Kept t) :
    s.Kept (t.evaluateWindow n) := by
  unfold State.evaluateWindow
  repeat' (with_reducible first | exact h | refine State.Kept.windowEntry ?_ | refine State.Kept.windowExit ?_ | split)

theorem State.Kept.readActive {n : CrossingId} (h : s.Kept t) :
    s.Kept (Machine.readActive n t) := by
  unfold Machine.readActive
  dsimp only
  repeat' (with_reducible first | exact h | refine State.Kept.modCrossing ?_ | refine State.Kept.evaluateWindow ?_ | split)

theorem State.Kept.queuePlays {read : PlanRead} {n : CrossingId} (h : s.Kept t) (r : read.Keeps) :
    s.Kept (t.queuePlays read n) := by
  unfold State.queuePlays
  dsimp only
  repeat' (with_reducible first | exact h | refine State.Kept.queuePlaysTo ?_ | refine State.Kept.read ?_ r | split)

theorem State.Kept.enter {read : PlanRead} {n : CrossingId} {st : IntervalState} (h : s.Kept t) (r : read.Keeps) :
    s.Kept (t.enter read n st) := by
  unfold State.enter
  repeat' (with_reducible first | exact h | refine State.Kept.modCrossing ?_ | refine State.Kept.headsUpToDate ?_ | refine State.Kept.queuePlays ?_ r)

theorem State.Kept.enterWaiting {read : PlanRead} {n : CrossingId} {st : IntervalState} (h : s.Kept t) (r : read.Keeps) :
    s.Kept (t.enterWaiting read n st) := by
  unfold State.enterWaiting
  repeat' (with_reducible first | exact h | refine State.Kept.modCrossing ?_ | refine State.Kept.enter ?_ r | refine State.Kept.read ?_ r | split)

theorem State.Kept.enterClearance {read : PlanRead} {n : CrossingId} (h : s.Kept t) (r : read.Keeps) :
    s.Kept (t.enterClearance read n) := by
  unfold State.enterClearance
  dsimp only
  repeat' (with_reducible first | exact h | refine State.Kept.modCrossing ?_ | refine State.Kept.headsUpToDate ?_ | refine State.Kept.queuePlays ?_ r | refine State.Kept.read ?_ r)

theorem State.Kept.cancel {read : PlanRead} {n : CrossingId} (h : s.Kept t) (r : read.Keeps) :
    s.Kept (t.cancel read n) := by
  unfold State.cancel
  dsimp only
  repeat' (with_reducible first | exact h | refine State.Kept.modCrossing ?_ | refine State.Kept.enterWaiting ?_ r)

theorem State.Kept.noteTruncation {n : CrossingId} {x : TruncationCause} (h : s.Kept t) :
    s.Kept (t.noteTruncation n x) := by
  unfold State.noteTruncation
  repeat' (with_reducible first | exact h | refine State.Kept.modCrossing ?_ | refine State.Kept.notify ?_)

theorem State.Kept.truncate {read : PlanRead} {n : CrossingId} {x : TruncationCause} (h : s.Kept t) (r : read.Keeps) :
    s.Kept (t.truncate read n x) := by
  unfold State.truncate
  repeat' (with_reducible first | exact h | refine State.Kept.enterClearance ?_ r | refine State.Kept.noteTruncation ?_)

theorem State.Kept.addCauseWith {read : PlanRead} {n : CrossingId} {x : Cause} (h : s.Kept t) (r : read.Keeps) :
    s.Kept (Machine.addCauseWith read n x t) := by
  unfold Machine.addCauseWith
  dsimp only
  repeat' (with_reducible first | exact h | refine State.Kept.modCrossing ?_ | refine State.Kept.notifyFault ?_ | refine State.Kept.enterWaiting ?_ r | refine State.Kept.enterClearance ?_ r | refine State.Kept.cancel ?_ r | refine State.Kept.noteTruncation ?_ | refine State.Kept.read ?_ r | split)

theorem State.Kept.checkActive {n : CrossingId} (h : s.Kept t) :
    s.Kept (Machine.checkActive n t) := by
  unfold Machine.checkActive
  dsimp only
  repeat' (with_reducible first | exact h | refine State.Kept.readActive ?_ | refine State.Kept.addCauseWith ?_ (fun _ _ => State.Kept.readActive (.refl _)) | split)

theorem State.Kept.checkPlanned {n : CrossingId} (h : s.Kept t) :
    s.Kept (Machine.checkPlanned n t) := by
  unfold Machine.checkPlanned
  repeat' (with_reducible first | exact h | refine State.Kept.modCrossing ?_ | refine State.Kept.readActive ?_ | refine State.Kept.addCauseWith ?_ (fun _ _ => State.Kept.readActive (.refl _)) | split)

theorem State.Kept.addCause {n : CrossingId} {x : Cause} (h : s.Kept t) :
    s.Kept (Machine.addCause n x t) := by
  unfold Machine.addCause
  repeat' (with_reducible first | exact h | refine State.Kept.addCauseWith ?_ (fun _ _ => State.Kept.checkActive (.refl _)))

theorem State.Kept.lightWalk {n : CrossingId} (h : s.Kept t) :
    s.Kept (t.lightWalk n) := by
  unfold State.lightWalk
  dsimp only
  repeat' (with_reducible first | exact h | refine State.Kept.modCrossing ?_ | refine State.Kept.notify ?_ | refine State.Kept.headsUpToDate ?_ | split)

theorem State.Kept.endWalk {n : CrossingId} (h : s.Kept t) :
    s.Kept (t.endWalk n) := by
  unfold State.endWalk
  repeat' (with_reducible first | exact h | refine State.Kept.enterClearance ?_ (fun _ _ => State.Kept.checkActive (.refl _)))

theorem State.Kept.releaseWalk {n : CrossingId} (h : s.Kept t) :
    s.Kept (t.releaseWalk n) := by
  unfold State.releaseWalk
  dsimp only
  repeat' (with_reducible first | exact h | refine State.Kept.modCrossing ?_ | refine State.Kept.notify ?_ | refine State.Kept.notifyFault ?_ | refine State.Kept.enterWaiting ?_ (fun _ _ => State.Kept.checkActive (.refl _)) | refine State.Kept.checkActive ?_ | split)

theorem State.Kept.endClearance {n : CrossingId} (h : s.Kept t) :
    s.Kept (t.endClearance n) := by
  unfold State.endClearance
  repeat' (with_reducible first | exact h | refine State.Kept.modCrossing ?_ | refine State.Kept.enter ?_ (fun _ _ => State.Kept.checkActive (.refl _)) | refine State.Kept.checkActive ?_ | refine State.Kept.releaseWalk ?_ | split)

theorem State.Kept.commit {n : CrossingId} {p : Plan} (h : s.Kept t) :
    s.Kept (t.commit n p) := by
  unfold State.commit
  dsimp only
  repeat' (with_reducible first | exact h | refine State.Kept.modCrossing ?_ | refine State.Kept.enter ?_ (fun _ _ => State.Kept.checkActive (.refl _)))

theorem State.Kept.startEvaluation {n : CrossingId} (h : s.Kept t) :
    s.Kept (t.startEvaluation n) := by
  unfold State.startEvaluation
  dsimp only
  repeat' (with_reducible first | exact h | refine State.Kept.checkActive ?_ | refine State.Kept.commit ?_ | split)

theorem State.Kept.countStage {n : CrossingId} (h : s.Kept t) :
    s.Kept (t.countStage n) := by
  unfold State.countStage
  dsimp only
  repeat' (with_reducible first | exact h | refine State.Kept.modCrossing ?_ | refine State.Kept.lightWalk ?_ | refine State.Kept.endWalk ?_ | refine State.Kept.releaseWalk ?_ | refine State.Kept.endClearance ?_ | split)

theorem State.Kept.windowStage {n : CrossingId} (h : s.Kept t) :
    s.Kept (t.windowStage n) := by
  unfold State.windowStage
  repeat' (with_reducible first | exact h | refine State.Kept.evaluateWindow ?_ | refine State.Kept.checkActive ?_)

theorem State.Kept.startStage {n : CrossingId} (h : s.Kept t) :
    s.Kept (t.startStage n) := by
  unfold State.startStage
  repeat' (with_reducible first | exact h | refine State.Kept.startEvaluation ?_ | split)

theorem State.Kept.tickCrossing {n : CrossingId} (h : s.Kept t) :
    s.Kept (t.tickCrossing n) := by
  unfold State.tickCrossing
  repeat' (with_reducible first | exact h | refine State.Kept.countStage ?_ | refine State.Kept.windowStage ?_ | refine State.Kept.startStage ?_)

theorem State.Kept.releaseAtThisTick {was : State} {n : CrossingId} (h : s.Kept t) :
    s.Kept (State.releaseAtThisTick was n t) := by
  unfold State.releaseAtThisTick
  repeat' (with_reducible first | exact h | refine State.Kept.modCrossing ?_ | split)

theorem State.Kept.permitFalls {n : CrossingId} (h : s.Kept t) :
    s.Kept (t.permitFalls n) := by
  unfold State.permitFalls
  repeat' (with_reducible first | exact h | refine State.Kept.cancel ?_ (fun _ _ => State.Kept.checkActive (.refl _)) | refine State.Kept.checkActive ?_ | refine State.Kept.addCause ?_ | split)

theorem State.Kept.hostLossAt {n : CrossingId} (h : s.Kept t) :
    s.Kept (t.hostLossAt n) := by
  unfold State.hostLossAt
  repeat' (with_reducible first | exact h | refine State.Kept.cancel ?_ (fun _ _ => State.Kept.checkActive (.refl _)) | refine State.Kept.truncate ?_ (fun _ _ => State.Kept.checkActive (.refl _)) | refine State.Kept.checkActive ?_ | split)

theorem State.Kept.settle {n : CrossingId} (h : s.Kept t) :
    s.Kept (t.settle n) := by
  unfold State.settle
  dsimp only
  repeat' (with_reducible first | exact h | refine State.Kept.enterWaiting ?_ (fun _ _ => State.Kept.checkActive (.refl _)) | refine State.Kept.checkActive ?_ | split)

theorem State.Kept.leaveDark {n : CrossingId} (h : s.Kept t) :
    s.Kept (t.leaveDark n) := by
  unfold State.leaveDark
  dsimp only
  repeat' (with_reducible first | exact h | refine State.Kept.modCrossing ?_ | refine State.Kept.notifyFault ?_ | refine State.Kept.enterWaiting ?_ (fun _ _ => State.Kept.checkActive (.refl _)) | refine State.Kept.checkActive ?_ | split)

theorem State.Kept.changeMode {n : CrossingId} {m : Mode} (h : s.Kept t) :
    s.Kept (t.changeMode n m) := by
  unfold State.changeMode
  dsimp only
  repeat' (with_reducible first | exact h | refine State.Kept.modCrossing ?_ | refine State.Kept.cancel ?_ (fun _ _ => State.Kept.checkActive (.refl _)) | refine State.Kept.truncate ?_ (fun _ _ => State.Kept.checkActive (.refl _)) | refine State.Kept.checkActive ?_ | refine State.Kept.settle ?_ | refine State.Kept.leaveDark ?_ | split)

theorem State.Kept.clearFault {n : CrossingId} (h : s.Kept t) :
    s.Kept (t.clearFault n) := by
  unfold State.clearFault
  dsimp only
  repeat' (with_reducible first | exact h | refine State.Kept.modCrossing ?_ | refine State.Kept.notifyFault ?_ | refine State.Kept.headsUpToDate ?_ | refine State.Kept.reenableChannels ?_ | refine State.Kept.checkActive ?_ | refine State.Kept.settle ?_ | split)

theorem State.Kept.failChannel {n : CrossingId} {x : Aspect} (h : s.Kept t) :
    s.Kept (t.failChannel n x) := by
  unfold State.failChannel
  repeat' (with_reducible first | exact h | refine State.Kept.disableChannel ?_ | refine State.Kept.addCause ?_)

theorem State.Kept.testChannel {load : Nat} {n : CrossingId} {x : Aspect} (h : s.Kept t) :
    s.Kept (t.testChannel load n x) := by
  unfold State.testChannel
  dsimp only
  repeat' (with_reducible first | exact h | refine State.Kept.modCrossing ?_ | refine State.Kept.failChannel ?_ | split)

theorem State.Kept.placeChanged {n : CrossingId} {ap : Approach} {p : CallSource} (h : s.Kept t) :
    s.Kept (t.placeChanged n ap p) := by
  unfold State.placeChanged
  dsimp only
  repeat' (with_reducible first | exact h | refine State.Kept.queuePlaysTo ?_ | refine State.Kept.checkActive ?_ | split)

theorem State.Kept.requestAck {n : CrossingId} {a : StationId} {b : Bool} (h : s.Kept t) :
    s.Kept (t.requestAck n a b) := by
  unfold State.requestAck
  dsimp only
  repeat' (with_reducible first | exact h | refine State.Kept.queueUrgent ?_ | refine State.Kept.checkActive ?_ | split)

theorem State.Kept.registerAs {b : Bool} {e : CallEvent} (h : s.Kept t) :
    s.Kept (t.registerAs b e) := by
  unfold State.registerAs
  dsimp only
  repeat' (with_reducible first | exact h | refine State.Kept.modCrossing ?_ | refine State.Kept.notify ?_ | refine State.Kept.placeChanged ?_ | refine State.Kept.requestAck ?_ | split)

theorem State.Kept.register {e : CallEvent} (h : s.Kept t) :
    s.Kept (t.register e) := by
  unfold State.register
  repeat' (with_reducible first | exact h | refine State.Kept.registerAs ?_)

theorem State.Kept.registerFailed {e : CallEvent} (h : s.Kept t) :
    s.Kept (t.registerFailed e) := by
  unfold State.registerFailed
  repeat' (with_reducible first | exact h | refine State.Kept.registerAs ?_)

theorem State.Kept.tryJoin {e : CallEvent} {w : Walk} {p : Option Plan} (h : s.Kept t) :
    s.Kept (t.tryJoin e w p) := by
  unfold State.tryJoin
  repeat' (with_reducible first | exact h | refine State.Kept.modCrossing ?_ | refine State.Kept.registerFailed ?_ | split)

theorem State.Kept.tryExtend {e : CallEvent} {w : Walk} {p : Option Plan} (h : s.Kept t) :
    s.Kept (t.tryExtend e w p) := by
  unfold State.tryExtend
  dsimp only
  repeat' (with_reducible first | exact h | refine State.Kept.modCrossing ?_ | refine State.Kept.notify ?_ | refine State.Kept.registerFailed ?_ | split)

theorem State.Kept.walkEvent {e : CallEvent} (h : s.Kept t) :
    s.Kept (t.walkEvent e) := by
  unfold State.walkEvent
  dsimp only
  repeat' (with_reducible first | exact h | refine State.Kept.checkActive ?_ | refine State.Kept.register ?_ | refine State.Kept.tryJoin ?_ | refine State.Kept.tryExtend ?_ | split)

theorem State.Kept.callEvent {e : CallEvent} (h : s.Kept t) :
    s.Kept (t.callEvent e) := by
  unfold State.callEvent
  repeat' (with_reducible first | exact h | refine State.Kept.register ?_ | refine State.Kept.walkEvent ?_ | split)

theorem State.Kept.decodePress {a : StationId} {r : PressReport} (h : s.Kept t) :
    s.Kept (t.decodePress a r) := by
  unfold State.decodePress
  dsimp only
  repeat' (with_reducible first | exact h | refine State.Kept.modStation ?_ | refine State.Kept.callEvent ?_ | split)

theorem State.Kept.startJob {a : StationId} {k : ClipId} {i : Fin 4} (h : s.Kept t) :
    s.Kept (t.startJob a k i) := by
  unfold State.startJob
  dsimp only
  repeat' (with_reducible first | exact h | refine State.Kept.modStation ?_)

theorem State.Kept.serveNeeds {a : StationId} (h : s.Kept t) :
    s.Kept (t.serveNeeds a) := by
  unfold State.serveNeeds
  dsimp only
  repeat' (with_reducible first | exact h | refine State.Kept.startJob ?_ | split)

theorem State.Kept.recomputeNeeds {a : StationId} (h : s.Kept t) :
    s.Kept (t.recomputeNeeds a) := by
  unfold State.recomputeNeeds
  repeat' (with_reducible first | exact h | refine State.Kept.checkActive ?_ | refine State.Kept.checkPlanned ?_ | refine State.Kept.serveNeeds ?_ | split)

theorem State.Kept.recomputeAll {l : List StationId} (h : s.Kept t) :
    s.Kept (t.recomputeAll l) := by
  unfold State.recomputeAll
  repeat' (with_reducible first | assumption | refine State.Kept.recomputeNeeds ?_ | refine State.Kept.forEach ?_ (fun _ _ h => ?_))

theorem State.Kept.abandonJob {a : StationId} (h : s.Kept t) :
    s.Kept (t.abandonJob a) := by
  unfold State.abandonJob
  repeat' (with_reducible first | exact h | refine State.Kept.modStation ?_ | refine State.Kept.discardOutcome ?_ | split)

theorem State.Kept.clipLeavesAt {k : ClipId} {a : StationId} (h : s.Kept t) :
    s.Kept (t.clipLeavesAt k a) := by
  unfold State.clipLeavesAt
  dsimp only
  repeat' (with_reducible first | exact h | refine State.Kept.modStation ?_ | refine State.Kept.abandonJob ?_ | split)

theorem State.Kept.unbar {k : ClipId} {a : StationId} (h : s.Kept t) :
    s.Kept (t.unbar k a) := by
  unfold State.unbar
  dsimp only
  repeat' (with_reducible first | exact h | refine State.Kept.modStation ?_ | refine State.Kept.notifyStation ?_ | split)

theorem State.Kept.commitAnswer {a : StationId} {b : Bool} (h : s.Kept t) :
    s.Kept (t.commitAnswer a b) := by
  unfold State.commitAnswer
  dsimp only
  repeat' (with_reducible first | exact h | refine State.Kept.modStation ?_ | refine State.Kept.notifyStation ?_ | refine State.Kept.commit ?_ | refine State.Kept.recomputeNeeds ?_ | split)

theorem State.Kept.swapAt {n : CrossingId} (h : s.Kept t) :
    s.Kept (t.swapAt n) := by
  unfold State.swapAt
  dsimp only
  repeat' (with_reducible first | exact h | refine State.Kept.modCrossing ?_ | refine State.Kept.evaluateWindow ?_ | refine State.Kept.queuePlays ?_ (fun _ _ => State.Kept.checkActive (.refl _)) | refine State.Kept.checkActive ?_ | refine State.Kept.checkPlanned ?_ | refine State.Kept.recomputeAll ?_ | split)

theorem State.Kept.swapAll (h : s.Kept t) :
    s.Kept (t.swapAll) := by
  unfold State.swapAll
  repeat' (with_reducible first | assumption | refine State.Kept.swapAt ?_ | refine State.Kept.forEach ?_ (fun _ _ h => ?_))

theorem State.Kept.clearWork {a : StationId} (h : s.Kept t) :
    s.Kept (t.clearWork a) := by
  unfold State.clearWork
  repeat' (with_reducible first | exact h | refine State.Kept.modStation ?_ | refine State.Kept.discardOutcome ?_)

theorem State.Kept.dropControl {a : StationId} (h : s.Kept t) :
    s.Kept (t.dropControl a) := by
  unfold State.dropControl
  repeat' (with_reducible first | exact h | refine State.Kept.modStation ?_ | refine State.Kept.clearWork ?_)

theorem State.Kept.toLocal {a : StationId} (h : s.Kept t) :
    s.Kept (t.toLocal a) := by
  unfold State.toLocal
  repeat' (with_reducible first | exact h | refine State.Kept.modStation ?_ | refine State.Kept.dropControl ?_)

theorem State.Kept.revert {a : StationId} (h : s.Kept t) :
    s.Kept (t.revert a) := by
  unfold State.revert
  repeat' (with_reducible first | exact h | refine State.Kept.toLocal ?_ | split)

theorem State.Kept.enterTaking {a : StationId} (h : s.Kept t) :
    s.Kept (t.enterTaking a) := by
  unfold State.enterTaking
  repeat' (with_reducible first | exact h | refine State.Kept.modStation ?_ | refine State.Kept.dropControl ?_)

theorem State.Kept.takeOverAt {tell : Bool} {a : StationId} (h : s.Kept t) :
    s.Kept (State.takeOverAt tell a t) := by
  unfold State.takeOverAt
  dsimp only
  repeat' (with_reducible first | exact h | refine State.Kept.enterTaking ?_ | refine State.Kept.notifyStation ?_ | split)

theorem State.Kept.takeOverBound {tell : Bool} (h : s.Kept t) :
    s.Kept (t.takeOverBound tell) := by
  unfold State.takeOverBound
  repeat' (with_reducible first | assumption | refine State.Kept.takeOverAt ?_ | refine State.Kept.forEach ?_ (fun _ _ h => ?_) | split)

theorem State.Kept.takeOrLeave {a : StationId} (h : s.Kept t) :
    s.Kept (t.takeOrLeave a) := by
  unfold State.takeOrLeave
  repeat' (with_reducible first | exact h | refine State.Kept.modStation ?_ | refine State.Kept.enterTaking ?_ | split)

theorem State.Kept.becomeLost {a : StationId} (h : s.Kept t) :
    s.Kept (t.becomeLost a) := by
  unfold State.becomeLost
  repeat' (with_reducible first | exact h | refine State.Kept.modStation ?_ | refine State.Kept.notifyStation ?_ | refine State.Kept.dropControl ?_)

theorem State.Kept.countFailure {a : StationId} (h : s.Kept t) :
    s.Kept (t.countFailure a) := by
  unfold State.countFailure
  repeat' (with_reducible first | exact h | refine State.Kept.modStation ?_ | refine State.Kept.becomeLost ?_ | split)

theorem State.Kept.clearFailures {a : StationId} (h : s.Kept t) :
    s.Kept (t.clearFailures a) := by
  unfold State.clearFailures
  repeat' (with_reducible first | exact h | refine State.Kept.modStation ?_)

theorem State.Kept.becomeOwned {a : StationId} (h : s.Kept t) :
    s.Kept (t.becomeOwned a) := by
  unfold State.becomeOwned
  dsimp only
  repeat' (with_reducible first | exact h | refine State.Kept.modStation ?_ | refine State.Kept.notifyStation ?_ | refine State.Kept.queuePlayTo ?_ | refine State.Kept.checkActive ?_ | refine State.Kept.recomputeNeeds ?_ | split)

theorem State.Kept.takeReport {a : StationId} {r : PollReport} (h : s.Kept t) :
    s.Kept (t.takeReport a r) := by
  unfold State.takeReport
  dsimp only
  repeat' (with_reducible first | exact h | refine State.Kept.modStation ?_ | refine State.Kept.notifyStation ?_ | split)

theorem State.Kept.sampleFrom {a : StationId} {r : PollReport} (h : s.Kept t) : s.Kept (t.sampleFrom a r) := by
  unfold State.sampleFrom
  split
  · exact h.takeSample
  · exact h

/-- A press and a sample read at most one free order (log 41). -/
theorem State.Kept.pressAndSample {a : StationId} {r : PollReport} (h : s.Kept t) :
    ∃ d, (d = s.draws ∨ d = s.draws + 1) ∧ ({ s with draws := d } : State).Kept (t.pressAndSample a r) := by
  have drawn := h.withDraws (t.draws + 1)
  unfold State.pressAndSample
  split
  · refine ⟨t.draws + 1, .inr (by rw [h.draws]), ?_⟩
    dsimp only
    split
    · exact drawn.sampleFrom.decodePress
    · exact drawn.decodePress.sampleFrom
  · exact ⟨s.draws, .inl rfl, h.decodePress.sampleFrom⟩

/-- The end of a poll reads at most one free order (log 41), and beside it keeps what the blocks' operations keep. -/
theorem State.Kept.pollOk {a : StationId} {r : PollReport} (h : s.Kept t) :
    ∃ d, (d = s.draws ∨ d = s.draws + 1) ∧ ({ s with draws := d } : State).Kept (t.pollOk a r) := by
  unfold State.pollOk
  dsimp only
  split
  · exact h.clearFailures.takeReport.pressAndSample
  · exact ⟨s.draws, .inl rfl, h.clearFailures.modStation.enterTaking.notifyStation⟩
  · exact ⟨s.draws, .inl rfl, h.clearFailures.takeReport⟩
  · exact ⟨s.draws, .inl rfl, h.clearFailures.modStation.enterTaking.notifyStation⟩
  · exact ⟨s.draws, .inl rfl, h.clearFailures⟩

theorem State.Kept.lineFaultRevert (h : s.Kept t) :
    s.Kept (t.lineFaultRevert) := by
  unfold State.lineFaultRevert
  repeat' (with_reducible first | assumption | refine State.Kept.notifyStation ?_ | refine State.Kept.toLocal ?_ | refine State.Kept.forEach ?_ (fun _ _ h => ?_) | split)

theorem State.Kept.playDelivered {a : StationId} {p : Play} {b : Bool} (h : s.Kept t) :
    s.Kept (t.playDelivered a p b) := by
  unfold State.playDelivered
  dsimp only
  repeat' (with_reducible first | exact h | refine State.Kept.modStation ?_)

theorem State.Kept.ackDelivered {a : StationId} {b : Bool} (h : s.Kept t) :
    s.Kept (t.ackDelivered a b) := by
  unfold State.ackDelivered
  repeat' (with_reducible first | exact h | refine State.Kept.modStation ?_)

theorem State.Kept.settingDelivered {a : StationId} {x : Setting} {b : Bool} (h : s.Kept t) :
    s.Kept (t.settingDelivered a x b) := by
  unfold State.settingDelivered
  dsimp only
  repeat' (with_reducible first | exact h | refine State.Kept.modStation ?_ | refine State.Kept.becomeOwned ?_ | split)

theorem State.Kept.modJob {a : StationId} {f : Job → Job} (h : s.Kept t) :
    s.Kept (t.modJob a f) := by
  unfold State.modJob
  repeat' (with_reducible first | exact h | refine State.Kept.modStation ?_)

theorem State.Kept.kerbResetAt {a : StationId} (h : s.Kept t) :
    s.Kept (t.kerbResetAt a) := by
  unfold State.kerbResetAt
  repeat' (with_reducible first | exact h | refine State.Kept.dropControl ?_ | refine State.Kept.toLocal ?_ | split)

theorem State.Kept.dayNightChanged (h : s.Kept t) :
    s.Kept (t.dayNightChanged) := by
  unfold State.dayNightChanged
  repeat' (with_reducible first | assumption | refine State.Kept.reevaluateLevel ?_ | refine State.Kept.retargetHeads ?_ | refine State.Kept.forEach ?_ (fun _ _ h => ?_) | split)

theorem State.Kept.bindFresh {a : StationId} {b : Binding} (h : s.Kept t) :
    s.Kept (t.bindFresh a b) := by
  unfold State.bindFresh
  dsimp only
  repeat' (with_reducible first | exact h | refine State.Kept.modStation ?_ | refine State.Kept.takeTarget ?_ | refine State.Kept.takeOrLeave ?_)

theorem State.Kept.bindSame {a : StationId} {b : Binding} (h : s.Kept t) :
    s.Kept (t.bindSame a b) := by
  unfold State.bindSame
  dsimp only
  repeat' (with_reducible first | exact h | refine State.Kept.modStation ?_ | refine State.Kept.addSetting ?_ | refine State.Kept.reevaluateLevel ?_ | refine State.Kept.recomputeNeeds ?_ | split)

theorem State.Kept.bindElsewhere {a : StationId} {b : Binding} (h : s.Kept t) :
    s.Kept (t.bindElsewhere a b) := by
  unfold State.bindElsewhere
  dsimp only
  repeat' (with_reducible first | exact h | refine State.Kept.modStation ?_ | refine State.Kept.takeTarget ?_ | refine State.Kept.dropControl ?_ | refine State.Kept.takeOrLeave ?_ | split)

/-! ### Events that take the crossings in a free order (R95, log 43) -/

/-- Such an event reads at most one free order, and beside it keeps what each of its parts keeps. -/
theorem State.Kept.forCrossings {moves : Crossing → Bool} {f : CrossingId → State → State} (h : s.Kept t)
    (step : ∀ (n : CrossingId) (u v : State), u.Kept v → u.Kept (f n v)) :
    ∃ d, (d = s.draws ∨ d = s.draws + 1) ∧ ({ s with draws := d } : State).Kept (forCrossings moves f t) := by
  unfold Machine.forCrossings
  split
  · exact ⟨t.draws + 1, .inr (by rw [h.draws]), (h.withDraws _).forEach fun n u => step n _ u⟩
  · exact ⟨s.draws, .inl rfl, h.forEach fun n u => step n _ u⟩

theorem State.Kept.recomputeEvery (h : s.Kept t) :
    ∃ d, (d = s.draws ∨ d = s.draws + 1) ∧ ({ s with draws := d } : State).Kept t.recomputeEvery :=
  h.forCrossings fun _ _ _ k => k.recomputeAll

theorem State.Kept.clipLeftValid {k : ClipId} (h : s.Kept t) :
    ∃ d, (d = s.draws ∨ d = s.draws + 1) ∧ ({ s with draws := d } : State).Kept (t.clipLeftValid k) :=
  (h.forEach fun _ _ k => k.clipLeavesAt).recomputeEvery

theorem State.Kept.clipBecameValid {k : ClipId} (h : s.Kept t) :
    ∃ d, (d = s.draws ∨ d = s.draws + 1) ∧ ({ s with draws := d } : State).Kept (t.clipBecameValid k) :=
  (h.forEach fun _ _ k => k.unbar).recomputeEvery

theorem State.Kept.cycleChanged {was : State} (h : s.Kept t) :
    ∃ d, (d = s.draws ∨ d = s.draws + 1) ∧ ({ s with draws := d } : State).Kept (was.cycleChanged t) :=
  h.forCrossings fun _ _ _ k => by
    dsimp only
    split
    · exact k.checkActive
    · exact k.checkActive.evaluateWindow

theorem State.Kept.readAllPlans (h : s.Kept t) :
    ∃ d, (d = s.draws ∨ d = s.draws + 1) ∧ ({ s with draws := d } : State).Kept t.readAllPlans :=
  h.forCrossings fun _ _ _ k => k.checkActive.checkPlanned

end Sys2Proof.Machine
end

