-- ==== Sys2Proof/Laws/Kerb.lean ====
section
/-! SUPPORT. What the end of a transaction and the beginning of the next do on the Kerb Link (R101, R106 to R108). -/

namespace Sys2Proof.Machine

/-- Beginning what the line carries next changes the line only. -/
theorem State.begin_eq (s : State) (activity : Activity) (bytes : List Byte) (micros : Nat) :
    s.begin activity bytes micros =
      { s with link := { s.link with activity := activity, sent := bytes, used := s.link.used + micros } } := rfl

/-- R106: the asynchronous phase changes the line only: its activity, its bytes, the time used. -/
theorem State.asynchronous_eq (s : State) : s.asynchronous = { s with
    link := { s.link with
      activity := s.asynchronous.link.activity, sent := s.asynchronous.link.sent, used := s.asynchronous.link.used } } := by
  unfold State.asynchronous
  dsimp only
  split
  · rfl
  · split
    · rfl
    · split <;> rfl

/-- R101: the periodic phase changes the line only. -/
theorem State.periodicFrom_eq (s : State) (i : Nat) : s.periodicFrom i = { s with
    link := { s.link with
      activity := (s.periodicFrom i).link.activity, sent := (s.periodicFrom i).link.sent
      used := (s.periodicFrom i).link.used } } := by
  unfold State.periodicFrom
  split
  · exact s.asynchronous_eq
  · rfl

/-- R106: going on after a transaction changes the line only, and in it the round-robin pointer with the rest. -/
theorem State.proceed_eq (s : State) (t : Transaction) : s.proceed t = { s with
    link := { s.link with
      activity := (s.proceed t).link.activity, sent := (s.proceed t).link.sent, used := (s.proceed t).link.used
      pointer := (s.proceed t).link.pointer } } := by
  unfold State.proceed
  by_cases p : t.item = .poll
  · simp only [p, if_true]
    split
    · rfl
    · rw [s.periodicFrom_eq]
  · simp only [p, if_false]
    split
    · rfl
    · rw [State.asynchronous_eq]
      rfl

/-- R106: the end of a visit moves the pointer to its station, in a closed frame too; the end of a poll leaves it. -/
theorem State.proceed_pointer (s : State) (t : Transaction) :
    (s.proceed t).link.pointer = if t.item = .poll then s.link.pointer else t.station := by
  unfold State.proceed
  by_cases p : t.item = .poll
  · simp only [p, if_true]
    split
    · rfl
    · rw [s.periodicFrom_eq]
  · simp only [p, if_false]
    split
    · rfl
    · rw [State.asynchronous_eq]
      rfl

/-- R107: a transaction that ends OK settles its item after the station's failure count is cleared. -/
theorem State.endTransaction_ok (s : State) (t : Transaction) (reply : KerbReply) (onOk : State → State)
    (d : t.discard = false) (j : judge t.station t.item reply = .ok) :
    s.endTransaction t reply onOk =
      (onOk ((s.modLink fun l => { l with activity := .idle }).clearFailures t.station)).proceed t := by
  simp [State.endTransaction, d, j]

/-- R107: a transaction that does not end OK counts a failure. -/
theorem State.endTransaction_failed (s : State) (t : Transaction) (reply : KerbReply) (onOk : State → State)
    (d : t.discard = false) (j : judge t.station t.item reply ≠ .ok) :
    s.endTransaction t reply onOk =
      ((s.modLink fun l => { l with activity := .idle }).countFailure t.station).proceed t := by
  unfold State.endTransaction
  simp only [d]
  split
  · contradiction
  · split
    · next e => exact absurd e j
    · rfl
    · rfl

/-- R108: an outcome to be discarded has no effect. -/
theorem State.endTransaction_discarded (s : State) (t : Transaction) (reply : KerbReply) (onOk : State → State)
    (d : t.discard = true) :
    s.endTransaction t reply onOk = (s.modLink fun l => { l with activity := .idle }).proceed t := by
  simp [State.endTransaction, d]

/-! ### The press and the sample of one reply (R102, R147) -/

theorem Crossing.damaged_of_sound (c : Crossing) (h : c.sound = true) : c.damaged = false := by
  unfold Crossing.sound at h
  unfold Crossing.damaged
  cases hu : c.unusable <;> cases ha : c.active <;> simp_all

/-- Where the crossing's records are sound, the press and the sample read no free order. -/
theorem State.pressAndSample_sound (s : State) (a : StationId) (r : PollReport)
    (h : ∀ b, (s.station a).binding = some b → (s.crossing b.crossing).sound = true) :
    s.pressAndSample a r = (s.decodePress a r.press).sampleFrom a r := by
  unfold State.pressAndSample
  rw [if_neg]
  cases hb : (s.station a).binding with
  | none => simp
  | some b => simp [Crossing.damaged_of_sound _ (h b hb)]

/-- The press and the sample come in one order or the other, and read at most one free order. -/
theorem State.pressAndSample_cases (s : State) (a : StationId) (r : PollReport) :
    ∃ d, (d = s.draws ∨ d = s.draws + 1) ∧
      (s.pressAndSample a r = (({ s with draws := d } : State).decodePress a r.press).sampleFrom a r
        ∨ s.pressAndSample a r = (({ s with draws := d } : State).sampleFrom a r).decodePress a r.press) := by
  unfold State.pressAndSample
  split
  · refine ⟨_, .inr rfl, ?_⟩
    dsimp only
    split
    · exact .inr rfl
    · exact .inl rfl
  · exact ⟨_, .inl rfl, .inl rfl⟩

end Sys2Proof.Machine
end

