-- ==== Sys2Proof/Laws/Plans.lean ====
section
/-! SUPPORT. What a checked read does where it finds no error (R27, R28). -/

namespace Sys2Proof.Machine

/-- R27: the active record needs no repair and no mark. -/
def Crossing.activeSound (c : Crossing) : Bool := c.active.all fun r => c.unusable || r.check == .sound

/-- R27: the pending record needs no repair. -/
def Crossing.plannedSound (c : Crossing) : Bool := c.planned.all fun r => r.check == .sound

theorem Crossing.sound_iff (c : Crossing) :
    c.sound = true ↔ c.activeSound = true ∧ c.plannedSound = true := by
  simp [Crossing.sound, Crossing.activeSound, Crossing.plannedSound]

theorem readActive_sound (n : CrossingId) (s : State) (h : (s.crossing n).activeSound = true) : readActive n s = s := by
  unfold readActive
  dsimp only
  split
  · next r ha hu =>
    simp only [Crossing.activeSound, ha, hu, Option.all_some, Bool.false_or, beq_iff_eq] at h
    rw [h]
  · rfl

theorem checkActive_sound (n : CrossingId) (s : State) (h : (s.crossing n).activeSound = true) : checkActive n s = s := by
  unfold checkActive
  simp [readActive_sound n s h]

theorem checkPlanned_sound (n : CrossingId) (s : State) (h : (s.crossing n).plannedSound = true) :
    checkPlanned n s = s := by
  unfold checkPlanned
  split
  · rfl
  · next r hp =>
    simp only [Crossing.plannedSound, hp, Option.all_some, beq_iff_eq] at h
    rw [h]

/-- R27, R28: a crossing whose records are sound is read without effect. -/
theorem check_sound (n : CrossingId) (s : State) (h : (s.crossing n).sound = true) :
    checkActive n s = s ∧ checkPlanned n s = s :=
  ⟨checkActive_sound n s ((Crossing.sound_iff _).mp h).1, checkPlanned_sound n s ((Crossing.sound_iff _).mp h).2⟩

/-- R72: a cause already present changes nothing. -/
theorem addCauseWith_present (read : PlanRead) (n : CrossingId) (x : Cause) (s : State)
    (h : (s.crossing n).causes.has x = true) : addCauseWith read n x s = s := by
  simp [addCauseWith, h]

end Sys2Proof.Machine
end

