-- ==== Sys2Proof/Laws/Street.lean ====
section
/-! SUPPORT. What taking a request does (R163, R174). -/

namespace Sys2Proof.Machine

/-- The state an owning block handles a request in: the receiver in HUNT, the request-in-progress flag set. -/
def State.handling (s : State) : State := { s with street := { s.street with receiver := .hunt, busy := true } }

/-- R163: while a request is in progress another is discarded in silence. -/
theorem State.takeRequest_busy (s : State) (kind tag : Byte) (fits : Bool) (owner : State → Answer)
    (h : s.street.busy = true) : s.takeRequest kind tag fits owner = s.received := by
  simp [State.takeRequest, State.received, h]

/-- R163: in RUNNING, with no request in progress, a request of the right length goes to its owner. -/
theorem State.takeRequest_takes (s : State) (kind tag : Byte) (owner : State → Answer) (h : s.Takes) :
    s.takeRequest kind tag true owner = (owner s.handling).replied kind tag := by
  obtain ⟨h1, h2⟩ := h
  simp [State.takeRequest, State.received, h1, State.handles, State.running, h2, State.handling, State.modStreet]

/-- R174: outside RUNNING a request other than QUERY START-UP and RESTART is answered BAD_STATE. -/
theorem State.takeRequest_badState (s : State) (kind tag : Byte) (owner : State → Answer)
    (h : s.street.busy = false) (o : s.startUp.operating ≠ .running) (q : kind ≠ kindQueryStartUp)
    (r : kind ≠ kindRestart) : s.takeRequest kind tag true owner = s.answered kind tag .badState [] := by
  have hs : ((s.startUp.operating == .running) = false) := by simp [o]
  simp [State.takeRequest, State.received, h, State.handles, State.running, hs, q, r, State.modStreet, refuse,
    Answer.replied, State.answered, Street.answered]

/-- R163: a wrong length is answered BAD_LENGTH in every operating state. -/
theorem State.takeRequest_badLength (s : State) (kind tag : Byte) (owner : State → Answer)
    (h : s.street.busy = false) : s.takeRequest kind tag false owner = s.answered kind tag .badLength [] := by
  simp [State.takeRequest, State.received, h, State.modStreet, refuse, Answer.replied, State.answered, Street.answered]

/-- The state after an answer, for a request that is not RESTART. -/
theorem Answer.replied_eq (r : Answer) (kind tag : Byte) (h : kind ≠ kindRestart) :
    r.replied kind tag = { r.state with
      street := { r.state.street with reply := some ⟨.reply, replyFrame kind tag r.status r.fields⟩ } } := by
  simp [Answer.replied, h, State.modStreet]

/-- A refusal in the handling state leaves the part as it was but for the reply. -/
theorem State.handling_refused (s : State) (kind tag : Byte) (status : Status) (h : kind ≠ kindRestart) :
    (refuse s.handling status).replied kind tag = s.answered kind tag status [] := by
  rw [Answer.replied_eq _ _ _ h]
  rfl

/-- An OK without fields and without a change leaves the part as it was but for the reply. -/
theorem State.handling_done (s : State) (kind tag : Byte) (h : kind ≠ kindRestart) :
    (done s.handling).replied kind tag = s.answered kind tag .ok [] := by
  rw [Answer.replied_eq _ _ _ h]
  rfl

end Sys2Proof.Machine
end

