-- ==== Sys2Proof/Laws/Timebase.lean ====
section
/-! SUPPORT. What a SYNC's effects can do: their order is one of the orders of the same effects, and what the handling of
the position and a change of day and night leave alone. -/

namespace Sys2Proof.Machine

/-! ### The order of the effects (log 16) -/

theorem exchanged_exchanged (w : SyncWork) : exchanged (exchanged w) = w := by cases w <;> rfl

theorem exchanged_injective : Function.Injective exchanged := fun v w h => by
  rw [← exchanged_exchanged v, h, exchanged_exchanged]

theorem idxOf_map_exchanged (w : SyncWork) (order : List SyncWork) :
    (order.map exchanged).idxOf (exchanged w) = order.idxOf w := by
  induction order with
  | nil => rfl
  | cons v l ih => simp [List.idxOf_cons, ih, exchanged_injective.eq_iff, beq_eq_decide]

/-- R5: the order after the repair is the order or the order with the two changed about, the latter only where the position
stood before the change of day and night. -/
theorem turnFirst_cases (order : List SyncWork) :
    (turnFirst order = order.map exchanged ∧ .turn ∈ order ∧ order.idxOf .position < order.idxOf .turn)
    ∨ (turnFirst order = order ∧ (.turn ∈ order → order.idxOf .turn ≤ order.idxOf .position)) := by
  unfold turnFirst
  split
  · next h => exact .inl ⟨rfl, by simpa using h⟩
  · next h => exact .inr ⟨rfl, by simpa using h⟩

theorem turnFirst_perm (order : List SyncWork) (h : order.Nodup) (p : .position ∈ order) : (turnFirst order).Perm order := by
  obtain ⟨e, t, _⟩ | ⟨e, _⟩ := turnFirst_cases order
  · rw [e]
    refine (List.perm_ext_iff_of_nodup (h.map exchanged_injective) h).2 fun w => ?_
    rw [← exchanged_exchanged w, List.mem_map_of_injective exchanged_injective]
    cases w <;> simp [exchanged, t, p]
  · rw [e]

/-- R5: the day/night flag is set before the position is handled. -/
theorem turnFirst_before (order : List SyncWork) (h : .turn ∈ order) :
    (turnFirst order).idxOf .turn < (turnFirst order).idxOf .position := by
  obtain ⟨e, _, l⟩ | ⟨e, l⟩ := turnFirst_cases order
  · rw [e]
    have a : _ = order.idxOf .position := idxOf_map_exchanged .position order
    have b : _ = order.idxOf .turn := idxOf_map_exchanged .turn order
    simp only [exchanged] at a b
    omega
  · rw [e]
    refine Nat.lt_of_le_of_ne (l h) fun x => ?_
    exact absurd ((List.idxOf_inj h).1 x) (by decide)

theorem State.nodup_syncWorks (s : State) (mask : Byte) (d : DayNight) : (s.syncWorks mask d).Nodup := by
  have falls : ((s.fallingPermits mask).map SyncWork.fall).Nodup :=
    (nodup_allCrossings.filter _).map fun _ _ e => SyncWork.fall.inj e
  unfold State.syncWorks
  split <;> simp [List.nodup_append, falls]

/-- R5: an accepted SYNC sets the mask, freshness and presence, and then takes its effects in some order, each once. -/
theorem State.acceptSync_order (s : State) (cycle pos : Nat) (mask : Byte) (d : DayNight) :
    ∃ order : List SyncWork, order.Perm (s.syncWorks mask d)
      ∧ (.turn ∈ order → order.idxOf .turn < order.idxOf .position)
      ∧ s.acceptSync cycle pos mask d = forEach order (State.doSync s.tb.presence cycle pos d)
          { s with tb := { s.tb with mask := mask, fresh := 0, presence := .present }, draws := s.draws + 1 } := by
  have works := inOrder_perm (Config.syncOrder s.draws) _ (s.nodup_syncWorks mask d)
  have nodup := nodup_inOrder (Config.syncOrder s.draws) _ (s.nodup_syncWorks mask d)
  have moved := turnFirst_perm _ nodup ((mem_inOrder _ _ _).2 (by simp [State.syncWorks]))
  exact ⟨_, moved.trans works, fun t => turnFirst_before _ (moved.mem_iff.1 t), rfl⟩

/-! ### What each effect leaves alone -/

/-- R14, R90, R146: a change of day and night sets the flag, and beside it keeps what the blocks' operations keep. -/
theorem State.turn_kept (s : State) (d : DayNight) :
    ({ s with tb := { s.tb with dayNight := d } } : State).Kept (s.turn d) :=
  (State.Kept.refl _).dayNightChanged

/-- R8, R9, R10: the Timebase after the position is handled: a small drift of a host found PRESENT becomes the pending
correction, and otherwise the position and the cycle length become those carried. -/
def Timebase.synced (t : Timebase) (found : Presence) (cycle pos : Nat) : Timebase :=
  let d := driftOf pos t.pos t.cycle
  if found = .present ∧ cycle = t.cycle ∧ d.natAbs ≤ Config.driftLimit then { t with correction := d }
  else { t with cycle := cycle, pos := pos, correction := 0 }

/-- R5 to R10: the handling of the position sets the Timebase and reads at most one free order (log 43), and beside it keeps
what the blocks' operations keep. -/
theorem State.syncPosition_kept (s : State) (found : Presence) (cycle pos : Nat) :
    ∃ d, (d = s.draws ∨ d = s.draws + 1) ∧
      ({ s with tb := s.tb.synced found cycle pos, draws := d } : State).Kept (s.syncPosition found cycle pos) := by
  let stepped : Timebase := { s.tb with cycle := cycle, pos := pos, correction := 0 }
  have told (t : State) (n : Notice) : t.Kept (t.notify n) := (State.Kept.refl t).notify
  have swaps {t u : State} (h : t.Kept u) (b : Bool) : t.Kept (u.when b State.swapAll) := by
    cases b
    · exact h
    · exact h.swapAll
  unfold State.syncPosition Timebase.synced
  cases found <;> dsimp only
  · by_cases hc : cycle = s.tb.cycle
    · subst hc
      refine ⟨s.draws, .inl rfl, ?_⟩
      by_cases hd : (driftOf pos s.tb.pos s.tb.cycle).natAbs ≤ Config.driftLimit
      · simp only [hd, ne_eq, not_true_eq_false, if_false, if_true, and_self]
        exact .refl _
      · simp only [hd, ne_eq, not_true_eq_false, if_false, and_false]
        exact swaps (told { s with tb := stepped } _) _
    · simp only [hc, ne_eq, not_false_eq_true, if_true, false_and, and_false, if_false]
      exact (told { s with tb := stepped } _).cycleChanged
  · simp only [reduceCtorEq, false_and, if_false]
    split
    · exact (State.Kept.refl { s with tb := stepped }).cycleChanged
    · split
      · exact ⟨s.draws, .inl rfl, swaps (told { s with tb := stepped } _) _⟩
      · exact ((told { s with tb := stepped } _).trans (told _ _)).cycleChanged

end Sys2Proof.Machine
end

