-- ==== Sys2Proof/WellFormed.lean ====
section
/-! DEFINITION. Which commands can reach the part at all: operands the lines can carry. Every meaning is total and none
reads these checks; they say what an operand must be for the command to stand for something that happens. -/

namespace Sys2Proof

/-- Table 12-1: a payload of 2 to 248 bytes. -/
def payloadFits (n : Nat) : Bool := 2 ≤ n && n ≤ 248

/-- R163: the request kinds of Table 10-2. -/
def isRequestKind (kind : Byte) : Bool := 1 ≤ kind.toNat && kind.toNat ≤ 0x16

/-- R100: a reply that comes has at least one byte. -/
def replyComes (reply : KerbReply) : Bool := reply != some []

/-- R148: a stored byte lies below the greatest length of a clip. -/
def Upset.wellFormed : Upset → Bool
  | .plan _ _ _ => true
  | .clipByte _ offset _ => offset < 65535

/-- R172: a pulse has a current. -/
def Pulse.wellFormed (p : Pulse) : Bool := 0 < p.driven

/-- The operands of a command are ones its line can carry. -/
def Instr.wellFormed : Instr → Bool
  | .tick i => i.upsets.all Upset.wellFormed
  | .selfTestCheckComplete found => found.pulses.toList.all Pulse.wellFormed
  | .poll r | .playTransaction r | .ackTransaction r | .setLevelTransaction r | .configTransaction r
  | .patternTransaction r | .takeOverTransaction r | .slotOpenTransaction r | .blockTransaction r
  | .slotCommitTransaction r => replyComes r
  | .setPattern _ _ _ _ _ points => payloadFits (5 + 2 * points.length)
  | .clipData _ _ _ data => payloadFits (3 + data.length)
  | .unknownKind kind _ payload => !isRequestKind kind && payloadFits payload.length
  | .powerOn | .selfTestStart | .hostLost | .leadEnd _ | .walkEnd _ | .clearanceEnd _ | .bufferEnd _
  | .lampOpenDetected _ _ | .lampShortSensed _ _ | .beaconCheck _ | .beaconRetry _ | .lineFaultReversion
  | .quietPeriodEnd | .sync _ _ _ _ _ | .setPlan _ _ _ | .setMode _ _ _ | .clearFault _ _ | .placeCall _ _ _ _
  | .cancelCall _ _ _ | .setHead _ _ _ _ _ _ _ | .bindStation _ _ _ _ _ | .unbindStation _ _ | .configure _
  | .unconfigure _ | .resetKerbLink _ | .clipOpen _ _ _ _ | .clipClose _ _ | .clipErase _ _ | .queryCrossing _ _
  | .queryStation _ _ | .queryClip _ _ | .queryStartUp _ | .restart _ | .requestWhileBusy | .badCrcFrame
  | .byteGapTimeout | .framingError | .replyBegin | .noticeBegin | .frameSent | .streetLinkByteReceived _ => true

end Sys2Proof
end

