-- ==== Sys2Proof/Tests/Slice0.lean ====
section
/-! SUPPORT. Tests of the model on the spec's worked examples, the smoke test of WellFormed, and a state that meets the
hypotheses of each statement. -/

namespace Sys2Proof.Tests

open Sys2Proof Sys2Proof.Machine

/-! ### Small states -/

/-- The state after a command. -/
def after (i : Instr) (s : State) : State :=
  match exec i s with
  | .next t => t
  | .fault f => nomatch f
  | .refused _ => s

/-- A RUNNING part on a 900 ds cycle at a position, with every permit. -/
def running (pos : Nat) : State :=
  { State.reset with
    startUp := ⟨.running, none, {}, {}, Vector.replicate 16 false, 0⟩
    tb := ⟨pos, 900, 0xFF, .day, .present, 0, 0, pos⟩ }

/-- Plan 41 (Table 2-6). -/
def plan41 : Plan := ⟨41, 900, 200, 520, 70, 50, 1400, 120, 90, 20, false, true, 1, 2, 4, 3, 7⟩

/-- Plan 41 as the fields of a SET PLAN. -/
def fields41 : PlanFields := ⟨41, 900, 200, 520, 70, 50, 1400, 120, 90, 20, 0, 1, 1, 2, 4, 3, 7⟩

/-- Crossing 3 under plan 41, inside its window, in REST, with DON'T WALK in use. -/
def resting : Crossing :=
  { active := some ⟨plan41, .sound⟩, mode := .normal, state := .rest, inWindow := true, dontLamp := { inUse := true } }

def normalCall : Call := ⟨false, none, 150, 1⟩
def accessibleCall : Call := ⟨true, none, 150, 1⟩

/-- The part at a position with one crossing in hand, the spec's crossing 3. -/
def at3 (pos : Nat) (c : Crossing) : State := (running pos).setCrossing 2 c

def quietTick : TickInputs := ⟨Vector.replicate 16 500, [], []⟩

/-- A walk record of Figure 4-2: normal, W 70, F 117, B 20, with this count. -/
def walkOf (count : Nat) (accessible : Bool) (f : Nat) : Walk :=
  ⟨accessible, count, 70, f, 20, 212, 419, none, some normalCall, none, .rest⟩

def walking (st : IntervalState) (w : Walk) : Crossing :=
  { resting with
    state := st, walk := some w, served := true
    walkLamp := { inUse := st.calls .walk }, dontLamp := { inUse := st.calls .dont } }

/-! ### Formats -/

/-- R151: the CRC-16 over the nine ASCII characters 123456789. -/
theorem test_crc_of_the_digits : crc16 [0x31, 0x32, 0x33, 0x34, 0x35, 0x36, 0x37, 0x38, 0x39] = 0x29B1 := by decide +kernel

/-- Table 12-12: the beacon of frame 5 with the CONFIGURED bit set. -/
theorem test_beacon_bytes : beaconBytes 5 true = [0, 5, 1, 0xFB] := by decide

/-! ### The Timebase (section "Worked sequences" of 01) -/

/-- Table 1-6: the SYNC at 895 for 899. -/
theorem test_sync_small_lead :
    ((after (.sync 1 900 899 0xFF 0) (running 895)).tb.pos, (after (.sync 1 900 899 0xFF 0) (running 895)).tb.correction)
      = (895, 4) := by decide

/-- Table 1-6, tick 3: 899 with +2 becomes 1 with +1, and the tick makes a wrap. -/
theorem test_tick_through_the_top :
    let t : Timebase := ⟨899, 900, 0, .day, .present, 0, 2, 899⟩
    (t.advanced.pos, t.advanced.correction, t.wraps) = (1, 1, true) := by decide

/-- Table 1-7: the SYNC at 12 for 9. -/
theorem test_sync_small_lag : (after (.sync 1 900 9 0xFF 0) (running 12)).tb.correction = -3 := by decide

/-- R25: a wrap step that drops the permit of a crossing in STARTING, in either order: the swap that comes first finds the
walk in hand and waits, the one that comes after the cancellation swaps. -/
theorem test_fall_and_swap_in_either_order :
    let s := at3 880 { walking .starting (walkOf 1 false 117) with planned := some ⟨{ plan41 with planId := 42 }, .sound⟩ }
    let t (order : List SyncWork) := (forEach order (State.doSync .present 900 20 .day) s).crossing 2
    ((t [.position, .fall 2]).state, (t [.position, .fall 2]).planned.isSome, (t [.fall 2, .position]).state,
      (t [.fall 2, .position]).planned.isSome) = (.rest, true, .rest, false) := by decide +kernel

/-- R5: whatever the order chosen, the day/night flag is set before the position is handled. -/
theorem test_flag_before_position :
    turnFirst [.position, .fall 2, .turn] = [.turn, .fall 2, .position]
    ∧ turnFirst [.turn, .position, .fall 2] = [.turn, .position, .fall 2] := by decide

/-- Steps: 880 to 20 makes a wrap, 20 to 880 does not. -/
theorem test_step_wraps :
    (driftOf 20 880 900, stepWraps 40 880 900, driftOf 880 20 900, stepWraps (-40) 20 900) = (40, true, -40, false) := by
  decide

/-- Table 1-8, tick 30: the host is lost, and one notice is queued. -/
theorem test_host_lost :
    let s := { running 129 with tb := { (running 129).tb with fresh := 29 } }
    ((after (.tick quietTick) s).tb.presence, (after (.tick quietTick) s).street.notices) =
      (.lost, [.cycle .lost]) := by decide +kernel

/-- Table 5-4, row 4, at a loss of the host: of two walks that are truncated, the one brings a 400 mA DONT for a 100 mA WALK
into a sum of 2200, the other a 100 mA DONT for a 300 mA WALK. Taken first, the former lights at 200 under the clamp. -/
theorem test_loss_of_two_walks_in_either_order :
    let waits (ma : Nat) : Crossing := { resting with dontLamp := { inUse := true, nominal := ma, applied := ma, actual := ma } }
    let walks (lit hand : Nat) : Crossing := { walking .walk (walkOf 42 false 117) with
      walkLamp := { inUse := true, nominal := lit, applied := lit, actual := lit }, dontLamp := { nominal := hand } }
    let s := { running 240 with
      crossings := #v[walks 100 400, walks 300 100, waits 400, waits 400, waits 400, waits 400, waits 200, {}] }
    let t (order : List CrossingId) := ((forEach order (fun n u => u.hostLossAt n) s).crossing 0).dontLamp
    ((t [0, 1]).actual, (t [0, 1]).applied, (t [1, 0]).actual, (t [1, 0]).applied) = (200, 400, 400, 400) := by
  decide +kernel

/-- Table 4-8: host loss at the tick that ends the lead: the loss first cancels to REST, the tick first lights WALK,
which the loss then truncates. -/
theorem test_loss_meets_lead :
    let s := at3 129 (walking .starting (walkOf 1 false 117))
    let s := { s with tb := { s.tb with fresh := 29 } }
    let t (w : TickWork) := (after (.tick { quietTick with order := [w] }) s).crossing 2
    ((t .freshness).state, (t (.crossing 2)).state) = (.rest, .clearance) := by decide +kernel

/-! ### Plans (02, Tables 2-6 and 2-7) -/

theorem test_plan41_values :
    (plan41.windowLength, plan41.normalClearance, plan41.accessibleClearance, plan41.fits) = (320, 117, 156, true) := by
  decide

/-- "An exact quotient" and "A long crossing at low speed". -/
theorem test_clearance_quotients :
    ({ plan41 with distance := 1200 }.normalClearance, { plan41 with distance := 4000, accessibleSpeed := 60 }.accessibleClearance)
      = (100, 667) := by decide

/-- Table 2-7: Va 60, Va 130, E 200, E 950, and the undefined clearance pattern. -/
theorem test_set_plan_variants :
    ((running 0).planStatus 3 fields41, (running 0).planStatus 3 { fields41 with accessibleSpeed := 60 },
      (running 0).planStatus 3 { fields41 with endAt := 200 }, (running 0).planStatus 3 { fields41 with endAt := 950 },
      (running 0).planStatus 3 { fields41 with clearancePattern := 9 })
      = (.ok, .badField, .badField, .badField, .badState) := by decide

theorem test_set_plan_refused :
    (handleSetPlan 3 { fields41 with accessibleSpeed := 60, clearancePattern := 9 } (running 0)).status = .badField := by
  decide

/-- R30, Tables 2-4 and 8-3: no plan and pattern 4 undefined is silence in CLEARANCE; a record's clearance pattern 0 is its
locator. -/
theorem test_silent_clearance :
    let s := { running 0 with patterns := (running 0).patterns.set 3 none }
    ((s.planValues 2).clearance, ((running 0).planValues 2).clearance,
      ((at3 0 { resting with active := some ⟨{ plan41 with clearancePattern := 0 }, .sound⟩ }).planValues 2).clearance)
      = (0, 4, 1) := by decide

/-! ### The sequencer (04, Table 4-4 and Figure 4-2) -/

/-- Case a: commit at 210 with W 70, lamps 212, release 419. -/
theorem test_start_case_a :
    (((at3 210 { resting with placeA := some normalCall }).startEvaluation 2).crossing 2).walk.map
        (fun w => (w.walkLength, w.lampStart, w.release)) = some (70, 212, 419) := by decide

/-- Case c: accessible at 250, W 92, release 520. -/
theorem test_start_case_c :
    (((at3 250 { resting with placeA := some accessibleCall }).startEvaluation 2).crossing 2).walk.map
        (fun w => (w.walkLength, w.clearance, w.release)) = some (92, 156, 520) := by decide

/-- Case d: accessible at 380, no start. -/
theorem test_start_case_d :
    (((at3 380 { resting with placeA := some accessibleCall }).startEvaluation 2).crossing 2).state = .rest := by decide

/-- Figure 4-2: the lead's end at 212 lights WALK and queues WALK (212, 70, 117, 20, 419). -/
theorem test_lead_end :
    let t := after (.leadEnd 2) (at3 212 (walking .starting (walkOf 1 false 117)))
    ((t.crossing 2).state, t.street.notices) = (.walk, [.walk 2 212 70 117 20 419]) := by decide

/-- Figure 4-2: the extension at 240 leaves 92 ticks of walk and queues EXTEND (332, 508). -/
theorem test_extension :
    let t := after (.placeCall 1 3 0 1) (at3 240 (walking .walk (walkOf 42 false 117)))
    ((t.crossing 2).walk.map (fun w => (w.count, w.clearance, w.release)), t.street.notices) =
      (some (92, 156, 508), [.extend 2 332 508]) := by decide

/-- "A join during the lead": W 120, F 156, release 508. -/
theorem test_join :
    let t := after (.placeCall 1 3 0 1) (at3 211 (walking .starting (walkOf 1 false 117)))
    (t.crossing 2).walk.map (fun w => (w.walkLength, w.clearance, w.release)) = some (120, 156, 508) := by decide

/-- Figure 4-2: the walk's end at 332 enters CLEARANCE with countdown 16. -/
theorem test_walk_end :
    let c := (after (.walkEnd 2) (at3 332 (walking .walk (walkOf 1 true 156)))).crossing 2
    (c.state, c.countdown, c.dontLamp.inUse, c.walkLamp.inUse) = (.clearance, some 16, true, false) := by decide

/-- Figure 4-3: a walk truncated at 250 with F 117 and B 20 ends its buffer at 387, the release position reported. -/
theorem test_release_of_a_truncated_walk :
    let c := (after (.setMode 1 3 3) (at3 250 (walking .walk (walkOf 52 false 117)))).crossing 2
    (c.state, c.walk.map fun w => (w.count, w.truncation, w.release)) = (.clearance, some (117, some .modeHold, 387)) := by
  decide

/-- Tables 4-2 and 4-8: at the tick of 251 with 30 ticks of silence the loss, taken first, truncates the walk, and the same
tick counts: 116 of clearance and 20 of buffer are left, to 387. Taken after it, 117 and 20 are left, to 388. -/
theorem test_release_of_a_walk_truncated_within_a_tick :
    let s := { at3 250 (walking .walk (walkOf 52 false 117)) with
      tb := { (running 250).tb with fresh := 29 } }
    let w (order : List TickWork) := ((after (.tick { quietTick with order := order }) s).crossing 2).walk.map fun w =>
      (w.count, w.release)
    (w [.freshness], w [.crossing 2, .freshness]) = (some (116, 387), some (117, 388)) := by decide +kernel

/-- Figure 4-2: the release at 508 queues RELEASE and returns to REST with served set. -/
theorem test_buffer_end :
    let t := after (.bufferEnd 2) (at3 508 (walking .buffer (walkOf 1 true 156)))
    ((t.crossing 2).state, (t.crossing 2).served, t.street.notices) = (.rest, true, [.release 2]) := by decide

/-! ### Heads (05, sections 5.9 and 5.10) -/

/-- Coarse 3, fine 255 by day: 300 mA; fine 120 by night: 141 mA. -/
theorem test_nominal_targets :
    let c : Channel := { coarse := 3, dayFine := 255, nightFine := 120 }
    (c.nominalFor .day, c.nominalFor .night) = (300, 141) := by decide

/-- Table 5-6, 284: the third open sample disables the hand; crossing 3 goes to FAULT with its countdown blank. -/
theorem test_third_open_sample :
    let w : Walk := { walkOf 115 false 117 with walkLength := 70 }
    let c := { walking .clearance w with
      countdown := some 12, countdownOn := true, dontLamp := { inUse := true, actual := 270, openCount := 2 } }
    let t := (at3 284 c).testChannel 0 2 .dont
    ((t.crossing 2).state, (t.crossing 2).countdown, (t.crossing 2).walk.isSome, t.street.notices) =
      (.fault, none, false, [.fault 2 { dontLamp := true }]) := by decide

/-- Table 5-4: the WALK channel's third open sample lights the DONT channel of the same tick, which is sampled where its test
comes after, and not where it comes before. -/
theorem test_open_tests_in_either_order :
    let c := { walking .walk (walkOf 42 false 117) with
      walkLamp := { inUse := true, actual := 300, openCount := 2 }, dontLamp := { nominal := 300 } }
    let s := at3 240 c
    let t (order : List TickWork) :=
      ((forEach order (State.doWork s (Vector.replicate 16 0) false) s).crossing 2).dontLamp.openCount
    (t [.test 2 .walk, .test 2 .dont], t [.test 2 .dont, .test 2 .walk]) = (1, 0) := by decide +kernel

/-! ### Stations (03, Table 3-4; 08, Table 8-5) -/

def settings7 : Settings := ⟨50, 450, 800, 600, 15, 10, 22, true⟩

/-- Station 7 of the examples: OWNED at crossing 3, approach A. -/
def station7 : Station :=
  { binding := some ⟨2, .a, settings7⟩, owner := .owned, ambient := 620, level := 660, press := ⟨some 12, false⟩ }

/-- Table 3-4, frame 41: sequence 13 after 12 is a normal press. -/
theorem test_normal_press :
    let s := (at3 121 { resting with inWindow := false }).setStation 6 station7
    let t := s.decodePress 6 ⟨13, 1, true⟩
    ((t.crossing 2).placeA, (t.station 6).press, (t.station 6).urgent) =
      (some ⟨false, some 6, 121, 1⟩, ⟨some 13, false⟩, [.ack ⟨3, 0⟩]) := by decide

/-- Table 3-2: the first-registered position is that of the most recent tick, which a step of a SYNC does not move. -/
theorem test_first_registered_position :
    let s := at3 240 { resting with mode := .hold, state := .hold }
    let s := { s with tb := { s.tb with pos := 600 } }
    ((after (.placeCall 1 3 0 0) s).crossing 2).placeA = some ⟨false, none, 240, 1⟩ := by decide

/-- Table 8-5, reply 1: A_f 640, level 690, LEVEL added. -/
theorem test_first_sample :
    let t := ((at3 121 resting).setStation 6 station7).takeSample 6 80
    ((t.station 6).ambient, (t.station 6).level, (t.station 6).settings.level) = (640, 690, true) := by decide

/-- Table 8-4, row 1: a press whose read finds the plan damaged queues a PLAY at 660 from the old A_f, or at 683 where the
sample of the same reply is taken first. -/
theorem test_sample_and_play_in_either_order :
    let s := (at3 121 { resting with active := some ⟨plan41, .uncorrectable⟩ }).setStation 6 { station7 with ambient := 610 }
    let r : PollReport := ⟨.owned, ⟨13, 1, true⟩, false, false, false, false, 80⟩
    let levels (t : State) := (t.station 6).urgent.filterMap fun u => match u with
      | .play p => some p.level
      | .ack _ => none
    (levels ((s.decodePress 6 r.press).sampleFrom 6 r), levels ((s.sampleFrom 6 r).decodePress 6 r.press)) = ([660], [683]) := by
  decide +kernel

/-! ### Kerb Link and Street Link formats (Table 6-2, Table 12-1) -/

/-- Table 6-2: the beacon, a poll, an ACK and a full clip block. -/
theorem test_durations :
    (durationOf 4 0, durationOf 6 12, durationOf 8 6, durationOf 134 6) = (460, 1020, 860, 5900) := by decide

/-- 06, R106: the visits after a pointer at station 6 begin at station 7. -/
theorem test_visit_order : (visitOrder 5).head? = some 6 ∧ (visitOrder 23).head? = some 0 := by decide

/-- R106: a transaction that a kerb reset discarded moves the pointer at its end, and nothing more is begun. -/
theorem test_pointer_of_a_discarded_transaction :
    let s := { running 0 with link := { closed := true, activity := .transaction ⟨6, .ack, true, false⟩ } }
    ((after (.ackTransaction none) s).link.pointer, (after (.ackTransaction none) s).link.activity) = (6, .idle) := by
  decide

/-- R130: a line recovery that clears a kept clip fault flag queues a STATION notice; a request of the host does not. -/
theorem test_take_over_clears_the_clip_fault :
    let t : Station := { binding := some ⟨2, .a, ⟨50, 450, 800, 600, 15, 10, 22, true⟩⟩, owner := .local, clipFault := true }
    let s := { (running 0).setStation 6 t with
      configured := true, link := { line := .fault, activity := .beacon true, sent := [0, 5, 1, 0xFB] } }
    let ready := { (running 0).setStation 6 t with link := {} }
    ((after (.beaconRetry ⟨some 0, some 5, some 1, some 0xFB⟩) s).street.notices, (after (.configure 1) ready).street.notices,
      ((after (.configure 1) ready).station 6).clipFault) = ([.station 6 .taking false false false false], [], false) := by
  decide +kernel

/-- 09, Table 9-3: 12,000 bytes are 94 blocks. -/
theorem test_clip_open_blocks :
    ((after (.clipOpen 1 7 12000 0x4E17) (running 0)).clip 6).blocks = 94 := by decide

/-- 09, Table 9-3: an offset that is not the received count is answered BAD_STATE. -/
theorem test_clip_data_misplaced :
    (handleClipData 7 480 [1] (after (.clipOpen 1 7 12000 0x4E17) (running 0))).status = .badState := by decide

/-- R162: the eight bytes of a QUERY START-UP frame leave its OK reply waiting. -/
theorem test_bytes_of_a_frame :
    (([0xA5, 0x04, 0x15, 0x07, 0, 0] ++ half (crc16 [0x04, 0x15, 0x07, 0, 0]).toNat).foldl
        (fun s b => after (.streetLinkByteReceived b) s) State.reset).street.reply
      = some ⟨.reply, replyFrame 0x15 7 .ok [0, 1, 0, 0, 0, 0]⟩ := by decide +kernel

/-! ### WellFormed refuses each kind of term that no line carries -/

theorem test_refused_upset :
    (Instr.tick { quietTick with upsets := [.clipByte 0 65535 0] }).wellFormed = false
    ∧ (Instr.tick { quietTick with upsets := [.clipByte 0 65534 0] }).wellFormed = true := by decide

theorem test_refused_pulse :
    (Instr.selfTestCheckComplete
      ⟨0, .headDrivers, true, Vector.replicate 16 ⟨0, 0, false⟩, ⟨none, none, none, none⟩⟩).wellFormed = false
    ∧ (Instr.selfTestCheckComplete
      ⟨0, .headDrivers, true, Vector.replicate 16 ⟨1, 0, false⟩, ⟨none, none, none, none⟩⟩).wellFormed = true := by
  decide

theorem test_refused_reply : (Instr.poll (some [])).wellFormed = false ∧ (Instr.poll none).wellFormed = true := by decide

theorem test_refused_points :
    (Instr.setPattern 0 1 5 0 0 (List.replicate 122 ⟨0, 0⟩)).wellFormed = false
    ∧ (Instr.setPattern 0 1 5 0 0 (List.replicate 121 ⟨0, 0⟩)).wellFormed = true := by decide +kernel

theorem test_refused_clip_data :
    (Instr.clipData 0 1 0 (List.replicate 246 0)).wellFormed = false
    ∧ (Instr.clipData 0 1 0 (List.replicate 245 0)).wellFormed = true := by decide +kernel

theorem test_refused_kind :
    (Instr.unknownKind 0x16 0 [0, 0]).wellFormed = false ∧ (Instr.unknownKind 0x17 0 [0, 0]).wellFormed = true
    ∧ (Instr.unknownKind 0x17 0 [0]).wellFormed = false := by decide

/-! ### States that meet the hypotheses of the statements

Each theorem names the statement it is for; its parts are the hypotheses of that statement's clauses, at boundary values
where a clause has a range. -/

/-- A part in its self-test with this check in progress. -/
def testing (c : Check) : State := { State.reset with startUp := { State.reset.startUp with check := some c } }

def goodEcho : Heard := ⟨some 0, some 0, some 0, some 0xFF⟩
def allPass (c : Check) : CheckInputs := ⟨0, c, true, Vector.replicate 16 ⟨100, 50, false⟩, goodEcho⟩
def allFail (c : Check) : CheckInputs := ⟨0, c, false, Vector.replicate 16 ⟨100, 49, false⟩, ⟨none, none, none, none⟩⟩

/-- A state with this link. -/
def linked (s : State) (l : Link) : State := { s with link := l }

/-- The part with a transaction of station 7 in progress. -/
def carrying (s : State) (item : Item) : State := linked s { activity := .transaction ⟨6, item, false, false⟩ }

/-- A poll reply of station 7 (Table 12-14). -/
def pollReply (mode seq hold flags ambient : Byte) : KerbReply :=
  some (withCrc [7, 1, mode, seq, hold, flags, ambient, 0, 0, 0])

/-- A short reply of station 7 to an item (Table 12-17). -/
def shortReply (item : Item) (result : Byte) : KerbReply := some (withCrc [7, item.code, result, 0])

/-- Station 7 at crossing 3 in this interval state. -/
def pollable (st : IntervalState) (p : PressState) : State :=
  carrying ((at3 121 { resting with state := st }).setStation 6 { station7 with press := p }) .poll

theorem witness_StepRunsTheFrontCommand : State.reset.pending = [] := rfl

theorem witness_RestartKeepsOnlyValidClips :
    { State.reset with street := { sending := some ⟨.restartReply, [0xA5]⟩ } }.street.sending =
      some ⟨.restartReply, [0xA5]⟩ ∧ 0 ≤ State.reset.startUp.number := ⟨rfl, Nat.le_refl 0⟩

/-- Table 11-4, STREET_LINE and the end of a RESTART's reply: the completion first makes the part RUNNING, and the start that
follows begins a new self-test; behind the reply's end the old completion does not occur, nor does one of CONFIG_ROM. -/
theorem test_completion_meets_restart :
    let s := { testing .streetLine with street := { sending := some ⟨.restartReply, []⟩ } }
    let ends (c : Check) : Instr := .selfTestCheckComplete (allFail c)
    let u (l : List Instr) := let t := l.foldl (fun s i => after i s) s; (t.startUp.operating, t.startUp.check, t.street.notices)
    (u [ends .streetLine]).1 = .running
    ∧ u [ends .streetLine, .frameSent] = (.selfTest, some .configRom, [])
    ∧ u [.frameSent, ends .streetLine] = (.selfTest, some .configRom, [])
    ∧ u [.frameSent, ends .configRom] = (.selfTest, some .configRom, []) := by decide +kernel

theorem witness_SelfTestCheckCompletes (c : Check) :
    (testing c).startUp.operating = .selfTest ∧ (testing c).startUp.check = some c
    ∧ (allPass c).check = c ∧ (allPass c).selfTest = (testing c).startUp.number
    ∧ checkPasses (allPass c) c ∧ ¬ checkPasses (allFail c) c
    ∧ { allPass c with selfTest := 1 }.selfTest ≠ (testing c).startUp.number := by
  cases c
  case headDrivers =>
    exact ⟨rfl, rfl, rfl, rfl, fun n x => by revert n; cases x <;> decide, fun h => absurd (h 0 .walk) (by decide), by decide⟩
  all_goals (unfold checkPasses; decide)

theorem witness_HeadDriversDisablesFailedChannels :
    (testing .headDrivers).startUp.check = some .headDrivers ∧ pulseBad (allFail .headDrivers) 0 .walk = true
    ∧ (allFail .headDrivers).check = .headDrivers
    ∧ (allFail .headDrivers).selfTest = (testing .headDrivers).startUp.number
    ∧ pulseBad (allPass .headDrivers) 7 .dont = false := by decide

theorem witness_TickAdvancesTheTimebase :
    State.reset.tb.cycle = 0 ∧ State.reset.tb.presence = .lost ∧ (running 899).tb.cycle ≠ 0
    ∧ ∃ s : State, s.tb.presence = .present ∧ s.tb.fresh + 1 = 29
    ∧ ∃ s : State, s.tb.presence = .present ∧ 30 = s.tb.fresh + 1 :=
  ⟨rfl, rfl, by decide, { running 0 with tb := { (running 0).tb with fresh := 28 } }, rfl, rfl,
    { running 0 with tb := { (running 0).tb with fresh := 29 } }, rfl, rfl⟩

/-- Its second and third clauses: an order of the operand that names two pieces, a wrap and none, and the freshness
counter on either side of its limit. -/
theorem witness_TickAdvancesTheTimebase_work :
    ([.swap, .freshness] : List TickWork).idxOf .swap < ([.swap, .freshness] : List TickWork).idxOf .freshness
    ∧ (running 899).startUp.operating = .running ∧ (running 899).tb.cycle ≤ (running 899).tb.pos + 1
    ∧ { (running 0).tb with fresh := 28 }.fresh + 1 < 30 ∧ 30 ≤ { (running 0).tb with fresh := 29 }.fresh + 1
    ∧ ({ quietTick with order := [] } : TickInputs).upsets = [] := by decide

/-- Its clauses of a crossing's work: a walk that the tick found and that is in CLEARANCE before the work, and one that is
not. -/
theorem witness_TickAdvancesTheTimebase_truncated :
    ((at3 251 (walking .walk (walkOf 52 false 117))).crossing 2).state = .walk
    ∧ ((at3 251 (walking .clearance (walkOf 117 false 117))).crossing 2).state = .clearance
    ∧ ((at3 251 (walking .clearance (walkOf 117 false 117))).crossing 2).walk = some (walkOf 117 false 117)
    ∧ ((at3 251 resting).crossing 2).state ≠ .walk := by decide

theorem witness_TickOpensTheKerbFrame :
    (running 0).startUp.operating = .running ∧ (running 0).link.line = .up
    ∧ (linked (running 0) { line := .fault, faultAge := 19, retry := 9 }).startUp.operating = .running
    ∧ (linked (running 0) { line := .fault, faultAge := 19, retry := 9 }).link.faultAge = 19 := ⟨rfl, rfl, rfl, rfl⟩

/-- The host about to be lost, crossing 3 in STARTING, in WALK or in REST. -/
def losing (st : IntervalState) : State :=
  let s := at3 240 (if st.walks then walking st (walkOf 42 false 117) else resting)
  { s with tb := { s.tb with fresh := 29 } }

theorem witness_HostLossWithdrawsEveryPermit (st : IntervalState) (h : st ∈ [.starting, .walk, .rest]) :
    (losing st).tb.presence = .present ∧ 30 ≤ (losing st).tb.fresh + 1 ∧ (losing st).PlansSound
    ∧ ((losing st).crossing 2).state = st
    ∧ ∀ n, ((losing st).crossing n).state = .starting ∨ ((losing st).crossing n).state = .walk →
        ((losing st).crossing n).walk.any fun w => w.target == .rest := by
  unfold State.PlansSound
  revert st
  decide

/-- The drift at half of an even cycle, and past half of an odd one. -/
theorem witness_DriftIsTheShortestDifference :
    (450 < 900 ∧ 0 < 900 ∧ driftOf 450 0 900 = 450) ∧ (451 < 901 ∧ driftOf 451 0 901 = -450) := by decide

theorem witness_SyncAcceptedSetsTheTimebase :
    (running 0).Takes ∧ (300 : Half).toNat = 300 ∧ (2400 : Half).toNat = 2400 ∧ (299 : Half).toNat < (300 : Half).toNat
    ∧ ((0 : Byte) = 0 ∧ DayNight.day = .day) := ⟨⟨rfl, rfl⟩, by decide⟩

/-- Its clause of a gradual SYNC without a fall: the drift at its limit, by day and by night, with a bound station and
unbound ones; and a part whose notices-lost flag is set. -/
theorem witness_SyncAcceptedSetsTheTimebase_gradual :
    let s := (at3 240 resting).setStation 6 station7
    s.Takes ∧ s.tb.presence = .present ∧ (900 : Half).toNat = s.tb.cycle
    ∧ (driftOf (260 : Half).toNat s.tb.pos s.tb.cycle).natAbs = 20 ∧ (260 : Half).toNat < (900 : Half).toNat
    ∧ (allCrossings.filter fun n => s.tb.presence == .present && s.tb.mask.getLsbD n.val && !(0xFF : Byte).getLsbD n.val) = []
    ∧ DayNight.day = s.tb.dayNight ∧ DayNight.night ≠ s.tb.dayNight ∧ (s.station 6).binding = some ⟨2, .a, settings7⟩
    ∧ (s.station 5).binding = none ∧ ({ s.street with lost := true } : Street).lost = true := by
  unfold State.Takes
  decide

theorem witness_SyncOutOfRangeIsRefused :
    (running 0).Takes ∧ (299 : Half).toNat < 300 ∧ 2400 < (2401 : Half).toNat
    ∧ (900 : Half).toNat ≤ (900 : Half).toNat ∧ ((2 : Byte) ≠ 0 ∧ (2 : Byte) ≠ 1)
    ∧ ¬ ((300 : Half).toNat < 300 ∨ 2400 < (300 : Half).toNat ∨ (300 : Half).toNat ≤ (299 : Half).toNat)
    ∧ State.reset.street.busy = false ∧ State.reset.startUp.operating ≠ .running
    ∧ ([0, 0, 0, 0, 0] : List Byte).length ≠ 6 := ⟨⟨rfl, rfl⟩, by decide⟩

theorem witness_SyncQueuesItsCycleNotices :
    (running 0).Takes ∧ (running 0).PlansSound ∧ (∀ n, ((running 0).crossing n).state = .dark)
    ∧ (899 : Half).toNat < (900 : Half).toNat :=
  ⟨⟨rfl, rfl⟩, by unfold State.PlansSound; decide, by decide, by decide⟩

theorem witness_WithdrawnPermitActsByInterval (st : IntervalState)
    (h : st ∈ [.rest, .starting, .walk, .clearance, .buffer]) :
    let s := at3 240 (if st.walks then walking st (walkOf 42 false 117) else resting)
    s.Takes ∧ (s.crossing 2).sound = true ∧ (s.crossing 2).state = st ∧ s.tb.presence = .present
    ∧ (900 : Half).toNat = s.tb.cycle ∧ (240 : Half).toNat = s.tb.pos ∧ s.tb.mask.getLsbD 2 = true
    ∧ (0xFB : Byte).getLsbD 2 = false ∧ (∀ m : CrossingId, m ≠ 2 → (0xFB : Byte).getLsbD m.val = true)
    ∧ ((s.crossing 2).walk.all fun w => w.target == .rest) ∧ (s.crossing 2).mode ≠ .off ∧ (s.crossing 2).causes = {} := by
  unfold State.Takes
  revert st
  decide

theorem witness_PlanValuesFollowTheRecord :
    plan41.inRange = true ∧ plan41.openAt ≠ plan41.endAt ∧ plan41.accessibleSpeed ≤ plan41.normalSpeed
    ∧ plan41.inWindow 200 = true ∧ plan41.inWindow 519 = true ∧ plan41.inWindow 520 = false
    ∧ (running 0).outOfPlan 0 = true := by decide

/-- Its last clause: a usable record in plan and out of plan, no record, and one that carries the mark. -/
theorem witness_PlanValuesFollowTheRecord_values :
    ((at3 0 resting).crossing 2).active = some ⟨plan41, .sound⟩ ∧ ((at3 0 resting).crossing 2).unusable = false
    ∧ (at3 0 resting).outOfPlan 2 = false ∧ ((running 0).crossing 2).active = none
    ∧ ((at3 0 { resting with unusable := true }).crossing 2).unusable = true := by decide

theorem witness_SetPlanAnswersTheFirstFailedCheck :
    (running 0).Takes ∧ (running 0).planStatus 3 fields41 = .ok ∧ (running 0).planStatus 9 fields41 ≠ .ok
    ∧ (running 0).planStatus 0 fields41 ≠ .ok := ⟨⟨rfl, rfl⟩, by decide, by decide, by decide⟩

theorem witness_SetPlanFillsThePendingSlot :
    (at3 0 resting).Takes ∧ (3 : Byte).toNat = (2 : CrossingId).val + 1
    ∧ (at3 0 resting).planStatus 3 fields41 = .ok ∧ ((at3 0 resting).crossing 2).sound = true
    ∧ ¬ (((at3 0 resting).station 6).owner = .owned ∧ ((at3 0 resting).station 6).atCrossing 2 = true) :=
  ⟨⟨rfl, rfl⟩, by decide, by decide, by decide, by decide⟩

/-- A mirror with three slots RESIDENT with clip 5, slot 3 committed first, and this slot 2. -/
def mirror5 (x : MirrorSlot) : Mirror :=
  { slots := #v[⟨5, .resident⟩, ⟨5, .resident⟩, x, ⟨5, .resident⟩], order := [3, 0, 1, 2] }

/-- Its clauses of the needs: an OWNED station of crossing 3 without a job that needs clip 7, with an EMPTY slot, a STALE
one, and RESIDENT ones that it does not need. -/
theorem witness_SetPlanFillsThePendingSlot_needs :
    ∀ x ∈ [(⟨0, .empty⟩ : MirrorSlot), ⟨9, .stale⟩, ⟨5, .resident⟩],
      let s := ((at3 0 resting).setClip 6 { state := .valid, length := 200, blocks := 2 }).setStation 6
        { station7 with mirror := mirror5 x }
      s.Takes ∧ (s.station 6).owner = .owned ∧ (s.station 6).atCrossing 2 = true
      ∧ (s.station 6).binding = some ⟨2, .a, settings7⟩ ∧ (s.station 6).job = none ∧ s.needs 6 = [] ++ 6 :: []
      ∧ (mirror5 x).holds 7 = false ∧ s.planStatus 3 fields41 = .ok ∧ (s.crossing 2).sound = true := by
  unfold State.Takes
  decide

/-- R156: the slot chosen in each of its three cases, none where every slot is needed, and a clip that is held already. -/
theorem witness_SetPlanFillsThePendingSlot_slots :
    (mirror5 ⟨0, .empty⟩).Chosen [6] 2 ∧ (mirror5 ⟨9, .stale⟩).Chosen [6] 2 ∧ (mirror5 ⟨5, .resident⟩).Chosen [6] 3
    ∧ (∀ i, ¬ (mirror5 ⟨4, .filling⟩).Chosen [4] i) ∧ (mirror5 ⟨7, .resident⟩).holds 7 = true := by
  refine ⟨?_, ?_, ?_, fun i h => ?_, by decide⟩
  · unfold Mirror.Chosen
    rw [if_pos (by decide)]
    decide
  · unfold Mirror.Chosen
    rw [if_neg (by decide), if_pos (by decide)]
    decide
  · unfold Mirror.Chosen
    rw [if_neg (by decide), if_neg (by decide)]
    exact ⟨[], [0, 1, 2], rfl, by decide, by decide⟩
  · unfold Mirror.Chosen at h
    rw [if_neg (by decide), if_neg (by decide)] at h
    have none_spare : ∀ j : Fin 4, ¬ (((mirror5 ⟨4, .filling⟩).slots[j]).state = .resident
        ∧ ∀ k ∈ [(4 : ClipId)], ((mirror5 ⟨4, .filling⟩).slots[j]).clip ≠ k.val + 1) := by decide
    obtain ⟨_, _, _, spare, _⟩ := h
    exact none_spare i spare

/-- Crossing 3 with a pending record of this standing, in this waiting state. -/
def planning (st : IntervalState) (i : Integrity) : State :=
  (at3 120 { resting with state := st, planned := some ⟨plan41, i⟩ }).setStation 6 station7

theorem witness_SwapTakesThePendingPlan :
    ((running 0).crossing 2).planned = none
    ∧ (∀ st ∈ [IntervalState.dark, .rest, .hold, .fault], ∀ i ∈ [Integrity.sound, .uncorrectable],
        ((planning st i).crossing 2).planned = some ⟨plan41, i⟩ ∧ ((planning st i).crossing 2).state = st
        ∧ ((planning st i).crossing 2).walk = none ∧ ((planning st i).crossing 2).causes.planMemory = false)
    ∧ ((planning .rest .sound).station 6).owner = .owned
    ∧ (20 < driftOf 20 880 900 ∧ (900 : Int) ≤ 880 + driftOf 20 880 900)
    ∧ (∀ n, ((running 880).crossing n).state = .dark) := by decide

/-- Its last clause: crossing 3 in STARTING with a pending record, the wrap step of a SYNC from 880 to 20 that drops its
permit. -/
theorem witness_SwapTakesThePendingPlan_at_a_start :
    let s := at3 880 { walking .starting (walkOf 1 false 117) with planned := some ⟨plan41, .sound⟩ }
    s.Takes ∧ s.PlansSound ∧ (s.crossing 2).state = .starting ∧ (s.crossing 2).walk = some (walkOf 1 false 117)
    ∧ (walkOf 1 false 117).target = .rest ∧ (s.crossing 2).planned = some ⟨plan41, .sound⟩ ∧ s.tb.presence = .present
    ∧ s.tb.mask.getLsbD 2 = true ∧ (0xFB : Byte).getLsbD 2 = false ∧ (900 : Half).toNat = s.tb.cycle
    ∧ 20 < driftOf (20 : Half).toNat s.tb.pos s.tb.cycle
    ∧ (s.tb.cycle : Int) ≤ s.tb.pos + driftOf (20 : Half).toNat s.tb.pos s.tb.cycle := by
  unfold State.Takes State.PlansSound
  decide

/-- Crossing 3 with an active record of this standing, in this waiting state. -/
def damaged (st : IntervalState) (i : Integrity) : State := at3 240 { resting with state := st, active := some ⟨plan41, i⟩ }

theorem witness_ReadFindsADamagedRecord (st : IntervalState) (h : st ∈ [.dark, .rest, .hold, .fault]) :
    ∀ i ∈ [Integrity.correctable, .uncorrectable], (damaged st i).Takes
      ∧ ((damaged st i).crossing 2).active = some ⟨plan41, i⟩ ∧ ((damaged st i).crossing 2).unusable = false
      ∧ ((damaged st i).crossing 2).planned = none ∧ ((damaged st i).crossing 2).walk = none
      ∧ ((damaged st i).crossing 2).state = st := by
  unfold State.Takes
  revert st
  decide

/-- Its clauses of a walk in hand, and of the pending record: each interval state, each standing, the active record sound or
marked already. -/
theorem witness_ReadFindsADamagedRecord_in_every_state (st : IntervalState) :
    let c := if st.walks then walking st (walkOf 42 false 117) else { resting with state := st }
    let active (i : Integrity) := at3 240 { c with active := some ⟨plan41, i⟩ }
    let planned (i : Integrity) (marked : Bool) :=
      at3 240 { c with unusable := marked, active := some ⟨plan41, if marked then i else .sound⟩, planned := some ⟨plan41, i⟩ }
    ∀ i ∈ [Integrity.correctable, .uncorrectable],
      (active i).Takes ∧ ((active i).crossing 2).active = some ⟨plan41, i⟩ ∧ ((active i).crossing 2).unusable = false
      ∧ ((active i).crossing 2).planned = none ∧ ((active i).crossing 2).state = st
      ∧ ((active i).crossing 2).walk = (if st.walks then some (walkOf 42 false 117) else none)
      ∧ ((active i).crossing 2).causes.planMemory = false
      ∧ ∀ marked, ((planned i marked).crossing 2).planned = some ⟨plan41, i⟩
        ∧ (((planned i marked).crossing 2).active.all fun x => ((planned i marked).crossing 2).unusable || x.check == .sound)
        ∧ ((planned i marked).crossing 2).causes.planMemory = false := by
  unfold State.Takes
  cases st <;> decide

/-- Crossing 3 in any interval state, with a normal walk where it walks. -/
def inState (st : IntervalState) (accessible : Bool) : State :=
  at3 240 (if st.walks then walking st (walkOf 1 accessible 117) else { resting with state := st })

theorem witness_PlaceCallActsByInterval (st : IntervalState) (acc : Bool) :
    (inState st acc).Takes ∧ ((inState st acc).crossing 2).state = st ∧ ((inState st acc).crossing 2).sound = true
    ∧ (8 < (9 : Byte).toNat ∧ 1 < (2 : Byte).toNat) := by
  unfold State.Takes
  cases st <;> cases acc <;> decide

/-- A join and an extension that pass and that fail: at 211 and 240, and at 300 and 350. -/
theorem witness_AccessibleCallJoinsOrExtends :
    ∀ x ∈ [(IntervalState.starting, 211, 1), (.starting, 300, 1), (.walk, 240, 42), (.walk, 350, 42)],
      let s := at3 x.2.1 (walking x.1 (walkOf x.2.2 false 117))
      s.Takes ∧ (s.crossing 2).sound = true ∧ (s.crossing 2).walk = some (walkOf x.2.2 false 117)
      ∧ s.planInForce 2 = some plan41 ∧ (s.crossing 2).state = x.1
      ∧ (plan41.inWindow s.tb.tickPos = true
        ∧ (decide ((if x.1 = .starting then 1 + 70 else 42) + 156 + 20 ≤ plan41.remaining s.tb.tickPos)
          = decide (x.2.1 < 300))) := by
  unfold State.Takes
  decide

/-- Its clause of a crossing out of plan, and its tests at their bounds. -/
theorem witness_AccessibleCallJoinsOrExtends_bounds :
    (at3 211 { walking .starting (walkOf 1 false 117) with active := none }).planInForce 2 = none
    ∧ plan41.joinFits (walkOf 1 false 117) 273 ∧ ¬ plan41.joinFits (walkOf 1 false 117) 274
    ∧ plan41.extensionFits (walkOf 42 false 117) 302 ∧ ¬ plan41.extensionFits (walkOf 42 false 117) 303 := by
  unfold Plan.joinFits Plan.extensionFits
  decide

theorem witness_CancelCallEmptiesThePlace :
    (inState .walk false).Takes ∧ ((inState .walk false).crossing 2).sound = true
    ∧ 8 < (9 : Byte).toNat ∧ 1 < (2 : Byte).toNat := ⟨⟨rfl, rfl⟩, by decide, by decide, by decide⟩

/-- The four ways a reply is decoded: the first, an advance, an upgrade at the threshold, and none below it. -/
theorem witness_PollDecodesThePress :
    ∀ x ∈ [((⟨none, false⟩ : PressState), pollReply 1 12 4 0 255), (⟨some 12, false⟩, pollReply 1 13 1 1 255),
        (⟨some 13, false⟩, pollReply 1 13 15 1 255), (⟨some 13, false⟩, pollReply 1 13 14 1 255)],
      (pollable .rest x.1).Carries 6 .poll false ∧ OkReply 6 .poll x.2 ∧ replyByte x.2 2 = 1
      ∧ ((pollable .rest x.1).station 6).owner = .owned
      ∧ ((pollable .rest x.1).station 6).binding = some ⟨2, .a, settings7⟩
      ∧ ((pollable .rest x.1).crossing 2).sound = true ∧ ((pollable .rest x.1).crossing 2).state = .rest := by
  unfold State.Carries OkReply
  decide +kernel

/-- Each interval state, with a walk that is accessible and one that is not, in plan and out of plan. -/
theorem witness_PollDecodesThePress_in_every_state (st : IntervalState) (accessible inPlan : Bool) :
    let c := if st.walks then walking st (walkOf 42 accessible 117) else { resting with state := st }
    let s := carrying ((at3 240 (if inPlan then c else { c with active := none })).setStation 6 station7) .poll
    s.Carries 6 .poll false ∧ OkReply 6 .poll (pollReply 1 13 15 1 255) ∧ (s.station 6).owner = .owned
    ∧ (s.station 6).press.last = some 12 ∧ (s.station 6).binding = some ⟨2, .a, settings7⟩
    ∧ (s.crossing 2).sound = true ∧ (s.crossing 2).state = st ∧ (s.crossing 2).walk.isSome = st.walks
    ∧ (s.planInForce 2).isSome = inPlan := by
  unfold State.Carries OkReply
  cases st <;> cases accessible <;> cases inPlan <;> decide +kernel

theorem witness_PollTakesTheReport (o : Ownership) :
    let s := carrying ((at3 121 resting).setStation 6 { station7 with owner := o }) .poll
    s.Carries 6 .poll false ∧ OkReply 6 .poll (pollReply 1 12 4 0 80) ∧ OkReply 6 .poll (pollReply 0 12 4 0 80)
    ∧ (s.station 6).owner = o ∧ (s.station 6).binding = some ⟨2, .a, settings7⟩ ∧ (s.crossing 2).sound = true := by
  unfold State.Carries OkReply
  cases o <;> decide +kernel

/-- A start that commits, one without demand, one too late, and a crossing out of plan. -/
theorem witness_StartEvaluationCommitsExactlyWhenDue :
    (∀ x ∈ [(210, some normalCall), (210, none), (380, some accessibleCall)],
      let s := at3 x.1 { resting with placeA := x.2 }
      (s.crossing 2).state = .rest ∧ (s.crossing 2).sound = true ∧ s.planInForce 2 = some plan41)
    ∧ (at3 0 { resting with active := none }).planInForce 2 = none := by decide

theorem witness_LeadAndWalkEnd :
    ∀ st ∈ [IntervalState.starting, .walk, .clearance, .buffer],
      ((at3 212 (walking st (walkOf 1 false 117))).crossing 2).walk = some (walkOf 1 false 117)
      ∧ ((at3 212 (walking st (walkOf 1 false 117))).crossing 2).sound = true
      ∧ ((at3 212 (walking st (walkOf 2 false 117))).crossing 2).walk = some (walkOf 2 false 117)
      ∧ ((at3 212 (walking st (walkOf 2 false 117))).crossing 2).state.walks = true := by decide

theorem witness_ClearanceAndBufferEnd :
    ∀ st ∈ [IntervalState.clearance, .buffer], ∀ b ∈ [0, 20],
      let w := { walkOf 1 false 117 with buffer := b }
      ((at3 399 (walking st w)).crossing 2).walk = some w ∧ ((at3 399 (walking st w)).crossing 2).state = st
      ∧ ((at3 399 (walking st w)).crossing 2).sound = true ∧ w.target.walks = false := by decide

theorem witness_SetModeActsByInterval (st : IntervalState) :
    (inState st false).Takes ∧ ((inState st false).crossing 2).state = st
    ∧ ((inState st false).crossing 2).mode = .normal ∧ ((inState st false).crossing 2).sound = true
    ∧ ((inState st false).crossing 2).causes = {} ∧ (inState st false).startUp.failed.planMemory = false
    ∧ 3 < (4 : Byte).toNat := by
  unfold State.Takes
  cases st <;> decide

/-- The self-test's PLAN_MEMORY check has failed. -/
theorem witness_SetModeActsByInterval_refused :
    let s := (running 0).modStartUp fun u => { u with failed := { planMemory := true } }
    s.Takes ∧ s.startUp.failed.planMemory = true := ⟨⟨rfl, rfl⟩, rfl⟩

theorem witness_ClearFaultRemovesWhatHasGone :
    ∀ causes ∈ [({} : CauseSet), { conflict := true }, { dontLamp := true }, { planMemory := true }],
      let s := at3 0 { resting with state := .fault, causes := causes }
      s.Takes ∧ (s.crossing 2).sound = true ∧ (s.crossing 2).mode ≠ .off ∧ (s.crossing 2).causes = causes := by
  unfold State.Takes
  decide

/-- A lit channel of crossing 3 at the least drive of a test, its count at 2. -/
def lamps (st : IntervalState) (x : Aspect) : State :=
  let c := if st.walks then walking st (walkOf 117 false 117) else { resting with state := st }
  at3 240 (c.setChannel x { (c.channel x) with actual := 20, openCount := 2 })

theorem witness_LampFaultDisablesTheChannel :
    ∀ p ∈ [(IntervalState.walk, Aspect.walk), (.rest, .dont), (.starting, .dont), (.clearance, .dont), (.buffer, .dont)],
      ((lamps p.1 p.2).crossing 2).LampsFollow ∧ ((lamps p.1 p.2).crossing 2).sound = true
      ∧ ((lamps p.1 p.2).crossing 2).mode ≠ .off ∧ ((lamps p.1 p.2).crossing 2).causes.has (lampCause p.2) = false
      ∧ 0 < (lamps p.1 p.2).lampCurrent 2 p.2 ∧ ((lamps p.1 p.2).crossing 2).lit p.2 = true
      ∧ 20 ≤ ((lamps p.1 p.2).channel 2 p.2).actual ∧ 2 ≤ ((lamps p.1 p.2).channel 2 p.2).openCount := by
  intro p hp
  refine ⟨?_, ?_⟩
  · intro x; revert x p; intro p hp x
    fin_cases hp <;> cases x <;> rfl
  · revert p; decide

/-- Its case of a mode that has become OFF: DONT_LAMP in CLEARANCE and in BUFFER. -/
theorem witness_LampFaultDisablesTheChannel_off :
    ∀ st ∈ [IntervalState.clearance, .buffer],
      let s := (lamps st .dont).modCrossing 2 fun c => { c with mode := .off }
      (s.crossing 2).sound = true ∧ (s.crossing 2).mode = .off ∧ (s.crossing 2).state = st
      ∧ (s.crossing 2).causes.has .dontLamp = false ∧ 0 < s.lampCurrent 2 .dont ∧ (s.crossing 2).lit .dont = true
      ∧ 20 ≤ (s.channel 2 .dont).actual ∧ 2 ≤ (s.channel 2 .dont).openCount := by decide

/-- A channel below 20 mA, and one at 20 mA whose load is at half and just below half. -/
theorem witness_OpenTestCountsSamples :
    ((lamps .rest .dont).crossing 2).lit .dont = true ∧ 20 ≤ ((lamps .rest .dont).channel 2 .dont).actual
    ∧ ((lamps .rest .dont).channel 2 .dont).actual ≤ 2 * 10 ∧ 2 * 9 < ((lamps .rest .dont).channel 2 .dont).actual
    ∧ ((running 0).crossing 0).lit .walk = false := by decide

theorem witness_SetHeadSetsTheChannel :
    (running 0).Takes ∧ (8 : Byte).toNat = (7 : CrossingId).val + 1 ∧ (4 : Byte).toNat ≤ 4 ∧ (100 : Byte).toNat ≤ 100
    ∧ 4 < (5 : Byte).toNat ∧ 100 < (101 : Byte).toNat := ⟨⟨rfl, rfl⟩, by decide⟩

theorem witness_BeaconEchoSettlesTheLine :
    ∀ x ∈ [(false, false), (false, true), (true, false)],
      let s := linked (running 0) { activity := .beacon x.1, sent := [0, 5, 0, 0xFA], closed := x.2 }
      s.link.activity = .beacon x.1 ∧ s.link.closed = x.2
      ∧ [some 0, some 5, some 0, some 0xFA] = s.link.sent.map some
      ∧ ¬ [some 0, none, some 0, some 0xFA] = s.link.sent.map some := by decide

/-- A part whose take-over reaches a station with a kept clip fault flag, and an unbound one that it does not reach. -/
theorem witness_BeaconEchoSettlesTheLine_take_over :
    let s := { (running 0).setStation 6 { station7 with owner := .local, clipFault := true } with configured := true }
    s.TakesOver 6 ∧ ¬ s.TakesOver 5 ∧ s.takeOverNotices = [.station 6 .taking false false false false] := by
  unfold State.TakesOver
  decide

theorem witness_ReversionAndQuietPeriodEnd :
    (linked (running 0) { line := .fault, faultAge := 19 }).link.faultAge = 19
    ∧ (linked (running 0) { quiet := 1 }).link.quiet = 1 := ⟨rfl, rfl⟩

/-- Stations that the reversion reaches and does not reach. -/
theorem witness_ReversionAndQuietPeriodEnd_stations (o : Ownership) :
    { station7 with owner := o }.partHeld = (o == .taking || o == .owned || o == .lost) := by cases o <;> rfl

/-- No reply, to a station with no failure, with two, and to a LOST one. -/
theorem witness_FailedTransactionCounts :
    (carrying (running 0) .poll).Carries 6 .poll false ∧ judge 6 .poll none ≠ .ok
    ∧ { station7 with failures := 1 }.controlled = true ∧ { station7 with owner := .lost, failures := 3 }.controlled = false :=
  ⟨rfl, by decide, rfl, rfl⟩

/-- Replies that are judged: an OK one of each length, one of another station, one of another type, one too long. -/
theorem witness_FailedTransactionCounts_judge :
    judge 6 .poll (pollReply 1 12 4 0 80) = .ok ∧ judge 6 .ack (shortReply .ack 0) = .ok
    ∧ judge 5 .ack (shortReply .ack 0) = .bad ∧ judge 6 .config (shortReply .ack 0) = .bad
    ∧ judge 6 .ack (some (withCrc [7, Item.ack.code, 0, 0, 0])) = .bad ∧ judge 6 .ack none = .noReply
    ∧ 2 ≤ { station7 with failures := 2 }.failures := by decide +kernel

def play7 : Play := ⟨1, 0, false, false, 660, 0⟩

theorem witness_DeliveredPlayAndAck :
    (carrying (running 0) (.play play7)).Carries 6 (.play play7) false ∧ OkReply 6 (.play play7) (shortReply (.play play7) 0)
    ∧ (carrying (running 0) .ack).Carries 6 .ack false ∧ OkReply 6 .ack (shortReply .ack 0) := by
  unfold State.Carries OkReply
  decide +kernel

/-- A station in TAKING with this settings set and an item of it on the line. -/
def delivering (set : SettingsSet) (x : Setting) : State :=
  carrying ((at3 0 resting).setStation 6 { station7 with owner := .taking, settings := set }) x.item

theorem witness_DeliveredSettingLeavesTheSet :
    ∀ x ∈ [Setting.takeOver, .config, .pattern 15, .level],
      (delivering (({} : SettingsSet).add x |>.add .config |>.add .level) x).Carries 6 x.item false
      ∧ OkReply 6 x.item (shortReply x.item 0)
      ∧ ((delivering (({} : SettingsSet).add x |>.add .config |>.add .level) x).station 6).settings.remove x ≠ {} := by
  unfold State.Carries OkReply
  decide +kernel

theorem witness_LastSettingMakesTheStationOwned :
    ∀ x ∈ [Setting.takeOver, .config, .pattern 15, .level],
      let s := delivering (({} : SettingsSet).add x) x
      s.Carries 6 x.item false ∧ OkReply 6 x.item (shortReply x.item 0) ∧ (s.station 6).owner = .taking
      ∧ (s.station 6).settings.remove x = {} ∧ (s.station 6).binding = some ⟨2, .a, settings7⟩
      ∧ (s.station 6).mirror = {} ∧ (s.crossing 2).sound = true := by
  unfold State.Carries OkReply
  decide +kernel

/-- Station 7 copying clip 22 into slot 0, its last block next. -/
def copying (st : JobState) (attempt : Nat) (item : Item) : State :=
  carrying ((at3 0 resting).setStation 6 { station7 with
    job := some ⟨0, 21, st, 31, 32, attempt⟩, mirror := ({} : Mirror).put 0 22 .filling }) item

theorem witness_JobMovesOnByItsTransactions :
    (∀ x ∈ [(JobState.opening, Item.slotOpen), (.sending, .block), (.committing, .slotCommit)],
      (copying x.1 1 x.2).Carries 6 x.2 false ∧ OkReply 6 x.2 (shortReply x.2 0) ∧ OkReply 6 x.2 (shortReply x.2 1)
      ∧ ((copying x.1 1 x.2).station 6).job = some ⟨0, 21, x.1, 31, 32, 1⟩
      ∧ (((copying x.1 1 x.2).station 6).mirror.slots[0]).state = .filling
      ∧ (copying x.1 1 x.2).needs 6 = [])
    ∧ (copying .committing 2 .slotCommit).PlansSound := by
  unfold State.Carries OkReply State.PlansSound
  decide +kernel

theorem witness_NextTransactionFollowsTheOrder :
    let s := (at3 0 resting).setStation 6 { station7 with urgent := [.ack ⟨3, 0⟩] }
    (s.station 6).polledIn 6 s.link.frame = true ∧ (∀ b : StationId, b < 6 → (s.station b).polledIn b s.link.frame = false)
    ∧ (s.station 6).hasWork = true ∧ (∀ b : StationId, b ≠ 6 → (s.station b).hasWork = false)
    ∧ ∀ a, ((running 0).station a).hasWork = false := by decide +kernel

/-- What a visit offers: each urgent item; each setting when it is the first; each state of a job; nothing. -/
theorem witness_NextTransactionFollowsTheOrder_offers :
    (∀ x ∈ serviceOrder, let st := { station7 with settings := ({} : SettingsSet).add x }
      st.urgent = [] ∧ st.settings.has x = true ∧ ∀ y ∈ serviceOrder.takeWhile (fun y => y ≠ x), st.settings.has y = false)
    ∧ serviceOrder = [.takeOver, .config] ++ .pattern 0 :: serviceOrder.drop 3
    ∧ (running 0).patternOf 5 = none ∧ (running 0).patternOf 1 = some ⟨100, true, false, [(0, true), (4, false)]⟩
    ∧ (∀ st ∈ [JobState.opening, .sending, .committing],
        { station7 with job := some ⟨0, 21, st, 31, 32, 1⟩ }.job = some ⟨0, 21, st, 31, 32, 1⟩ ∧ 31 < 512)
    ∧ station7.urgent = [] ∧ station7.settings = {} ∧ station7.job = none := by decide

/-- A transaction in progress, discarded or not, in an open frame and in a closed one. -/
theorem witness_NextTransactionFollowsTheOrder_ends (discard closed : Bool) :
    let s := linked (running 0) { activity := .transaction ⟨6, .ack, discard, false⟩, closed := closed }
    s.link.activity = .transaction ⟨6, .ack, discard, false⟩ ∧ s.link.closed = closed := ⟨rfl, rfl⟩

/-- The settings of station 7 as the fields of a BIND STATION. -/
def bind7 : BindFields := ⟨50, 450, 800, 600, 15, 10, 22, 1⟩

/-- Station 7 unbound, bound at the approach, bound elsewhere; a full approach; a margin out of range. -/
theorem witness_BindStationBindsTheAddress :
    bindInRange 7 3 0 bind7 ∧ ¬ bindInRange 7 3 0 { bind7 with margin := 301 } ∧ bindInRange 24 8 1 { bind7 with margin := 300 }
    ∧ (∀ o ∈ [none, some (⟨2, .a, settings7⟩ : Binding), some ⟨2, .b, settings7⟩],
        ((at3 0 resting).setStation 6 { station7 with binding := o }).Takes
        ∧ (((at3 0 resting).setStation 6 { station7 with binding := o }).crossing 2).sound = true
        ∧ (((at3 0 resting).setStation 6 { station7 with binding := o }).station 6).binding = o)
    ∧ (allStations.filter fun x => x ≠ 6 && (((((at3 0 resting).setStation 0 station7).setStation 1 station7).station x).serves
        2 .a)).length = 2 := by
  unfold bindInRange State.Takes
  decide +kernel

theorem witness_UnbindConfigureUnconfigure :
    (running 0).Takes ∧ ((running 0).station 6).binding = none
    ∧ (((running 0).setStation 6 station7).station 6).binding ≠ none ∧ 24 < (25 : Byte).toNat :=
  ⟨⟨rfl, rfl⟩, by decide, by decide, by decide⟩

theorem witness_KerbResetClearsTheLink : (carrying (running 0) .poll).Takes := ⟨rfl, rfl⟩

/-- A figure at the bounds of its fields; an erasure of a pattern a plan names and of one none names. -/
theorem witness_SetPatternWritesTheRecord :
    (at3 0 resting).Takes ∧ (at3 0 resting).PlansSound ∧ (5 ≤ (200 : Byte).toNat ∧ (200 : Byte).toNat ≤ 200)
    ∧ (∀ q ∈ [(⟨0, 1⟩ : PointFields), ⟨199, 0⟩], q.level.toNat ≤ 1 ∧ q.offset.toNat < (200 : Byte).toNat)
    ∧ ([(⟨0, 1⟩ : PointFields), ⟨199, 0⟩].map fun q => q.offset.toNat).Pairwise (· < ·)
    ∧ plan41.names 4 = true ∧ plan41.names 5 = false ∧ ((at3 0 resting).crossing 2).active = some ⟨plan41, .sound⟩ :=
  ⟨⟨rfl, rfl⟩, by unfold State.PlansSound; decide, by decide⟩

/-- The library disabled; clip 1 empty, and VALID; all 4096 blocks taken by two clips. -/
theorem witness_ClipOpenAndData :
    { running 0 with libraryEnabled := false }.Takes ∧ (running 0).Takes ∧ (running 0).libraryEnabled = true
    ∧ (running 0).PlansSound ∧ ((running 0).clip 0).state ≠ .valid ∧ 16 ≤ (16 : Half).toNat
    ∧ (((running 0).setClip 0 ⟨.valid, 16, 1, 0, 16, []⟩).clip 0).state = .valid
    ∧ (((running 0).setClip 0 ⟨.loading, 16, 1, 0, 0, []⟩).clip 0).state = .loading
    ∧ (((running 0).setClip 0 ⟨.loading, 65535, 4096, 0, 0, []⟩).blocksHeld = 4096) :=
  ⟨⟨rfl, rfl⟩, ⟨rfl, rfl⟩, rfl, by unfold State.PlansSound; decide, by decide, by decide, by decide, by decide, by decide⟩

/-- A VALID clip that a station holds RESIDENT, and one that a job copies. -/
theorem witness_ClipOpenAndData_left :
    let s := ((at3 0 resting).setClip 21 { state := .valid, blocks := 2 }).setStation 6 { station7 with
      job := some ⟨0, 21, .sending, 1, 2, 1⟩, mirror := ({} : Mirror).put 0 22 .filling }
    s.Takes ∧ s.PlansSound ∧ (s.clip 21).state = .valid ∧ ((s.station 6).unclipped 21).job = none
    ∧ (s.station 6).owner = .owned := by
  unfold State.Takes State.PlansSound
  decide

/-- Clip 1 loaded in full, with the marker and without. -/
theorem witness_ClipCloseAndErase :
    (running 0).Takes ∧ (running 0).PlansSound ∧ ((running 0).clip 0).state = .empty
    ∧ ∀ d ∈ [([0x5A, 0xC3] : List Byte), [0, 0]],
      let c : Clip := ⟨.loading, 2, 1, crc16 d, 2, d⟩
      (((running 0).setClip 0 c).clip 0) = c ∧ c.length ≤ c.received ∧ crc16 c.data = c.check
        ∧ (c.data[0]? = some 0x5A ∧ c.data[1]? = some 0xC3 ↔ d = [0x5A, 0xC3]) :=
  ⟨⟨rfl, rfl⟩, by unfold State.PlansSound; decide, by decide, by decide +kernel⟩

/-- A station that the clip was barred from alone, and one with another barred clip beside it. -/
theorem witness_ClipCloseAndErase_barred :
    (0 : ClipId) ∈ { station7 with barred := [0] }.barred ∧ (∀ l ∈ { station7 with barred := [0] }.barred, l = 0)
    ∧ (0 : ClipId) ∈ { station7 with barred := [0, 5] }.barred ∧ ¬ ∀ l ∈ { station7 with barred := [0, 5] }.barred, l = 0 := by
  decide

theorem witness_PlayFollowsTheInterval :
    (((at3 0 resting).setStation 6 station7).station 6).binding = some ⟨2, .a, settings7⟩
    ∧ ((at3 212 (walking .starting (walkOf 2 false 117))).crossing 2).walk = some (walkOf 2 false 117)
    ∧ UrgentLaw [.play play7, .ack ⟨3, 0⟩] ∧ UrgentLaw [] := by
  unfold UrgentLaw
  decide

theorem witness_QueriesReportTheState :
    (at3 0 resting).Takes ∧ (8 : Byte).toNat = (7 : CrossingId).val + 1 ∧ ((at3 0 resting).crossing 7).sound = true
    ∧ (24 : Byte).toNat = (23 : StationId).val + 1 ∧ (64 : Byte).toNat = (63 : ClipId).val + 1
    ∧ 8 < (9 : Byte).toNat ∧ 24 < (25 : Byte).toNat ∧ 64 < (65 : Byte).toNat := ⟨⟨rfl, rfl⟩, by decide⟩

theorem witness_DiscardsAreSilent :
    { State.reset with street := { busy := true } }.street.busy = true ∧ State.reset.street.busy = false
    ∧ 0x16 < (0x17 : Byte).toNat := ⟨rfl, rfl, by decide⟩

/-- A frame one byte short of complete, good and bad; HUNT; LENGTH at the bounds of L. -/
theorem witness_BytesSpellTheRequest :
    let frame : List Byte := withCrc [4, 0x15, 7, 0, 0]
    frame.length = 7 ∧ (frame.take 1 ++ ((frame.drop 1).take 5 ++ frame.drop 6)) = withCrc (4 :: 0x15 :: 7 :: [0, 0])
    ∧ (frame.take 6 ++ [frame[6]! + 1]) ≠ withCrc [4, 0x15, 7, 0, 0]
    ∧ State.reset.street.receiver = .hunt ∧ 4 ≤ (4 : Byte).toNat ∧ (250 : Byte).toNat ≤ 250 := by decide +kernel

theorem witness_OutgoingLineServesTheReplyFirst :
    ∀ u ∈ [({ busy := true, reply := some ⟨.reply, []⟩ } : Street), { notices := [.release 2] },
        { sending := some ⟨.notice, []⟩, notices := [.release 2] }],
      u.sending = none ∧ u.reply = some ⟨.reply, []⟩
      ∨ u.sending = none ∧ u.reply = none ∧ u.busy = false ∧ u.notices = [.release 2]
      ∨ u.sending = some ⟨.notice, []⟩ ∧ u.notices = [.release 2] := by decide

theorem witness_RequestsOutsideRunningChangeNothing :
    requestKind (.configure 7) = some (0x0A, 7) ∧ State.reset.street.busy = false
    ∧ State.reset.startUp.operating ≠ .running ∧ (0x0A : Byte) ≠ 0x15 ∧ 240 < (List.replicate 241 (0 : Byte)).length := by
  decide +kernel

/-! The laws: a running part with a walk in hand meets each, and steps. -/

/-- Crossing 3 in WALK, its WALK channel lit at 300 mA, a command waiting. -/
def steady : State :=
  { at3 240 { walking .walk (walkOf 42 false 117) with
      walkLamp := { inUse := true, nominal := 300, applied := 300, actual := 300 } } with pending := [.frameSent] }

theorem witness_steps : ∃ t, step steady = .next t := ⟨{ steady with pending := [] }, rfl⟩

theorem witness_TimebaseLawIsKept : steady.tb.Law := by unfold Timebase.Law; decide

theorem witness_StreetLawsAreKept : steady.NoticesLaw ∧ steady.ReceptionLaw :=
  ⟨Nat.zero_le _, ⟨fun _ _ h => (nomatch h), fun h => (nomatch h)⟩⟩

theorem witness_LineAndBlocksLawsAreKept : steady.LineLaw ∧ steady.BlocksLaw := by
  unfold State.LineLaw State.BlocksLaw
  decide +kernel

theorem witness_ControlLawIsKept : steady.ControlLaw := by
  unfold State.ControlLaw UrgentLaw; decide

theorem witness_LevelLawIsKept : (steady.setStation 6 station7).LevelLaw := by
  intro a
  by_cases h : a = 6
  · subst h
    refine ⟨by decide, by decide, fun b e => ?_⟩
    have : b = ⟨2, .a, settings7⟩ := by
      have e' : some (⟨2, .a, settings7⟩ : Binding) = some b := e
      exact (Option.some.inj e').symm
    subst this
    decide
  · have e : (steady.setStation 6 station7).station a = {} := by revert a; decide
    rw [e]
    exact ⟨by decide, by decide, fun b e => nomatch e⟩

theorem witness_ResidentLawIsKept : steady.ResidentLaw := by
  refine ⟨?_, fun a j e => ?_, fun h => absurd rfl h⟩
  · decide
  · have : (steady.station a).job = none := by clear e; revert a; decide
    rw [this] at e
    cases e

theorem witness_CabinetNeverOverdrawn : steady.LampLaw ∧ steady.BudgetLaw := by
  refine ⟨fun n => ⟨fun x => ?_, fun x => ?_⟩, ?_, fun n x => ?_⟩
  · revert n; cases x <;> decide
  · revert n; cases x <;> decide
  · decide
  · revert n; cases x <;> decide

theorem witness_WalkOnlyUnderPermit : steady.CountdownLaw ∧ steady.WalkLaw := by
  refine ⟨fun n => ?_, fun n => ?_⟩
  · revert n; decide
  · refine ⟨?_, fun w e => ?_, ?_, ?_, fun x => ?_, fun h => absurd rfl h⟩
    · revert n; decide
    · revert n w; decide +kernel
    · revert n; decide
    · revert n; decide
    · revert n; cases x <;> decide

end Sys2Proof.Tests
end

section
/-! SUPPORT. The drift of R6: the forward distance on a cycle is the remainder of the positions' difference, and the drift
is that distance, taken one cycle back where it passes half a cycle. -/

namespace Sys2Proof.Machine

/-- R6, stage 1: u = (p − p_loc) mod C. -/
theorem cycleSub_eq_emod (a b : Nat) {c : Nat} (hc : 0 < c) : (cycleSub a b c : Int) = ((a : Int) - b) % c := by
  have le : b % c ≤ c := (Nat.mod_lt b hc).le
  unfold cycleSub
  calc (((a + (c - b % c)) % c : Nat) : Int)
      = ((a : Int) - (b % c : Int) + c) % c := by push_cast [Nat.cast_sub le]; ring_nf
    _ = ((a : Int) - b) % c := by rw [Int.add_emod_right, Int.sub_emod_emod]

theorem cycleSub_lt (a b : Nat) {c : Nat} (hc : 0 < c) : cycleSub a b c < c := Nat.mod_lt _ hc

theorem cycleSub_eq_sub_add_mul (a b : Nat) {c : Nat} (hc : 0 < c) :
    ∃ k : Int, (cycleSub a b c : Int) = (a : Int) - b + k * c :=
  ⟨-(((a : Int) - b) / c), by rw [cycleSub_eq_emod a b hc, Int.emod_def]; ring⟩

/-- R6, stage 2: the branches of the drift, and the half of the cycle each lies in. -/
theorem driftOf_cases (p l c : Nat) :
    (cycleSub p l c ≤ c / 2 ∧ driftOf p l c = cycleSub p l c)
    ∨ (c / 2 < cycleSub p l c ∧ driftOf p l c = (cycleSub p l c : Int) - c) := by
  obtain h | h := le_or_gt (cycleSub p l c) (c / 2)
  · exact .inl ⟨h, if_pos h⟩
  · exact .inr ⟨h, if_neg h.not_ge⟩

/-- R6: the drift lies in −(⌈C/2⌉ − 1)..⌊C/2⌋. -/
theorem driftOf_range (p l : Nat) {c : Nat} (hc : 0 < c) :
    -(((c + 1) / 2 : Nat) - 1 : Int) ≤ driftOf p l c ∧ driftOf p l c ≤ ((c / 2 : Nat) : Int) := by
  have lt := cycleSub_lt p l hc
  obtain ⟨behind, e⟩ | ⟨ahead, e⟩ := driftOf_cases p l c
  · rw [e]; omega
  · rw [e]; omega

/-- Settles O9: u is the forward distance from the local position to the host's, and the drift is u or u − C by R6's second
stage. -/
theorem driftIsTheShortestDifference : Obligations.DriftIsTheShortestDifference := by
  refine ⟨fun p l c hp _ => ?_, by decide⟩
  have hc : 0 < c := Nat.zero_lt_of_lt hp
  exact ⟨cycleSub p l c, cycleSub_lt p l hc, cycleSub_eq_sub_add_mul p l hc, rfl, driftOf_range p l hc⟩

end Sys2Proof.Machine
end

section
/-! SUPPORT. SET PLAN (R20): the fields of a request as the record they spell, each check of Table 2-3 as the model's
handler makes it, and the handler's two answers. -/

namespace Sys2Proof.Machine

/-! ### The operands of a SET PLAN -/

theorem numberOf_eq_some {n : Nat} {b : Byte} (i : Fin n) (h : b.toNat = i.val + 1) : numberOf n b = some i := by
  have inside : 1 ≤ b.toNat ∧ b.toNat ≤ n := by omega
  rw [numberOf, dif_pos inside]
  exact congrArg some (Fin.ext (by omega : b.toNat - 1 = i.val))

theorem numberOf_eq_none {n : Nat} {b : Byte} (h : ¬ (1 ≤ b.toNat ∧ b.toNat ≤ n)) : numberOf n b = none := dif_neg h

/-- R176: a byte up to 1 is the yes/no value that `recordOf` reads in it. -/
theorem yesNoOf_eq (b : Byte) : yesNoOf b = if b.toNat ≤ 1 then some (b == 1) else none := by
  revert b; decide

/-- Table 2-2: every field of a SET PLAN lies in its range, each yes/no field holding 0 or 1. -/
@[reducible] def planFieldsInRange (f : PlanFields) : Prop :=
  1 ≤ f.planId.toNat ∧ 300 ≤ f.cycle.toNat ∧ f.cycle.toNat ≤ 2400
  ∧ f.openAt.toNat < f.cycle.toNat ∧ f.endAt.toNat < f.cycle.toNat
  ∧ 30 ≤ f.minWalk.toNat ∧ f.minWalk.toNat ≤ 300 ∧ f.extension.toNat ≤ 200
  ∧ 300 ≤ f.distance.toNat ∧ f.distance.toNat ≤ 4000
  ∧ 100 ≤ f.normalSpeed.toNat ∧ f.normalSpeed.toNat ≤ 150
  ∧ 60 ≤ f.accessibleSpeed.toNat ∧ f.accessibleSpeed.toNat ≤ 110 ∧ f.buffer.toNat ≤ 50
  ∧ f.dwell.toNat ≤ 1 ∧ f.countdown.toNat ≤ 1
  ∧ 1 ≤ f.locator.toNat ∧ f.locator.toNat ≤ 16 ∧ 1 ≤ f.walkPattern.toNat ∧ f.walkPattern.toNat ≤ 16
  ∧ f.clearancePattern.toNat ≤ 16 ∧ 1 ≤ f.acknowledge.toNat ∧ f.acknowledge.toNat ≤ 16
  ∧ f.walkClip.toNat ≤ 64

theorem planFieldsInRange_iff (f : PlanFields) :
    planFieldsInRange f ↔ f.dwell.toNat ≤ 1 ∧ f.countdown.toNat ≤ 1 ∧ (recordOf f).inRange = true := by
  have planId : f.planId.toNat ≤ 255 := Nat.le_of_lt_succ f.planId.isLt
  simp only [Plan.inRange, Bool.and_eq_true, decide_eq_true_eq]
  simp only [recordOf, planFieldsInRange]
  tauto

/-- R20 check 3: the plan that the model reads is the record that the fields spell, where they are in range. -/
theorem planOf_eq (f : PlanFields) : planOf f = if planFieldsInRange f then some (recordOf f) else none := by
  rw [planOf, yesNoOf_eq, yesNoOf_eq]
  by_cases dwell : f.dwell.toNat ≤ 1
  · by_cases countdown : f.countdown.toNat ≤ 1
    · have same : planFieldsInRange f ↔ (recordOf f).inRange = true := by simp [planFieldsInRange_iff, dwell, countdown]
      simp only [dwell, countdown, if_true, same]
      rfl
    · have outside : ¬ planFieldsInRange f := by simp [planFieldsInRange_iff, countdown]
      rw [if_neg outside, if_pos dwell, if_neg countdown]
  · have outside : ¬ planFieldsInRange f := by simp [planFieldsInRange_iff, dwell]
    rw [if_neg outside, if_neg dwell]

/-! ### The checks of Table 2-3 after the ranges -/

theorem cycleSub_of_lt (a : Nat) {b c : Nat} (h : b < c) : cycleSub a b c = (a + c - b) % c := by
  rw [cycleSub, Nat.mod_eq_of_lt h, Nat.add_sub_assoc h.le]

theorem recordOf_windowLength {f : PlanFields} (h : planFieldsInRange f) : (recordOf f).windowLength =
    (f.endAt.toNat + f.cycle.toNat - f.openAt.toNat) % f.cycle.toNat := by
  obtain ⟨-, -, -, openBelowCycle, -⟩ := h
  exact cycleSub_of_lt _ openBelowCycle

/-- R21: the record does not fit exactly when its window is shorter than the longest accessible walk. -/
theorem Plan.fits_eq_false_iff (p : Plan) :
    p.fits = false ↔ p.windowLength < 2 + p.minWalk + p.accessibleClearance + p.buffer := by
  rw [Plan.fits, decide_eq_false_iff_not, Nat.not_le]
  rfl

/-- R22: a record fails the check of its patterns when one that it names is undefined. -/
theorem State.patternsDefined_recordOf_eq_false_iff (s : State) (f : PlanFields) :
    s.patternsDefined (recordOf f) = false ↔
      ∃ k ∈ [f.locator, f.walkPattern, f.clearancePattern, f.acknowledge], k ≠ 0 ∧ s.patternOf k.toNat = none := by
  have undefined (k : Byte) : ¬ (k.toNat == 0 || (s.patternOf k.toNat).isSome) = true ↔
      k ≠ 0 ∧ s.patternOf k.toNat = none := by
    simp [BitVec.toNat_eq]
  change ([f.locator, f.walkPattern, f.clearancePattern, f.acknowledge].map BitVec.toNat).all _ = false ↔ _
  simp only [List.all_map, List.all_eq_false, Function.comp_apply, undefined]

/-- Checks 4 to 7 of Table 2-3, as the handler makes them on the record. -/
def State.recordStatus (s : State) (p : Plan) : Status :=
  if p.openAt = p.endAt ∨ p.normalSpeed < p.accessibleSpeed ∨ p.fits = false then .badField
  else if s.patternsDefined p = false then .badState
  else .ok

/-- Table 2-3: past the first three checks, the status is that of the checks of the record. -/
theorem State.planStatus_inRange {s : State} {crossing : Byte} {f : PlanFields}
    (memory : ¬ s.startUp.failed.planMemory = true) (number : 1 ≤ crossing.toNat ∧ crossing.toNat ≤ 8)
    (ranges : planFieldsInRange f) : s.planStatus crossing f = s.recordStatus (recordOf f) := by
  have ends : (recordOf f).openAt = (recordOf f).endAt ↔ f.openAt = f.endAt := BitVec.toNat_inj
  have fits := (recordOf f).fits_eq_false_iff
  rw [recordOf_windowLength ranges] at fits
  simp only [State.recordStatus, ite_or, ends, fits, s.patternsDefined_recordOf_eq_false_iff f]
  rw [State.planStatus, if_neg memory, if_neg (not_not_intro number), if_neg (not_not_intro ranges)]
  rfl

/-! ### The handler -/

/-- R23: the state after a plan is put into the pending slot of crossing n and the needs of its stations are recomputed. -/
def State.planned (s : State) (n : CrossingId) (p : Plan) : State :=
  let s := s.modCrossing n fun c => { c with planned := some ⟨p, .sound⟩ }
  s.recomputeAll (s.ownedAt n)

theorem State.planned_kept (s : State) (n : CrossingId) (p : Plan) : s.Kept (s.planned n p) :=
  (State.Kept.refl s).modCrossing.recomputeAll

/-- Past the first three checks, the handler answers by the checks of the record. -/
theorem handleSetPlan_inRange {s : State} {crossing : Byte} {f : PlanFields} {n : CrossingId}
    (memory : ¬ s.startUp.failed.planMemory = true) (number : crossing.toNat = n.val + 1)
    (ranges : planFieldsInRange f) :
    handleSetPlan crossing f s =
      if s.recordStatus (recordOf f) = .ok then done (s.planned n (recordOf f))
      else refuse s (s.recordStatus (recordOf f)) := by
  rw [handleSetPlan, if_neg memory, show crossingOf crossing = some n from numberOf_eq_some n number, planOf_eq,
    if_pos ranges]
  dsimp only
  unfold State.recordStatus
  split
  · simp
  · split <;> simp [State.planned]

/-- What the handler answers: the first failed check's status with nothing changed, or OK with the pending slot filled. -/
theorem handleSetPlan_cases (s : State) (crossing : Byte) (f : PlanFields) :
    (s.planStatus crossing f ≠ .ok ∧ handleSetPlan crossing f s = refuse s (s.planStatus crossing f))
    ∨ (s.planStatus crossing f = .ok ∧ ∃ n : CrossingId, crossing.toNat = n.val + 1
        ∧ handleSetPlan crossing f s = done (s.planned n (recordOf f))) := by
  by_cases memory : s.startUp.failed.planMemory = true
  · left; simp [State.planStatus, handleSetPlan, memory]
  by_cases number : 1 ≤ crossing.toNat ∧ crossing.toNat ≤ 8
  swap
  · have status : s.planStatus crossing f = .badField := by rw [State.planStatus, if_neg memory, if_pos number]
    left; simp [status, handleSetPlan, memory, crossingOf, numberOf_eq_none number]
  by_cases ranges : planFieldsInRange f
  swap
  · have status : s.planStatus crossing f = .badField := by
      rw [State.planStatus, if_neg memory, if_neg (not_not_intro number), if_pos ranges]
    left; simp [status, handleSetPlan, memory, planOf_eq, if_neg ranges]
  obtain ⟨n, hn⟩ : ∃ n : CrossingId, crossing.toNat = n.val + 1 :=
    ⟨⟨crossing.toNat - 1, by omega⟩, (Nat.sub_add_cancel number.1).symm⟩
  rw [State.planStatus_inRange memory number ranges, handleSetPlan_inRange memory hn ranges]
  by_cases ok : s.recordStatus (recordOf f) = .ok
  · exact .inr ⟨ok, n, hn, if_pos ok⟩
  · exact .inl ⟨ok, if_neg ok⟩

/-- Settles O15: the handler sees the part with its receiver in HUNT and the flag set, which no check reads. -/
theorem setPlanAnswersTheFirstFailedCheck : Obligations.SetPlanAnswersTheFirstFailedCheck := by
  intro s tag crossing f takes
  have runs : exec (.setPlan tag crossing f) s = .next ((handleSetPlan crossing f s.handling).replied 0x02 tag) :=
    congrArg _ (s.takeRequest_takes 0x02 tag (handleSetPlan crossing f) takes)
  have status : s.handling.planStatus crossing f = s.planStatus crossing f := rfl
  have notRestart : (0x02 : Byte) ≠ kindRestart := by decide
  rw [runs]
  obtain ⟨failed, answer⟩ | ⟨passed, n, -, answer⟩ := handleSetPlan_cases s.handling crossing f
  · rw [status] at failed answer
    rw [answer, State.handling_refused s _ _ _ notRestart]
    exact ⟨fun _ => rfl, fun ok => absurd ok failed⟩
  · refine ⟨fun bad => absurd passed bad, fun _ => ⟨_, rfl, ?_⟩⟩
    rw [answer, Answer.replied_eq _ _ _ notRestart]
    exact ⟨rfl, congrArg Street.busy (s.handling.planned_kept n (recordOf f)).street⟩

end Sys2Proof.Machine
end

section
/-! SUPPORT. SET HEAD (R89) and the ramp step (R88): what a ramp step makes of a drive, what an operation that changes one
channel and evaluates the budget anew changes and leaves alone, and the handler's two answers. -/

namespace Sys2Proof.Machine

/-! ### The ramp step -/

/-- R88: below its target a channel rises by its ramp rate or up to the target, above it falls likewise. -/
theorem Channel.rampStep_eq (ch : Channel) : ch.rampStep = { ch with
    actual := if ch.inUse = false then ch.actual
      else if ch.actual ≤ ch.applied then min (ch.actual + ch.ramp) ch.applied
      else max (ch.actual - ch.ramp) ch.applied } := by
  unfold Channel.rampStep
  by_cases idle : ch.inUse = false
  · rw [if_pos (by simp [idle]), if_pos idle]
  obtain below | same | above := lt_trichotomy ch.actual ch.applied
  · have rises : ch.actual + min ch.ramp (ch.applied - ch.actual) = min (ch.actual + ch.ramp) ch.applied := by omega
    simp [idle, below, below.le, rises]
  · simp [idle, same]
  · have falls : ch.actual - min ch.ramp (ch.actual - ch.applied) = max (ch.actual - ch.ramp) ch.applied := by omega
    simp [idle, above.not_gt, above.not_ge, falls]

/-! ### A change of one channel, and the budget after it -/

@[simp] theorem Crossing.modChannel_core (c : Crossing) (x : Aspect) (f : Channel → Channel) :
    (c.modChannel x f).core = c.core := by cases x <;> rfl

@[simp] theorem Crossing.mapChannels_core (c : Crossing) (f : Channel → Channel) : (c.mapChannels f).core = c.core := rfl

/-- R87: the budget reaches a channel's applied target only. -/
theorem Channel.apply_withApplied (clamped : Bool) (ch : Channel) (a : Nat) :
    { ch.apply clamped with applied := a } = { ch with applied := a } := rfl

/-- One channel of crossing n is changed and the budget is evaluated anew. -/
def State.headSet (s : State) (n : CrossingId) (x : Aspect) (f : Channel → Channel) : State :=
  (s.modCrossing n fun c => c.modChannel x f).rebudget

section
variable (s : State) (n : CrossingId) (x : Aspect) (f : Channel → Channel)

theorem State.headSet_channel (y : Aspect) (a : Nat) : { (s.headSet n x f).channel n y with applied := a } =
    { (if y = x then f (s.channel n x) else s.channel n y) with applied := a } := by
  rw [State.headSet, State.rebudget_channel, Channel.apply_withApplied]
  simp [State.channel]

theorem State.headSet_core : ((s.headSet n x f).crossing n).core = (s.crossing n).core := by simp [State.headSet]

theorem State.headSet_budgetLaw : (s.headSet n x f).BudgetLaw := State.rebudget_budgetLaw _

theorem State.headSet_besideCrossing : s.BesideCrossing n (s.headSet n x f) := by
  refine ⟨⟨rfl, rfl, .inl rfl, rfl, rfl, rfl, rfl, rfl, rfl⟩, fun m other => ?_⟩
  have untouched : (s.modCrossing n fun c => c.modChannel x f).crossing m = s.crossing m := by simp [other]
  rw [← untouched]
  exact State.rebudget_same _ m

end

/-! ### The handler -/

/-- R89: a channel with the settings of a SET HEAD, its nominal target following the day/night flag (R86). -/
def Channel.withSettings (d : DayNight) (coarse dayFine nightFine ramp : Nat) (ch : Channel) : Channel :=
  { ch with
    coarse := coarse, dayFine := dayFine, nightFine := nightFine, ramp := ramp
    nominal := 100 * coarse * (if d = .day then dayFine else nightFine) / 255 }

theorem aspectOf_eq_none {b : Byte} (h : 1 < b.toNat) : aspectOf b = none := by
  have notWalk : b ≠ 0 := by rintro rfl; exact absurd h (by decide)
  have notDont : b ≠ 1 := by rintro rfl; exact absurd h (by decide)
  rw [aspectOf, if_neg notWalk, if_neg notDont]

theorem aspectOf_eq_some {b : Byte} {x : Aspect} (h : (b = 0 ∧ x = .walk) ∨ (b = 1 ∧ x = .dont)) :
    aspectOf b = some x := by
  obtain ⟨rfl, rfl⟩ | ⟨rfl, rfl⟩ := h
  · rfl
  · rfl

/-- R89: a SET HEAD with a field outside its range is refused. -/
theorem handleSetHead_badField (s : State) {crossing aspect coarse ramp : Byte} (day night : Byte)
    (bad : crossing = 0 ∨ 8 < crossing.toNat ∨ 1 < aspect.toNat ∨ coarse = 0 ∨ 4 < coarse.toNat ∨ ramp = 0
      ∨ 100 < ramp.toNat) : handleSetHead crossing aspect coarse day night ramp s = refuse s .badField := by
  simp only [← BitVec.toNat_inj, show (0 : Byte).toNat = 0 from rfl] at bad
  unfold handleSetHead
  by_cases number : 1 ≤ crossing.toNat ∧ crossing.toNat ≤ 8
  swap
  · rw [show crossingOf crossing = none from numberOf_eq_none number]
  by_cases head : 1 < aspect.toNat
  · rw [aspectOf_eq_none head]
    cases crossingOf crossing <;> rfl
  · have outside : ¬ (1 ≤ coarse.toNat ∧ coarse.toNat ≤ 4 ∧ 1 ≤ ramp.toNat ∧ ramp.toNat ≤ 100) := by omega
    simp only [if_neg outside]
    split <;> rfl

/-- R89: a SET HEAD in range gives the channel its settings, and is answered OK. -/
theorem handleSetHead_done (s : State) {crossing aspect coarse ramp : Byte} {n : CrossingId} {x : Aspect} (day night : Byte)
    (number : crossing.toNat = n.val + 1) (head : (aspect = 0 ∧ x = .walk) ∨ (aspect = 1 ∧ x = .dont))
    (inside : 1 ≤ coarse.toNat ∧ coarse.toNat ≤ 4 ∧ 1 ≤ ramp.toNat ∧ ramp.toNat ≤ 100) :
    handleSetHead crossing aspect coarse day night ramp s =
      done (s.headSet n x (Channel.withSettings s.tb.dayNight coarse.toNat day.toNat night.toNat ramp.toNat)) := by
  rw [handleSetHead, show crossingOf crossing = some n from numberOf_eq_some n number, aspectOf_eq_some head]
  simp only [if_pos inside]
  cases flag : s.tb.dayNight <;> rfl

/-- Settles O31: the handler sees the part with its receiver in HUNT and the flag set, which no channel follows; what the
budget changes of a channel is its applied target alone. -/
theorem setHeadSetsTheChannel : Obligations.SetHeadSetsTheChannel := by
  refine ⟨Channel.rampStep_eq, fun s tag crossing aspect coarse day night ramp takes => ?_⟩
  have notRestart : (0x07 : Byte) ≠ kindRestart := by decide
  have runs : exec (.setHead tag crossing aspect coarse day night ramp) s =
      .next ((handleSetHead crossing aspect coarse day night ramp s.handling).replied 0x07 tag) :=
    congrArg _ (s.takeRequest_takes 0x07 tag _ takes)
  rw [runs]
  refine ⟨fun bad => ?_, fun n x number head coarseLow coarseHigh rampLow rampHigh => ?_⟩
  · rw [handleSetHead_badField _ day night bad, State.handling_refused s _ _ _ notRestart]
  · rw [handleSetHead_done _ day night number head ⟨coarseLow, coarseHigh, rampLow, rampHigh⟩,
      Answer.replied_eq _ _ _ notRestart]
    refine ⟨_, rfl, ?_, fun y other => ?_, s.headSet_core n x _, s.headSet_besideCrossing n x _,
      s.headSet_budgetLaw n x _, rfl, rfl⟩
    · exact (s.headSet_channel n x _ x _).trans (by rw [if_pos rfl]; rfl)
    · exact (s.headSet_channel n x _ y _).trans (by rw [if_neg other])

end Sys2Proof.Machine
end

section
/-! SUPPORT. The rules about the head outputs that every operation on a crossing uses (R83, R87, R88): which changes keep the
budget's law, and what bringing a crossing's channels up to date makes of each channel. -/

namespace Sys2Proof.Machine

/-! ### The budget (R87) -/

/-- R87: what the budget reads and writes of a channel stays. -/
structure Channel.SameBudget (was now : Channel) : Prop where
  inUse : now.inUse = was.inUse
  nominal : now.nominal = was.nominal
  applied : now.applied = was.applied

theorem Channel.SameBudget.refl (ch : Channel) : ch.SameBudget ch := ⟨rfl, rfl, rfl⟩

theorem State.nominalSum_congr {s t : State} (h : ∀ n x, (t.channel n x).inUse = (s.channel n x).inUse
    ∧ (t.channel n x).nominal = (s.channel n x).nominal) : t.nominalSum = s.nominalSum := by
  unfold State.nominalSum
  congr 1
  refine List.ext_getElem (by simp) fun i hi _ => ?_
  simp only [List.length_map, Vector.length_toList] at hi
  obtain ⟨walkUse, walkNominal⟩ := h ⟨i, hi⟩ .walk
  obtain ⟨dontUse, dontNominal⟩ := h ⟨i, hi⟩ .dont
  simp only [State.channel, State.crossing, Crossing.channel, Fin.getElem_fin] at walkUse walkNominal dontUse dontNominal
  simp [walkUse, walkNominal, dontUse, dontNominal]

theorem State.BudgetLaw.congr {s t : State} (h : s.BudgetLaw) (limit : t.budgetLimit = s.budgetLimit)
    (same : ∀ n x, (s.channel n x).SameBudget (t.channel n x)) : t.BudgetLaw := by
  obtain ⟨flag, applied⟩ := h
  refine ⟨?_, fun n x => ?_⟩
  · rw [limit, flag, State.nominalSum_congr fun n x => ⟨(same n x).inUse, (same n x).nominal⟩]
  · rw [limit, (same n x).inUse, (same n x).nominal, (same n x).applied, applied]

/-! ### A crossing's channels (R83) -/

/-- R82, R88: a channel that is not in use delivers nothing. -/
def Crossing.IdleDark (c : Crossing) : Prop := ∀ x, (c.channel x).inUse = false → (c.channel x).actual = 0

/-- A change of a crossing that leaves its channels alone. -/
structure Crossing.SameChannels (was now : Crossing) : Prop where
  walkLamp : now.walkLamp = was.walkLamp
  dontLamp : now.dontLamp = was.dontLamp

/-- A change of a crossing that leaves its interval state and its channels alone. -/
structure Crossing.SameLamps (was now : Crossing) : Prop extends Crossing.SameChannels was now where
  state : now.state = was.state

theorem Crossing.SameChannels.channel {c d : Crossing} (h : c.SameChannels d) (x : Aspect) : d.channel x = c.channel x := by
  cases x
  · exact h.walkLamp
  · exact h.dontLamp

theorem Crossing.SameChannels.idleDark {c d : Crossing} (h : c.SameChannels d) (dark : c.IdleDark) : d.IdleDark :=
  fun x => by rw [h.channel]; exact dark x

theorem Crossing.SameLamps.lampsFollow {c d : Crossing} (h : c.SameLamps d) (follow : c.LampsFollow) : d.LampsFollow :=
  fun x => by rw [h.channel, h.state]; exact follow x

/-- R87: a crossing that the budget alone has reached is as it was in every item but the applied targets. -/
theorem Crossing.SameButApplied.channel {c d : Crossing} (h : c.SameButApplied d) (x : Aspect) :
    { d.channel x with applied := (c.channel x).applied } = c.channel x := by
  cases x
  · exact congrArg Crossing.walkLamp h
  · exact congrArg Crossing.dontLamp h

theorem Crossing.SameButApplied.core {c d : Crossing} (h : c.SameButApplied d) : d.core = c.core := by
  have same := congrArg Crossing.core h
  exact same

theorem Crossing.state_of_core {c d : Crossing} (h : d.core = c.core) : d.state = c.state := by
  have same := congrArg Crossing.state h
  exact same

theorem Crossing.SameButApplied.lampsFollow {c d : Crossing} (h : c.SameButApplied d) (follow : c.LampsFollow) :
    d.LampsFollow := fun x => by
  have inUse : (d.channel x).inUse = (c.channel x).inUse := (congrArg Channel.inUse (h.channel x) :)
  have enabled : (d.channel x).enabled = (c.channel x).enabled := (congrArg Channel.enabled (h.channel x) :)
  rw [inUse, enabled, Crossing.state_of_core h.core]
  exact follow x

theorem Crossing.SameButApplied.idleDark {c d : Crossing} (h : c.SameButApplied d) (dark : c.IdleDark) : d.IdleDark :=
  fun x => by
  have inUse : (d.channel x).inUse = (c.channel x).inUse := (congrArg Channel.inUse (h.channel x) :)
  have actual : (d.channel x).actual = (c.channel x).actual := (congrArg Channel.actual (h.channel x) :)
  rw [inUse, actual]
  exact dark x

theorem Crossing.restored_sameLamps (c : Crossing) : c.SameLamps c.restored := by
  unfold Crossing.restored
  split <;> exact ⟨⟨rfl, rfl⟩, rfl⟩

theorem Crossing.setPlace_sameLamps (c : Crossing) (ap : Approach) (r : Option Call) : c.SameLamps (c.setPlace ap r) := by
  cases ap <;> exact ⟨⟨rfl, rfl⟩, rfl⟩

@[simp] theorem Crossing.claim_channel (c : Crossing) (x y : Aspect) : (c.claim x).channel y =
    if y = x then { c.channel x with inUse := (c.channel x).enabled && c.state.calls x } else c.channel y :=
  Crossing.modChannel_channel c x y _

@[simp] theorem Crossing.claim_state (c : Crossing) (x : Aspect) : (c.claim x).state = c.state := by cases x <;> rfl

@[simp] theorem Crossing.claim_core (c : Crossing) (x : Aspect) : (c.claim x).core = c.core := Crossing.modChannel_core c x _

/-- R83, step 1: a channel is in use exactly when it is ENABLED and its interval state calls for it. -/
def Channel.claimed (calls : Bool) (ch : Channel) : Channel := { ch with inUse := ch.enabled && calls }

/-- R83: a crossing's in-use flags follow its interval state. -/
def Crossing.claimed (c : Crossing) : Crossing := (c.claim .walk).claim .dont

theorem Crossing.claimed_channel (c : Crossing) (x : Aspect) :
    c.claimed.channel x = (c.channel x).claimed (c.state.calls x) := by
  cases x <;> simp [Crossing.claimed, Channel.claimed]

theorem Crossing.claimed_core (c : Crossing) : c.claimed.core = c.core := by simp [Crossing.claimed]

/-- R87: the budget evaluated with crossing n's in-use flags following its interval state is over the limit. -/
def State.clampsFor (s : State) (n : CrossingId) : Bool :=
  Config.cabinetLimit < (s.modCrossing n Crossing.claimed).nominalSum

section
variable (s : State) (n : CrossingId)

/-- R83, R87, R88: the channels of the crossing follow its interval state and are switched; those of the others take the
budget's applied targets. -/
theorem State.headsUpToDate_channel (m : CrossingId) (x : Aspect) : (s.headsUpToDate n).channel m x =
    if m = n then (s.channel n x).switched (((s.channel n x).claimed ((s.crossing n).state.calls x)).apply (s.clampsFor n))
    else (s.channel m x).apply (s.clampsFor n) := by
  by_cases h : m = n
  · subst h
    have claimed := (s.crossing m).claimed_channel x
    cases x <;> simp [State.headsUpToDate, State.channel, Crossing.channel, Crossing.mapChannels, Crossing.claimed,
      State.clampsFor] at claimed ⊢ <;> rw [claimed] <;> rfl
  · simp [State.headsUpToDate, State.channel, h]
    rfl

theorem State.headsUpToDate_core (m : CrossingId) : ((s.headsUpToDate n).crossing m).core = (s.crossing m).core := by
  by_cases h : m = n
  · subst h
    simpa [State.headsUpToDate, Crossing.core, Crossing.mapChannels, Crossing.claimed] using (s.crossing m).claimed_core
  · simp [State.headsUpToDate, h]

theorem State.headsUpToDate_state (m : CrossingId) : ((s.headsUpToDate n).crossing m).state = (s.crossing m).state := by
  have same := congrArg Crossing.state (s.headsUpToDate_core n m)
  exact same

/-- R83: the in-use flags follow the interval state. -/
theorem State.headsUpToDate_lampsFollow : ((s.headsUpToDate n).crossing n).LampsFollow := by
  intro x
  have channel := s.headsUpToDate_channel n n x
  rw [if_pos rfl, Channel.switched_eq] at channel
  rw [s.headsUpToDate_state, show ((s.headsUpToDate n).crossing n).channel x = _ from channel]
  rfl

/-- R88: a channel that was idle without a drive has none once it is idle. -/
theorem State.headsUpToDate_idleDark (h : (s.crossing n).IdleDark) : ((s.headsUpToDate n).crossing n).IdleDark := by
  intro x
  have channel := s.headsUpToDate_channel n n x
  rw [if_pos rfl, Channel.switched_eq] at channel
  rw [show ((s.headsUpToDate n).crossing n).channel x = _ from channel]
  intro idle
  dsimp only at idle ⊢
  split
  · next same => exact h x (same.symm.trans idle)
  · rw [if_neg (by simp [idle])]

theorem State.headsUpToDate_budgetLaw : (s.headsUpToDate n).BudgetLaw := by
  have law := (s.modCrossing n Crossing.claimed).rebudget_budgetLaw
  refine law.congr rfl fun m x => ?_
  rw [s.headsUpToDate_channel, State.rebudget_channel]
  by_cases h : m = n
  · subst h
    rw [if_pos rfl, Channel.switched_eq]
    have claimed := (s.crossing m).claimed_channel x
    simp only [State.channel, State.modCrossing_crossing, if_true, claimed]
    exact ⟨rfl, rfl, rfl⟩
  · simp [h, State.channel, State.clampsFor]
    exact .refl _

/-- R83: bringing crossing n up to date reaches the others by the budget alone. -/
theorem State.headsUpToDate_other {m : CrossingId} (h : m ≠ n) :
    (s.crossing m).SameButApplied ((s.headsUpToDate n).crossing m) := by
  have same := (s.modCrossing n Crossing.claimed).rebudget_same m
  rw [State.modCrossing_crossing, if_neg h] at same
  unfold State.headsUpToDate
  rw [State.modCrossing_crossing, if_neg h]
  exact same

/-- R83, R88: each channel of crossing n is switched. -/
theorem State.headsUpToDate_switched (x : Aspect) :
    (s.channel n x).Switched ((s.headsUpToDate n).channel n x) := by
  rw [s.headsUpToDate_channel, if_pos rfl, Channel.switched_eq]
  exact ⟨rfl, rfl⟩

end

end Sys2Proof.Machine
end

section
/-! SUPPORT. What every operation of the Sequencer, the Call Register and the caches keeps of the laws of the stations and of
the head outputs, whatever the records and the interval states: the relation `State.Steady`. -/

namespace Sys2Proof.Machine

/-! ### One station's part of the laws -/

/-- R32, R103, R123: one station's part of `State.ControlLaw`, beside its ownership. -/
def Station.WorkLaw (t : Station) : Prop :=
  UrgentLaw t.urgent ∧ (t.controlled = false → t.urgent = [] ∧ t.settings = {} ∧ t.job = none)
  ∧ (t.owner ≠ .owned → t.press = {})

/-- R117, R145: one station's part of `State.LevelLaw`. -/
def Station.LevelLaw (d : DayNight) (t : Station) : Prop :=
  300 ≤ t.ambient ∧ t.ambient ≤ 1000
  ∧ ∀ b, t.binding = some b → b.settings.floor ≤ b.settings.dayCeiling ∧ b.settings.floor ≤ b.settings.nightCeiling
      ∧ b.settings.floor ≤ t.level ∧ t.level ≤ b.settings.ceiling d

/-- R154: one station's part of `State.ResidentLaw`. -/
def Station.CacheLaw (clips : Vector Clip 64) (t : Station) : Prop :=
  (∀ i : Fin 4, (t.mirror.slots[i]).state = .resident →
    ∃ k : ClipId, (t.mirror.slots[i]).clip = clipNumber k ∧ (clips[k]).state = .valid)
  ∧ ∀ j, t.job = some j → (clips[j.clip]).state = .valid

/-- R160: a station of a part that is not RUNNING: nothing is bound to it, and it holds no clip. -/
def Station.Vacant (t : Station) : Prop := t.owner = .absent ∧ t.job = none ∧ t.mirror = {}

/-- R143: an ambient between 300 and 1000 stays there. -/
theorem filtered_range (ambient : Nat) (v : Byte) (low : 300 ≤ ambient) (high : ambient ≤ 1000) :
    300 ≤ filtered ambient (sampleOf v) ∧ filtered ambient (sampleOf v) ≤ 1000 := by
  unfold filtered sampleOf capped
  omega

/-- R144: a target level lies between the floor and the ceiling in force. -/
theorem Settings.target_range (t : Settings) (ambient : Nat) (d : DayNight) (day : t.floor ≤ t.dayCeiling)
    (night : t.floor ≤ t.nightCeiling) : t.floor ≤ t.target ambient d ∧ t.target ambient d ≤ t.ceiling d := by
  have inForce : t.floor ≤ t.ceiling d := by cases d <;> assumption
  unfold Settings.target
  omega

/-- R145: the target level of its own settings suits a station. -/
theorem Station.LevelLaw.retarget {d : DayNight} {t u : Station} (h : t.LevelLaw d) (binding : u.binding = t.binding)
    (low : 300 ≤ u.ambient) (high : u.ambient ≤ 1000)
    (level : ∀ b, t.binding = some b → u.level = t.level ∨ ∃ x, u.level = b.settings.target x d) : u.LevelLaw d := by
  obtain ⟨-, -, bound⟩ := h
  refine ⟨low, high, fun b hb => ?_⟩
  rw [binding] at hb
  obtain ⟨day, night, floor, ceiling⟩ := bound b hb
  obtain e | ⟨x, e⟩ := level b hb
  · rw [e]; exact ⟨day, night, floor, ceiling⟩
  · rw [e]; exact ⟨day, night, b.settings.target_range x d day night⟩

/-! ### The relation -/

/-- One station before and after operations that leave its ownership and its binding: each law it kept it keeps. -/
structure Station.Steady (d : DayNight) (clips : Vector Clip 64) (t u : Station) : Prop where
  owner : u.owner = t.owner
  binding : u.binding = t.binding
  work : t.WorkLaw → u.WorkLaw
  level : t.LevelLaw d → u.LevelLaw d
  cache : t.CacheLaw clips → u.CacheLaw clips
  vacant : t.Vacant → u.Vacant

theorem Station.Steady.refl (d : DayNight) (clips : Vector Clip 64) (t : Station) : t.Steady d clips t :=
  ⟨rfl, rfl, id, id, id, id⟩

theorem Station.Steady.trans {d : DayNight} {clips : Vector Clip 64} {t u v : Station} (h : t.Steady d clips u)
    (k : u.Steady d clips v) : t.Steady d clips v :=
  ⟨k.owner.trans h.owner, k.binding.trans h.binding, k.work ∘ h.work, k.level ∘ h.level, k.cache ∘ h.cache,
    k.vacant ∘ h.vacant⟩

theorem Station.owned_controlled {t : Station} (h : t.owner = .owned) : t.controlled = true := by
  simp [Station.controlled, h]

/-- A change of an OWNED station, which may have work of every kind. -/
theorem Station.Steady.ofOwned {d : DayNight} {clips : Vector Clip 64} {t u : Station} (owned : t.owner = .owned)
    (owner : u.owner = t.owner) (binding : u.binding = t.binding) (urgent : UrgentLaw t.urgent → UrgentLaw u.urgent)
    (level : t.LevelLaw d → u.LevelLaw d) (cache : t.CacheLaw clips → u.CacheLaw clips) : t.Steady d clips u where
  owner := owner
  binding := binding
  work := fun ⟨h, _, _⟩ => ⟨urgent h,
    fun idle => absurd (Station.owned_controlled (owner.trans owned)) (by simp [idle]),
    fun other => absurd (owner.trans owned) other⟩
  level := level
  cache := cache
  vacant := fun ⟨h, _, _⟩ => by simp [owned] at h

/-- A change that leaves alone what the laws of the work and of the caches speak of. -/
theorem Station.Steady.ofLevel {d : DayNight} {clips : Vector Clip 64} {t u : Station} (owner : u.owner = t.owner)
    (binding : u.binding = t.binding) (urgent : u.urgent = t.urgent)
    (settings : t.controlled = false → u.settings = t.settings)
    (press : u.press = t.press) (job : u.job = t.job) (mirror : u.mirror = t.mirror)
    (level : t.LevelLaw d → u.LevelLaw d) : t.Steady d clips u where
  owner := owner
  binding := binding
  work := fun ⟨h, idle, unset⟩ => by
    refine ⟨urgent ▸ h, fun c => ?_, fun o => press ▸ unset (owner ▸ o)⟩
    have c' : t.controlled = false := by rw [← c, Station.controlled, Station.controlled, owner]
    obtain ⟨noUrgent, noSettings, noJob⟩ := idle c'
    exact ⟨urgent ▸ noUrgent, (settings c').trans noSettings, job ▸ noJob⟩
  level := level
  cache := fun ⟨slots, jobs⟩ => ⟨mirror ▸ slots, job ▸ jobs⟩
  vacant := fun ⟨o, j, m⟩ => ⟨owner ▸ o, job ▸ j, mirror ▸ m⟩

/-- What operations on the crossings, the calls, the work and the caches keep beside `State.Kept`: the line but for marks, and
the laws of every station, of the channels and of the budget; but that the channels of the crossings `but` names may be left
behind their interval state. -/
structure State.SteadyBut (but : CrossingId → Prop) (s t : State) : Prop extends s.Kept t where
  line : s.link.SameButAgain t.link
  stations : ∀ a, (s.station a).Steady s.tb.dayNight s.clips (t.station a)
  follow : ∀ n, ¬ but n → (s.crossing n).LampsFollow → (t.crossing n).LampsFollow
  idle : ∀ n, (s.crossing n).IdleDark → (t.crossing n).IdleDark
  budget : s.BudgetLaw → t.BudgetLaw

abbrev State.Steady (s t : State) : Prop := State.SteadyBut (fun _ => False) s t

theorem State.Steady.refl (s : State) : s.Steady s :=
  ⟨.refl s, .refl _, fun _ => .refl _ _ _, fun _ _ => id, fun _ => id, id⟩

theorem State.SteadyBut.steady {but : CrossingId → Prop} {s t u : State} (h : State.SteadyBut but s t) (k : t.Steady u) :
    State.SteadyBut but s u where
  toKept := h.toKept.trans k.toKept
  line := h.line.trans k.line
  stations := fun a => (h.stations a).trans (by simpa only [h.tb, h.clips] using k.stations a)
  follow := fun n b => k.follow n id ∘ h.follow n b
  idle := fun n => k.idle n ∘ h.idle n
  budget := k.budget ∘ h.budget

theorem State.Steady.trans {s t u : State} (h : s.Steady t) (k : t.Steady u) : s.Steady u := State.SteadyBut.steady h k

section
variable {s t u : State}

/-- An operation that leaves the stations and the line alone. -/
theorem State.Steady.crossings (h : s.Steady t) (kept : t.Kept u) (link : u.link = t.link)
    (stations : u.stations = t.stations) (follow : ∀ n, (t.crossing n).LampsFollow → (u.crossing n).LampsFollow)
    (idle : ∀ n, (t.crossing n).IdleDark → (u.crossing n).IdleDark) (budget : t.BudgetLaw → u.BudgetLaw) : s.Steady u :=
  h.trans ⟨kept, .inl link, fun a => by rw [State.station, State.station, stations]; exact .refl _ _ _,
    fun n _ => follow n, idle, budget⟩

/-- An operation that leaves the crossings alone. -/
theorem State.Steady.station (h : s.Steady t) (kept : t.Kept u) (line : t.link.SameButAgain u.link)
    (crossings : u.crossings = t.crossings) (limit : u.budgetLimit = t.budgetLimit)
    (stations : ∀ a, (t.station a).Steady t.tb.dayNight t.clips (u.station a)) : s.Steady u := by
  have same (n : CrossingId) : u.crossing n = t.crossing n := by rw [State.crossing, crossings]; rfl
  refine h.trans ⟨kept, line, stations, fun n _ => by rw [same]; exact id, fun n => by rw [same]; exact id,
    fun law => law.congr limit fun n x => ?_⟩
  rw [State.channel, State.channel, same]
  exact .refl _

/-- An operation that changes one station alone. -/
theorem State.Steady.oneStation {a : StationId} (h : s.Steady t) (kept : t.Kept u) (line : t.link.SameButAgain u.link)
    (crossings : u.crossings = t.crossings) (limit : u.budgetLimit = t.budgetLimit)
    (other : ∀ b, b ≠ a → u.station b = t.station b)
    (own : (t.station a).Steady t.tb.dayNight t.clips (u.station a)) : s.Steady u := by
  refine h.station kept line crossings limit fun b => ?_
  by_cases e : b = a
  · exact e ▸ own
  · rw [other b e]; exact .refl _ _ _

theorem State.Steady.forEach {ι : Type} {l : List ι} {f : ι → State → State} (h : s.Steady t)
    (step : ∀ i u, s.Steady u → s.Steady (f i u)) : s.Steady (forEach l f t) :=
  forEach_keeps s.Steady f step l t h

theorem State.Steady.notify {x : Notice} (h : s.Steady t) : s.Steady (t.notify x) :=
  h.crossings (State.Kept.refl t).notify rfl rfl (fun _ => id) (fun _ => id) fun law => law.congr rfl fun _ _ => .refl _

theorem State.Steady.notifyFault {n : CrossingId} (h : s.Steady t) : s.Steady (t.notifyFault n) := h.notify

theorem State.Steady.notifyStation {a : StationId} (h : s.Steady t) : s.Steady (t.notifyStation a) := h.notify

/-- A change of one crossing beside what the budget reads of its channels. -/
theorem State.Steady.setChannels {n : CrossingId} {f : Crossing → Crossing} (h : s.Steady t)
    (follow : (t.crossing n).LampsFollow → (f (t.crossing n)).LampsFollow)
    (idle : (t.crossing n).IdleDark → (f (t.crossing n)).IdleDark)
    (budget : ∀ x, ((t.crossing n).channel x).SameBudget ((f (t.crossing n)).channel x)) :
    s.Steady (t.modCrossing n f) := by
  refine h.crossings (State.Kept.refl t).modCrossing rfl rfl (fun m ok => ?_) (fun m ok => ?_) fun law =>
    law.congr rfl fun m x => ?_
  · by_cases e : m = n
    · subst e; simpa using follow ok
    · simpa [e] using ok
  · by_cases e : m = n
    · subst e; simpa using idle ok
    · simpa [e] using ok
  · by_cases e : m = n
    · subst e; simpa [State.channel] using budget x
    · simp [State.channel, e]; exact .refl _

theorem State.Steady.modCrossing {n : CrossingId} {f : Crossing → Crossing} (h : s.Steady t)
    (same : ∀ c : Crossing, c.SameLamps (f c) := by exact fun _ => ⟨⟨rfl, rfl⟩, rfl⟩) : s.Steady (t.modCrossing n f) :=
  h.setChannels (same _).lampsFollow (same _).idleDark fun x => (same _).channel x ▸ .refl _

/-- R83: crossing n's channels are brought up to date, wherever they stood before. -/
theorem State.SteadyBut.headsUpToDate {n : CrossingId} (h : State.SteadyBut (· = n) s t) : s.Steady (t.headsUpToDate n) where
  toKept := h.toKept.headsUpToDate
  line := h.line
  stations := h.stations
  follow := fun m _ ok => by
    by_cases e : m = n
    · exact e ▸ State.headsUpToDate_lampsFollow t n
    · exact Crossing.SameButApplied.lampsFollow (t.headsUpToDate_other n e) (h.follow m e ok)
  idle := fun m ok => by
    by_cases e : m = n
    · subst e; exact t.headsUpToDate_idleDark m (h.idle m ok)
    · exact Crossing.SameButApplied.idleDark (t.headsUpToDate_other n e) (h.idle m ok)
  budget := fun _ => t.headsUpToDate_budgetLaw n

/-- A change of one crossing that leaves its lamps behind. -/
theorem State.Steady.leaveBehind {n : CrossingId} {f : Crossing → Crossing} (h : s.Steady t)
    (idle : (t.crossing n).IdleDark → (f (t.crossing n)).IdleDark)
    (budget : ∀ x, ((t.crossing n).channel x).SameBudget ((f (t.crossing n)).channel x)) :
    State.SteadyBut (· = n) s (t.modCrossing n f) where
  toKept := h.toKept.modCrossing
  line := h.line
  stations := h.stations
  follow := fun m e ok => by simpa [e] using h.follow m id ok
  idle := fun m ok => by
    by_cases e : m = n
    · subst e; simpa using idle (h.idle m ok)
    · simpa [e] using h.idle m ok
  budget := fun law => (h.budget law).congr rfl fun m x => by
    by_cases e : m = n
    · subst e; simpa [State.channel] using budget x
    · simp [State.channel, e]; exact .refl _

/-- R83: a change of a crossing's interval state, its channels brought up to date at once. -/
theorem State.Steady.switch {n : CrossingId} {f : Crossing → Crossing} (h : s.Steady t)
    (same : ∀ c : Crossing, c.SameChannels (f c) := by exact fun _ => ⟨rfl, rfl⟩) :
    s.Steady ((t.modCrossing n f).headsUpToDate n) :=
  (h.leaveBehind (same _).idleDark fun x => (same _).channel x ▸ .refl _).headsUpToDate

end

end Sys2Proof.Machine
end

section
/-! SUPPORT. The rules of a station's work (R103, R104, R136, R145, R155): urgent lists, settings, levels, PLAYs, needs and
jobs, each with what it makes of its station and that it leaves the others alone. -/

namespace Sys2Proof.Machine

/-! ### Urgent lists (R103) -/

theorem urgentLaw_iff (l : List Urgent) : UrgentLaw l ↔ ∀ b, (l.filter fun v => v.isPlay == b).length ≤ 1 := by
  simp [UrgentLaw, Bool.forall_bool, and_comm]

theorem urgentLaw_nil : UrgentLaw [] := ⟨by decide, by decide⟩

/-- R103: an entry added leaves the entries of the other kind. -/
theorem urgentAdd_filter_other (l : List Urgent) (u : Urgent) {b : Bool} (h : u.isPlay ≠ b) :
    (urgentAdd l u).filter (fun v => v.isPlay == b) = l.filter fun v => v.isPlay == b := by
  unfold urgentAdd
  split
  · rw [List.filter_map]
    have kind : ((fun v => v.isPlay == b) ∘ fun v => if v.isPlay == u.isPlay then u else v) = fun v => v.isPlay == b := by
      funext v
      by_cases e : v.isPlay = u.isPlay <;> simp [e]
    rw [kind]
    refine (List.map_congr_left fun v hv => ?_).trans (List.map_id _)
    have other : v.isPlay = b := by simpa only [beq_iff_eq] using (List.mem_filter.1 hv).2
    simp [other, Ne.symm h]
  · simp [h]

/-- R103: after an entry is added it is the only one of its kind. -/
theorem urgentAdd_filter_same (l : List Urgent) (u : Urgent) (h : UrgentLaw l) :
    (urgentAdd l u).filter (fun v => v.isPlay == u.isPlay) = [u] := by
  have few := (urgentLaw_iff l).1 h u.isPlay
  unfold urgentAdd
  split
  · next some =>
    rw [List.filter_map]
    have kind : ((fun v => v.isPlay == u.isPlay) ∘ fun v => if v.isPlay == u.isPlay then u else v)
        = fun v => v.isPlay == u.isPlay := by
      funext v
      by_cases e : v.isPlay = u.isPlay <;> simp [e]
    rw [kind]
    obtain ⟨x, one⟩ : ∃ x, l.filter (fun v => v.isPlay == u.isPlay) = [x] := by
      refine List.length_eq_one_iff.1 (Nat.le_antisymm few (List.length_pos_iff.2 ?_))
      simpa [List.filter_eq_nil_iff] using some
    have hx : x ∈ l.filter (fun v => v.isPlay == u.isPlay) := one ▸ List.mem_singleton_self x
    replace hx : x.isPlay = u.isPlay := by simpa only [beq_iff_eq] using (List.mem_filter.1 hx).2
    simp [one, hx]
  · next none =>
    have nothing : l.filter (fun v => v.isPlay == u.isPlay) = [] := by simpa [List.filter_eq_nil_iff] using none
    simp [nothing]

/-- R103: at most one PLAY and one ACK, after an entry is added too. -/
theorem UrgentLaw.add {l : List Urgent} (h : UrgentLaw l) (u : Urgent) : UrgentLaw (urgentAdd l u) := by
  refine (urgentLaw_iff _).2 fun b => ?_
  by_cases e : u.isPlay = b
  · subst e; simp [urgentAdd_filter_same l u h]
  · rw [urgentAdd_filter_other l u e]
    exact (urgentLaw_iff l).1 h b

/-- R107: an entry removed leaves no more of either kind. -/
theorem UrgentLaw.remove {l : List Urgent} (h : UrgentLaw l) (play : Bool) : UrgentLaw (urgentRemove l play) := by
  refine (urgentLaw_iff _).2 fun b => Nat.le_trans ?_ ((urgentLaw_iff l).1 h b)
  exact (List.filter_sublist.filter _).length_le

/-! ### Marks -/

section
variable (s : State) (a : StationId) (carries : Item → Bool)

@[simp] theorem State.markAgain_stations : (s.markAgain a carries).stations = s.stations := by rw [s.markAgain_eq]
@[simp] theorem State.markAgain_crossings : (s.markAgain a carries).crossings = s.crossings := by rw [s.markAgain_eq]
@[simp] theorem State.markAgain_street : (s.markAgain a carries).street = s.street := by rw [s.markAgain_eq]
@[simp] theorem State.markAgain_budgetLimit : (s.markAgain a carries).budgetLimit = s.budgetLimit := by rw [s.markAgain_eq]
@[simp] theorem State.markAgain_tb : (s.markAgain a carries).tb = s.tb := by rw [s.markAgain_eq]
@[simp] theorem State.markAgain_station (b : StationId) : (s.markAgain a carries).station b = s.station b := by
  rw [s.markAgain_eq]; rfl

end

/-! ### One station's work -/

section
variable (s : State) (a : StationId)

@[simp] theorem State.queueUrgent_station (u : Urgent) (b : StationId) : (s.queueUrgent a u).station b =
    if b = a then { s.station a with urgent := urgentAdd (s.station a).urgent u } else s.station b := by
  unfold State.queueUrgent
  split <;> simp

@[simp] theorem State.queueUrgent_crossings (u : Urgent) : (s.queueUrgent a u).crossings = s.crossings := by
  unfold State.queueUrgent
  split <;> simp

@[simp] theorem State.queueUrgent_budgetLimit (u : Urgent) : (s.queueUrgent a u).budgetLimit = s.budgetLimit := by
  unfold State.queueUrgent
  split <;> simp

@[simp] theorem State.queueUrgent_street (u : Urgent) : (s.queueUrgent a u).street = s.street := by
  unfold State.queueUrgent
  split <;> simp

theorem State.queueUrgent_link (u : Urgent) : s.link.SameButAgain (s.queueUrgent a u).link := by
  unfold State.queueUrgent
  split
  · exact s.markAgain_link a _
  · exact .refl _

@[simp] theorem State.addSetting_station (x : Setting) (b : StationId) : (s.addSetting a x).station b =
    if b = a then { s.station a with settings := (s.station a).settings.add x } else s.station b := by
  unfold State.addSetting
  split <;> simp

@[simp] theorem State.addSetting_crossings (x : Setting) : (s.addSetting a x).crossings = s.crossings := by
  unfold State.addSetting
  split <;> simp

@[simp] theorem State.addSetting_budgetLimit (x : Setting) : (s.addSetting a x).budgetLimit = s.budgetLimit := by
  unfold State.addSetting
  split <;> simp

@[simp] theorem State.addSetting_street (x : Setting) : (s.addSetting a x).street = s.street := by
  unfold State.addSetting
  split <;> simp

theorem State.addSetting_link (x : Setting) : s.link.SameButAgain (s.addSetting a x).link := by
  unfold State.addSetting
  split
  · exact s.markAgain_link a _
  · exact .refl _

@[simp] theorem State.takeTarget_station (b : StationId) : (s.takeTarget a).station b =
    if b = a then { s.station a with level := s.targetLevel a } else s.station b := by
  simp [State.takeTarget]

@[simp] theorem State.takeTarget_crossings : (s.takeTarget a).crossings = s.crossings := rfl
@[simp] theorem State.takeTarget_budgetLimit : (s.takeTarget a).budgetLimit = s.budgetLimit := rfl
@[simp] theorem State.takeTarget_link : (s.takeTarget a).link = s.link := rfl
@[simp] theorem State.takeTarget_street : (s.takeTarget a).street = s.street := rfl

theorem State.targetLevel_eq {b : Binding} (h : (s.station a).binding = some b) :
    s.targetLevel a = b.settings.target (s.station a).ambient s.tb.dayNight := by
  simp [State.targetLevel, h]

/-- R145, R146: a station whose level was re-evaluated. -/
def State.reevaluated (s : State) (a : StationId) : Station :=
  let t := s.station a
  let moves := s.levelMoves a
  { t with
    level := if moves then s.targetLevel a else t.level
    settings := if moves && s.targetLevel a != t.level && t.controlled then t.settings.add .level else t.settings }

theorem State.reevaluateLevel_station (b : StationId) : (s.reevaluateLevel a).station b =
    if b = a then s.reevaluated a else s.station b := by
  unfold State.reevaluateLevel State.reevaluated
  by_cases moves : s.levelMoves a = true
  · by_cases e : b = a
    · subst e
      by_cases changed : (s.targetLevel b != (s.station b).level && (s.station b).controlled) = true
      · have c : (s.targetLevel b != (s.station b).level
            && ((s.takeTarget b).station b).controlled) = true := by simpa [Station.controlled] using changed
        simp only [moves, c, changed, if_true, Bool.true_and]
        simp
      · have c : ¬ (s.targetLevel b != (s.station b).level
            && ((s.takeTarget b).station b).controlled) = true := by simpa [Station.controlled] using changed
        simp only [moves, c, changed, if_true, Bool.true_and]
        simp
    · simp only [moves, if_true, e, if_false]
      split <;> simp [e]
  · by_cases e : b = a
    · subst e; simp [moves]
    · simp [moves, e]

@[simp] theorem State.reevaluateLevel_crossings : (s.reevaluateLevel a).crossings = s.crossings := by
  unfold State.reevaluateLevel
  dsimp only
  split
  · split <;> simp
  · rfl

@[simp] theorem State.reevaluateLevel_budgetLimit : (s.reevaluateLevel a).budgetLimit = s.budgetLimit := by
  unfold State.reevaluateLevel
  dsimp only
  split
  · split <;> simp
  · rfl

@[simp] theorem State.reevaluateLevel_street : (s.reevaluateLevel a).street = s.street := by
  unfold State.reevaluateLevel
  dsimp only
  split
  · split <;> simp
  · rfl

theorem State.reevaluateLevel_link : s.link.SameButAgain (s.reevaluateLevel a).link := by
  unfold State.reevaluateLevel
  dsimp only
  split
  · split
    · exact State.addSetting_link _ _ _
    · exact .refl _
  · exact .refl _

/-- R103, R136, R145: the PLAY queued to a bound station. -/
theorem State.queuePlayTo_station (c : StationId) : (s.queuePlayTo a).station c =
    if c = a then match (s.station a).binding with
      | none => s.station a
      | some b => (s.station a).played (s.playFor a b (s.crossing b.crossing).state)
    else s.station c := by
  unfold State.queuePlayTo
  cases hb : (s.station a).binding with
  | none => by_cases e : c = a <;> simp [e]
  | some b =>
    by_cases e : c = a
    · subst e
      have level : (s.playFor c b (s.crossing b.crossing).state).level = s.targetLevel c := by
        unfold State.playFor
        cases (s.crossing b.crossing).state <;> rfl
      simp [Station.played, level]
    · simp [e]

@[simp] theorem State.queuePlayTo_crossings : (s.queuePlayTo a).crossings = s.crossings := by
  unfold State.queuePlayTo
  split <;> simp

@[simp] theorem State.queuePlayTo_budgetLimit : (s.queuePlayTo a).budgetLimit = s.budgetLimit := by
  unfold State.queuePlayTo
  split <;> simp

@[simp] theorem State.queuePlayTo_street : (s.queuePlayTo a).street = s.street := by
  unfold State.queuePlayTo
  split <;> simp

theorem State.queuePlayTo_link : s.link.SameButAgain (s.queuePlayTo a).link := by
  unfold State.queuePlayTo
  split
  · exact .refl _
  · exact State.queueUrgent_link _ _ _

/-! ### Needs and jobs (R155, R156) -/

/-- The members of a list, each at its first place only, built from the left. -/
theorem foldl_keepFirst {α : Type} [DecidableEq α] (l acc : List α) :
    l.foldl (fun m k => if m.contains k then m else m ++ [k]) acc = acc ++ (distinct l).filter fun k => !acc.contains k := by
  induction l generalizing acc with
  | nil => simp [distinct]
  | cons x l ih =>
    rw [List.foldl_cons, ih, distinct]
    by_cases h : x ∈ acc
    · have later : (distinct l).filter (fun k => !acc.contains k)
          = ((distinct l).filter (· ≠ x)).filter fun k => !acc.contains k := by
        rw [List.filter_filter]
        refine List.filter_congr fun k _ => ?_
        by_cases e : k = x
        · subst e; simp [h]
        · simp [e]
      rw [if_pos (by simpa using h), List.filter_cons_of_neg (by simp [h]), later]
    · have later : (distinct l).filter (fun k => !(acc ++ [x]).contains k)
          = ((distinct l).filter (· ≠ x)).filter fun k => !acc.contains k := by
        rw [List.filter_filter]
        refine List.filter_congr fun k _ => ?_
        by_cases e : k = x <;> simp [e]
      rw [if_neg (by simpa using h), List.filter_cons_of_pos (by simp [h]), later, List.append_assoc]
      rfl

/-- R155: the clips that a station's plans and settings name, in their order. -/
def State.named (s : State) (b : Binding) : List ClipId :=
  [(s.planValues b.crossing).walkClip, ((s.crossing b.crossing).planned.map fun r => r.plan.walkClip).getD 0,
    b.settings.locateClip].filterMap clipIndex

theorem State.needs_eq {b : Binding} (h : (s.station a).binding = some b) :
    s.needs a = distinct ((s.named b).filter fun k => s.clipValid k && !(s.station a).barred.contains k) := by
  unfold State.needs
  rw [h]
  exact (foldl_keepFirst _ _).trans (by simp [State.named])

theorem State.needs_valid {k : ClipId} (h : k ∈ s.needs a) : (s.clip k).state = .valid := by
  cases hb : (s.station a).binding with
  | none => simp [State.needs, hb] at h
  | some b =>
    rw [s.needs_eq a hb, mem_distinct, List.mem_filter] at h
    have valid := h.2
    simp only [State.clipValid, Bool.and_eq_true, beq_iff_eq] at valid
    exact valid.1

/-- R155, R156: what serving a station's needs can do: nothing, or a job for a VALID clip in a slot. -/
theorem State.serveNeeds_cases : s.serveNeeds a = s
    ∨ ∃ k i, (s.clip k).state = .valid ∧ s.serveNeeds a = s.startJob a k i := by
  unfold State.serveNeeds
  dsimp only
  split
  · exact .inl rfl
  · split
    · exact .inl rfl
    · next k found =>
      split
      · exact .inl rfl
      · next i _ => exact .inr ⟨k, i, s.needs_valid a (List.mem_of_find?_eq_some found), rfl⟩

end

theorem Mirror.put_slot (m : Mirror) (i j : Fin 4) (clip : Nat) (st : MirrorState) :
    (m.put i clip st).slots[j] = if j = i then ⟨clip, st⟩ else m.slots[j] := by
  simp only [Mirror.put, Fin.getElem_fin, Vector.getElem_set]
  by_cases h : j = i
  · simp [h]
  · simp [h, Ne.symm h, Fin.val_inj]

/-- R154: a slot that takes a clip without being RESIDENT keeps the law of the caches. -/
theorem Mirror.put_resident {m : Mirror} {i j : Fin 4} {clip : Nat} {st : MirrorState} (other : st ≠ .resident)
    (h : ((m.put i clip st).slots[j]).state = .resident) : (m.put i clip st).slots[j] = m.slots[j] := by
  rw [Mirror.put_slot] at h ⊢
  split at h
  · exact absurd h other
  · next e => rw [if_neg e]

end Sys2Proof.Machine
end

section
/-! SUPPORT. `State.Steady` of every operation of the Aid Engine, the Head Outputs, the Sequencer, the Call Register and the
station caches, in the order of their definitions. -/

namespace Sys2Proof.Machine

section
variable {s t : State}

theorem State.SteadyBut.owner {but : CrossingId → Prop} (h : State.SteadyBut but s t) (a : StationId) :
    (t.station a).owner = (s.station a).owner := (h.stations a).owner

/-! ### Aids (R103, R136, R145) -/

theorem State.Steady.queueUrgent {a : StationId} {u : Urgent} (h : s.Steady t) (owned : (s.station a).owner = .owned) :
    s.Steady (t.queueUrgent a u) := by
  refine h.oneStation (a := a) (State.Kept.refl t).queueUrgent (t.queueUrgent_link a u) (t.queueUrgent_crossings a u)
    (t.queueUrgent_budgetLimit a u) (fun b e => by simp [e]) (.ofOwned ((h.owner a).trans owned) ?_ ?_ ?_ ?_ ?_)
  · simp
  · simp
  · intro law; simpa using law.add u
  · intro law; simpa [Station.LevelLaw] using law
  · intro law; simpa [Station.CacheLaw] using law

theorem State.Steady.takeTarget {a : StationId} (h : s.Steady t) : s.Steady (t.takeTarget a) := by
  refine h.oneStation (a := a) (State.Kept.refl t).takeTarget (.refl _) rfl rfl (fun b e => by simp [e]) ?_
  rw [State.takeTarget_station, if_pos rfl]
  refine .ofLevel rfl rfl rfl (fun _ => rfl) rfl rfl rfl fun law => law.retarget rfl law.1 law.2.1 fun b hb => .inr ?_
  exact ⟨_, t.targetLevel_eq a hb⟩

theorem State.Steady.reevaluateLevel {a : StationId} (h : s.Steady t) : s.Steady (t.reevaluateLevel a) := by
  refine h.oneStation (a := a) (State.Kept.refl t).reevaluateLevel (t.reevaluateLevel_link a) (t.reevaluateLevel_crossings a)
    (t.reevaluateLevel_budgetLimit a) (fun b e => by simp [State.reevaluateLevel_station, e]) ?_
  rw [State.reevaluateLevel_station, if_pos rfl]
  refine .ofLevel rfl rfl rfl (fun idle => by simp [State.reevaluated, idle]) rfl rfl rfl fun law =>
    law.retarget rfl law.1 law.2.1 fun b hb => ?_
  by_cases moves : t.levelMoves a = true
  · exact .inr ⟨_, by simpa [State.reevaluated, moves] using t.targetLevel_eq a hb⟩
  · exact .inl (by simp [State.reevaluated, moves])

theorem State.Steady.queuePlayTo {a : StationId} (h : s.Steady t) (owned : (s.station a).owner = .owned) :
    s.Steady (t.queuePlayTo a) := by
  unfold State.queuePlayTo
  split
  · exact h
  · exact h.takeTarget.queueUrgent owned

theorem State.Steady.queuePlaysTo {l : List StationId} (h : s.Steady t) (owned : ∀ a ∈ l, (s.station a).owner = .owned) :
    s.Steady (t.queuePlaysTo l) := by
  unfold State.queuePlaysTo Machine.forEach
  induction l generalizing t with
  | nil => exact h
  | cons a l ih => exact ih (h.queuePlayTo (owned a (by simp))) fun b hb => owned b (by simp [hb])

theorem State.ownedAt_owned {a : StationId} {n : CrossingId} (h : a ∈ s.ownedAt n) : (s.station a).owner = .owned := by
  have here := (List.mem_filter.1 h).2
  simp only [Bool.and_eq_true, beq_iff_eq] at here
  exact here.1

theorem State.ownedServing_owned {a : StationId} {n : CrossingId} {ap : Approach} (h : a ∈ s.ownedServing n ap) :
    (s.station a).owner = .owned := by
  have here := (List.mem_filter.1 h).2
  simp only [Bool.and_eq_true, beq_iff_eq] at here
  exact here.1

theorem State.Steady.takeSample {a : StationId} {v : Byte} (h : s.Steady t) : s.Steady (t.takeSample a v) := by
  refine State.Steady.reevaluateLevel (h.oneStation (a := a) (State.Kept.refl t).modStation (.refl _) rfl rfl
    (fun b e => by simp [e]) ?_)
  rw [State.modStation_station, if_pos rfl]
  refine .ofLevel rfl rfl rfl (fun _ => rfl) rfl rfl rfl fun law => ?_
  obtain ⟨low, high⟩ := filtered_range _ v law.1 law.2.1
  exact law.retarget rfl low high fun b _ => .inl rfl

/-! ### Heads (R87, R88, R90, R92) -/

theorem State.Steady.rampAll (h : s.Steady t) : s.Steady t.rampAll := by
  have same (ch : Channel) : ch.SameBudget ch.rampStep := by
    rw [Channel.rampStep_eq]; exact ⟨rfl, rfl, rfl⟩
  refine h.crossings (State.Kept.refl t).rampAll rfl rfl (fun n follow x => ?_) (fun n dark x => ?_) fun law =>
    law.congr rfl fun n x => ?_
  · rw [State.rampAll, State.mapChannels_crossing, Crossing.mapChannels_channel, Channel.rampStep_eq]
    exact follow x
  · rw [State.rampAll, State.mapChannels_crossing, Crossing.mapChannels_channel, Channel.rampStep_eq]
    intro idle
    rw [if_pos idle]
    exact dark x idle
  · rw [State.rampAll, State.mapChannels_channel]
    exact same _

theorem State.Steady.retargetHeads (h : s.Steady t) : s.Steady t.retargetHeads := by
  refine h.crossings (State.Kept.refl t).retargetHeads rfl rfl (fun n follow x => ?_) (fun n dark x => ?_) fun _ =>
    State.rebudget_budgetLaw _
  · simp only [State.retargetHeads, State.rebudget_crossing, State.mapChannels_crossing, Crossing.mapChannels_channel]
    exact follow x
  · simp only [State.retargetHeads, State.rebudget_crossing, State.mapChannels_crossing, Crossing.mapChannels_channel]
    exact dark x

/-- R92: what disabling a channel makes of it and leaves of the other, but for the budget. -/
theorem State.disableChannel_eq (s : State) (n : CrossingId) (x : Aspect) : s.disableChannel n x =
    s.headSet n x fun ch => { ch with enabled := false, inUse := false, actual := 0, applied := 0 } := rfl

theorem State.disableChannel_channel (s : State) (n m : CrossingId) (x y : Aspect) (a : Nat) :
    { (s.disableChannel n x).channel m y with applied := a } =
      { (if m = n ∧ y = x then { s.channel n x with enabled := false, inUse := false, actual := 0, applied := 0 }
        else s.channel m y) with applied := a } := by
  by_cases e : m = n
  · subst e
    rw [s.disableChannel_eq, s.headSet_channel]
    simp
  · have other := ((s.headSet_besideCrossing n x fun ch =>
      { ch with enabled := false, inUse := false, actual := 0, applied := 0 }).2 m e).channel y
    simp only [e, false_and, if_false]
    have same := congrArg (fun ch : Channel => { ch with applied := a }) other
    exact same

theorem State.disableChannel_core (s : State) (n m : CrossingId) (x : Aspect) :
    ((s.disableChannel n x).crossing m).core = (s.crossing m).core := by
  by_cases e : m = n
  · subst e; exact s.headSet_core m x _
  · exact Crossing.SameButApplied.core ((s.headSet_besideCrossing n x _).2 m e)

theorem State.Steady.disableChannel {n : CrossingId} {x : Aspect} (h : s.Steady t) : s.Steady (t.disableChannel n x) := by
  have channel (m : CrossingId) (y : Aspect) := t.disableChannel_channel n m x y 0
  refine h.crossings (State.Kept.refl t).disableChannel rfl rfl (fun m follow y => ?_) (fun m dark y => ?_) fun _ =>
    State.rebudget_budgetLaw _
  · have inUse := congrArg Channel.inUse (channel m y)
    have enabled := congrArg Channel.enabled (channel m y)
    have state := Crossing.state_of_core (t.disableChannel_core n m x)
    change (((t.disableChannel n x).crossing m).channel y).inUse = _ at inUse
    change (((t.disableChannel n x).crossing m).channel y).enabled = _ at enabled
    rw [inUse, enabled, state]
    by_cases e : m = n ∧ y = x
    · simp [e]
    · rw [if_neg e]; exact follow y
  · have inUse := congrArg Channel.inUse (channel m y)
    have actual := congrArg Channel.actual (channel m y)
    change (((t.disableChannel n x).crossing m).channel y).inUse = _ at inUse
    change (((t.disableChannel n x).crossing m).channel y).actual = _ at actual
    rw [inUse, actual]
    by_cases e : m = n ∧ y = x
    · simp [e]
    · rw [if_neg e]; exact dark y

/-! ### Windows and reads (R27, R28, R56) -/

theorem State.Steady.windowEntry {n : CrossingId} (h : s.Steady t) : s.Steady (t.windowEntry n) := by
  have entered := h.modCrossing (n := n) (f := fun c => { c with inWindow := true })
  unfold State.windowEntry
  dsimp only
  split
  · exact entered.notify
  · exact entered

theorem State.Steady.windowExit {n : CrossingId} (h : s.Steady t) : s.Steady (t.windowExit n) := by
  unfold State.windowExit
  refine State.Steady.modCrossing ?_
  split
  · exact h.notify
  · exact h

theorem State.Steady.evaluateWindow {n : CrossingId} (h : s.Steady t) : s.Steady (t.evaluateWindow n) := by
  unfold State.evaluateWindow
  split
  · exact h.windowEntry
  · exact h.windowExit
  · exact h

theorem State.Steady.readActive {n : CrossingId} (h : s.Steady t) : s.Steady (Machine.readActive n t) := by
  unfold Machine.readActive
  dsimp only
  split
  · split
    · exact h
    · exact h.modCrossing
    · exact State.Steady.evaluateWindow h.modCrossing
  · exact h

/-- A checked read that keeps the laws. -/
abbrev PlanRead.Steady (read : PlanRead) : Prop := ∀ n u, State.Steady u (read n u)

theorem readActive_steady : PlanRead.Steady readActive := fun _ u => (State.Steady.refl u).readActive

/-! ### Entries (R65, R67, R78) -/

section
variable {rd : PlanRead} (r : rd.Steady) {n : CrossingId}
include r

theorem State.Steady.read (h : s.Steady t) : s.Steady (rd n t) := h.trans (r n t)

theorem State.Steady.queuePlays (h : s.Steady t) : s.Steady (t.queuePlays rd n) := by
  have done := h.read r (n := n)
  unfold State.queuePlays
  dsimp only
  split
  · exact h
  · split
    · exact done.queuePlaysTo fun a ha => (done.owner a).symm.trans (State.ownedAt_owned ha)
    · exact done

theorem State.Steady.enter {st : IntervalState} (h : s.Steady t) : s.Steady (t.enter rd n st) :=
  by
  unfold State.enter
  exact h.switch.queuePlays r

theorem State.Steady.enterWaiting {st : IntervalState} (h : s.Steady t) : s.Steady (t.enterWaiting rd n st) := by
  unfold State.enterWaiting
  split
  · exact h.modCrossing.enter r
  · exact h.enter r

theorem State.Steady.enterClearance (h : s.Steady t) : s.Steady (t.enterClearance rd n) := by
  have entered := (h.switch (n := n) (f := fun c => { c with
    state := .clearance, walk := c.walk.map fun w => { w with count := w.clearance } })).read r (n := n)
  unfold State.enterClearance
  exact entered.modCrossing.queuePlays r

theorem State.Steady.cancel (h : s.Steady t) : s.Steady (t.cancel rd n) := by
  have same (c : Crossing) : c.SameLamps { c.restored with served := false, walk := none } :=
    ⟨⟨c.restored_sameLamps.walkLamp, c.restored_sameLamps.dontLamp⟩, c.restored_sameLamps.state⟩
  have given := h.modCrossing (n := n) same
  unfold State.cancel
  exact given.enterWaiting r

omit r in
theorem State.Steady.noteTruncation {x : TruncationCause} (h : s.Steady t) : s.Steady (t.noteTruncation n x) := by
  unfold State.noteTruncation
  exact h.modCrossing.notify

theorem State.Steady.truncate {x : TruncationCause} (h : s.Steady t) : s.Steady (t.truncate rd n x) :=
  h.noteTruncation.enterClearance r

theorem State.Steady.addCauseWith {x : Cause} (h : s.Steady t) : s.Steady (Machine.addCauseWith rd n x t) := by
  have added := h.modCrossing (n := n) (f := fun c => { c with causes := c.causes.add x }.retargeted)
  unfold Machine.addCauseWith
  dsimp only
  split
  · exact h
  · split
    · exact added.notifyFault
    · exact added.notifyFault
    · exact added.notifyFault.enterWaiting r
    · exact added.notifyFault.enterWaiting r
    · exact added.notifyFault.cancel r
    · split
      · exact added.noteTruncation.notifyFault.enterClearance r
      · exact added.notifyFault
    all_goals
      split
      · exact (added.notifyFault.modCrossing).enterWaiting r
      · exact added.notifyFault

end

section
variable {n : CrossingId}

theorem State.Steady.checkActive (h : s.Steady t) : s.Steady (Machine.checkActive n t) := by
  unfold Machine.checkActive
  dsimp only
  split
  · exact h.readActive.addCauseWith readActive_steady
  · exact h.readActive

theorem State.Steady.checkPlanned (h : s.Steady t) : s.Steady (Machine.checkPlanned n t) := by
  unfold Machine.checkPlanned
  split
  · exact h
  · split
    · exact h
    · exact h.modCrossing
    · exact h.modCrossing.addCauseWith readActive_steady

theorem checkActive_steady : PlanRead.Steady checkActive := fun _ u => (State.Steady.refl u).checkActive

theorem State.Steady.addCause {x : Cause} (h : s.Steady t) : s.Steady (Machine.addCause n x t) :=
  h.addCauseWith checkActive_steady

/-! ### Ends of intervals and commits (R58, R62, R65, R68, R69) -/

theorem State.Steady.lightWalk (h : s.Steady t) : s.Steady (t.lightWalk n) := by
  unfold State.lightWalk
  split
  · exact h
  · exact (h.switch).notify

theorem State.Steady.endWalk (h : s.Steady t) : s.Steady (t.endWalk n) := h.enterClearance checkActive_steady

theorem State.Steady.releaseWalk (h : s.Steady t) : s.Steady (t.releaseWalk n) := by
  unfold State.releaseWalk
  split
  · exact h
  · have released := h.notify (x := .release n) |>.modCrossing (n := n) (f := fun c => { c with walk := none })
    refine State.Steady.enterWaiting checkActive_steady ?_
    split
    · exact released.notifyFault
    · exact released

theorem State.Steady.endClearance (h : s.Steady t) : s.Steady (t.endClearance n) := by
  unfold State.endClearance
  split
  · exact h
  · split
    · exact h.releaseWalk
    · exact h.modCrossing.enter checkActive_steady

theorem State.Steady.commit {p : Plan} (h : s.Steady t) : s.Steady (t.commit n p) := by
  unfold State.commit
  exact h.modCrossing.enter checkActive_steady

theorem State.Steady.startEvaluation (h : s.Steady t) : s.Steady (t.startEvaluation n) := by
  unfold State.startEvaluation
  dsimp only
  split
  · split
    · exact h.checkActive
    · split
      · exact h.checkActive.commit
      · exact h.checkActive
  · exact h.checkActive

theorem State.Steady.countStage (h : s.Steady t) : s.Steady (t.countStage n) := by
  unfold State.countStage
  split
  · exact h
  · next w _ =>
    have counted := h.modCrossing (n := n) (f := fun c => { c with walk := some { w with count := w.count - 1 } })
    dsimp only
    split
    · split
      · exact h.lightWalk
      · exact counted
    · split
      · exact h.endWalk
      · exact counted
    · split
      · exact h.endClearance
      · exact counted.modCrossing
    · split
      · exact h.releaseWalk
      · exact counted
    · exact h

theorem State.Steady.windowStage (h : s.Steady t) : s.Steady (t.windowStage n) := h.checkActive.evaluateWindow

theorem State.Steady.startStage (h : s.Steady t) : s.Steady (t.startStage n) := by
  unfold State.startStage
  split
  · exact h.startEvaluation
  · exact h

theorem State.Steady.tickCrossing (h : s.Steady t) : s.Steady (t.tickCrossing n) := h.countStage.windowStage.startStage

theorem State.Steady.releaseAtThisTick {was : State} (h : s.Steady t) : s.Steady (State.releaseAtThisTick was n t) := by
  unfold State.releaseAtThisTick
  split
  · exact h.modCrossing
  · exact h

/-! ### Permits, presence, mode and faults (R54, R70, R71, R76, R91) -/

theorem State.Steady.permitFalls (h : s.Steady t) : s.Steady (t.permitFalls n) := by
  unfold State.permitFalls
  split
  · exact h.cancel checkActive_steady
  · exact h.addCause
  · exact h.addCause
  · exact h.addCause
  · exact h

theorem State.Steady.hostLossAt (h : s.Steady t) : s.Steady (t.hostLossAt n) := by
  unfold State.hostLossAt
  split
  · exact h.cancel checkActive_steady
  · exact h.truncate checkActive_steady
  · exact h

theorem State.Steady.settle (h : s.Steady t) : s.Steady (t.settle n) := by
  unfold State.settle
  dsimp only
  split
  · exact h
  · exact h.enterWaiting checkActive_steady

theorem State.Steady.leaveDark (h : s.Steady t) : s.Steady (t.leaveDark n) := by
  have left := h.modCrossing (n := n) (f := fun c => { c with served := c.served || c.inWindow })
  unfold State.leaveDark
  dsimp only
  split
  · exact h
  · refine State.Steady.enterWaiting checkActive_steady ?_
    split
    · exact left.notifyFault
    · exact left

theorem State.Steady.changeMode {m : Mode} (h : s.Steady t) : s.Steady (t.changeMode n m) := by
  have changed := h.modCrossing (n := n) (f := fun c => { c with mode := m }.retargeted)
  unfold State.changeMode
  dsimp only
  split
  · exact changed.leaveDark
  · exact changed.settle
  · exact changed.settle
  · exact changed.settle
  · cases m
    · exact changed.cancel checkActive_steady
    · exact changed
    · exact changed
    · exact changed.cancel checkActive_steady
  · cases m
    · exact changed.truncate checkActive_steady
    · exact changed
    · exact changed
    · exact changed.truncate checkActive_steady
  · exact changed
  · exact changed

/-- R94: a channel enabled again is not yet in use. -/
theorem State.Steady.reenableChannels (h : s.Steady t) : State.SteadyBut (· = n) s (t.reenableChannels n) := by
  refine h.leaveBehind (fun dark x => ?_) fun x => ?_
  · rw [Crossing.mapChannels_channel]
    split
    · exact dark x
    · exact dark x
  · rw [Crossing.mapChannels_channel]
    split <;> exact ⟨rfl, rfl, rfl⟩

/-- R76: once the lamp causes go, the cause set is another, so the channels are brought up to date. -/
theorem State.Steady.clearFault (h : s.Steady t) : s.Steady (t.clearFault n) := by
  have same (c : Crossing) : c.SameLamps { c with causes := c.remainingCauses }.retargeted := ⟨⟨rfl, rfl⟩, rfl⟩
  have read : s.Steady (if (t.crossing n).causes.planMemory then Machine.checkActive n t else t) := by
    split
    · exact h.checkActive
    · exact h
  unfold State.clearFault
  dsimp only
  generalize (if (t.crossing n).causes.planMemory then Machine.checkActive n t else t) = u at read ⊢
  by_cases lamps : ((t.crossing n).causes.walkLamp || (t.crossing n).causes.dontLamp) = true
  · simp only [lamps, if_true]
    split
    · next stays =>
      have walk := congrArg CauseSet.walkLamp stays
      have dont := congrArg CauseSet.dontLamp stays
      simp only [State.modCrossing_crossing, if_true] at walk dont
      rw [← walk, ← dont] at lamps
      exact absurd lamps Bool.false_ne_true
    · refine State.SteadyBut.headsUpToDate ?_
      have cleared := (read.reenableChannels (n := n)).steady
        (((State.Steady.refl (u.reenableChannels n)).modCrossing (n := n) same).notifyFault (n := n))
      split
      · exact cleared.steady (State.Steady.refl _).settle
      · exact cleared
  · have cleared := read.modCrossing (n := n) same
    simp only [lamps, Bool.false_eq_true, if_false]
    split
    · exact cleared
    · split
      · exact cleared.notifyFault.settle
      · exact cleared.notifyFault

theorem State.Steady.failChannel {x : Aspect} (h : s.Steady t) : s.Steady (t.failChannel n x) := h.disableChannel.addCause

/-- A change of a channel's open-detect count. -/
theorem State.Steady.countOpen {x : Aspect} {f : Channel → Nat} (h : s.Steady t) :
    s.Steady (t.modCrossing n fun c => c.modChannel x fun ch => { ch with openCount := f ch }) := by
  refine h.setChannels (fun follow y => ?_) (fun dark y => ?_) fun y => ?_
  · have state : (((t.crossing n)).modChannel x fun ch => { ch with openCount := f ch }).state = (t.crossing n).state :=
      Crossing.state_of_core (Crossing.modChannel_core _ x _)
    rw [Crossing.modChannel_channel, state]
    split
    · next e => exact e ▸ follow x
    · exact follow y
  · rw [Crossing.modChannel_channel]
    split
    · exact dark x
    · exact dark y
  · rw [Crossing.modChannel_channel]
    split
    · next e => exact e ▸ ⟨rfl, rfl, rfl⟩
    · exact .refl _

theorem State.Steady.testChannel {load : Nat} {x : Aspect} (h : s.Steady t) : s.Steady (t.testChannel load n x) := by
  unfold State.testChannel
  dsimp only
  split
  · split
    · split
      · exact h.countOpen.failChannel
      · exact h.countOpen
    · exact h.countOpen
  · exact h

end

/-! ### Calls (R35 to R42, R64, R66) -/

section
variable {n : CrossingId}

theorem State.Steady.placeChanged {ap : Approach} {p : CallSource} (h : s.Steady t) :
    s.Steady (t.placeChanged n ap p) := by
  unfold State.placeChanged
  dsimp only
  split
  · exact h
  · split
    · exact h.checkActive.queuePlaysTo fun a ha =>
        (h.owner a).symm.trans (State.ownedServing_owned (List.mem_filter.1 ha).1)
    · exact h.checkActive

theorem State.Steady.requestAck {a : StationId} {b : Bool} (h : s.Steady t) (owned : (s.station a).owner = .owned) :
    s.Steady (t.requestAck n a b) := by
  unfold State.requestAck
  dsimp only
  split
  · exact h.queueUrgent owned
  · exact h.checkActive.queueUrgent owned

/-- R34: an event's source, where it is a station, is OWNED. -/
def CallEvent.FromOwned (e : CallEvent) (s : State) : Prop := ∀ a, e.source = some a → (s.station a).owner = .owned

variable {e : CallEvent}

theorem State.Steady.registerAs {b : Bool} (h : s.Steady t) (source : e.FromOwned s) : s.Steady (t.registerAs b e) := by
  have placed := h.modCrossing (n := e.crossing) (f := fun c => c.setPlace e.approach
    (some (e.record b t.tb.tickPos ((t.crossing e.crossing).place e.approach)))) fun c => c.setPlace_sameLamps _ _
  unfold State.registerAs
  dsimp only
  generalize (t.modCrossing e.crossing fun c => c.setPlace e.approach
    (some (e.record b t.tb.tickPos ((t.crossing e.crossing).place e.approach)))) = u at placed ⊢
  have noticed (told : Bool) (x : Notice) : s.Steady (if told = true then u.notify x else u) := by
    split
    · exact placed.notify
    · exact placed
  have changed (told created : Bool) (x : Notice) :
      s.Steady (if created = true then (if told = true then u.notify x else u).placeChanged e.crossing e.approach e.source
        else if told = true then u.notify x else u) := by
    split
    · exact (noticed told x).placeChanged
    · exact noticed told x
  split
  · exact changed _ _ _
  · next a from_a =>
    split
    · exact changed _ _ _
    · exact (changed _ _ _).requestAck (source a from_a)

theorem State.Steady.register (h : s.Steady t) (source : e.FromOwned s) : s.Steady (t.register e) := h.registerAs source

theorem State.Steady.registerFailed (h : s.Steady t) (source : e.FromOwned s) : s.Steady (t.registerFailed e) :=
  h.registerAs source

theorem State.Steady.tryJoin {w : Walk} {p : Option Plan} (h : s.Steady t) (source : e.FromOwned s) :
    s.Steady (t.tryJoin e w p) := by
  unfold State.tryJoin
  split
  · exact h.registerFailed source
  · split
    · exact h.modCrossing
    · exact h.registerFailed source

theorem State.Steady.tryExtend {w : Walk} {p : Option Plan} (h : s.Steady t) (source : e.FromOwned s) :
    s.Steady (t.tryExtend e w p) := by
  unfold State.tryExtend
  split
  · exact h.registerFailed source
  · split
    · exact h.registerFailed source
    · split
      · exact State.Steady.notify h.modCrossing
      · exact h.registerFailed source

theorem State.Steady.walkEvent (h : s.Steady t) (source : e.FromOwned s) : s.Steady (t.walkEvent e) := by
  unfold State.walkEvent
  dsimp only
  split
  · exact h.checkActive.tryJoin source
  · exact h.checkActive.tryExtend source
  · exact h.checkActive
  · exact h.checkActive.register source

theorem State.Steady.callEvent (h : s.Steady t) (source : e.FromOwned s) : s.Steady (t.callEvent e) := by
  unfold State.callEvent
  split
  · exact h
  · exact h.register source
  · exact h.register source
  · exact h.register source
  · exact h.register source
  · exact h.register source
  all_goals
    split
    · exact h
    · split
      · exact h.walkEvent source
      · exact h

/-- R32: an OWNED station's press state. -/
theorem State.Steady.setPress {a : StationId} {p : PressState} (h : s.Steady t) (owned : (s.station a).owner = .owned) :
    s.Steady (t.modStation a fun x => { x with press := p }) := by
  refine h.oneStation (a := a) (State.Kept.refl t).modStation (.refl _) rfl rfl (fun b e => by simp [e]) ?_
  rw [State.modStation_station, if_pos rfl]
  exact .ofOwned ((h.owner a).trans owned) rfl rfl id id id

theorem State.Steady.decodePress {a : StationId} {r : PressReport} (h : s.Steady t) (owned : (s.station a).owner = .owned) :
    s.Steady (t.decodePress a r) := by
  unfold State.decodePress
  split
  · exact h
  · dsimp only
    split
    · exact h.setPress owned
    · exact (h.setPress owned).callEvent fun b from_b => by
        obtain rfl : a = b := by simpa using from_b
        exact owned

end

/-! ### Needs, jobs and the swap (R24, R155, R156) -/

theorem State.Steady.startJob {a : StationId} {k : ClipId} {i : Fin 4} (h : s.Steady t)
    (owned : (s.station a).owner = .owned) (valid : (t.clip k).state = .valid) : s.Steady (t.startJob a k i) := by
  refine h.oneStation (a := a) (State.Kept.refl t).startJob (.refl _) rfl rfl (fun b e => by simp [State.startJob, e]) ?_
  have own : (t.startJob a k i).station a = { t.station a with
      mirror := (t.station a).mirror.put i (clipNumber k) .filling
      job := some ⟨i, k, .opening, 0, (t.clip k).blocks, 1⟩ } := by simp [State.startJob]
  rw [own]
  refine .ofOwned ((h.owner a).trans owned) rfl rfl id id fun ⟨slots, _⟩ => ⟨fun j resident => ?_, fun j hj => ?_⟩
  · have same := Mirror.put_resident (by decide) resident
    dsimp only at resident ⊢
    rw [same] at resident ⊢
    exact slots j resident
  · obtain rfl := Option.some.inj hj
    exact valid

theorem State.Steady.serveNeeds {a : StationId} (h : s.Steady t) (owned : (s.station a).owner = .owned) :
    s.Steady (t.serveNeeds a) := by
  obtain e | ⟨k, i, valid, e⟩ := t.serveNeeds_cases a
  · rw [e]; exact h
  · rw [e]; exact h.startJob owned valid

theorem State.Steady.recomputeNeeds {a : StationId} (h : s.Steady t) : s.Steady (t.recomputeNeeds a) := by
  unfold State.recomputeNeeds
  split
  · next owned _ => exact h.checkActive.checkPlanned.serveNeeds ((h.owner a).symm.trans owned)
  · exact h

theorem State.Steady.recomputeAll {l : List StationId} (h : s.Steady t) : s.Steady (t.recomputeAll l) :=
  h.forEach fun _ _ k => k.recomputeNeeds

theorem State.Steady.swapAt {n : CrossingId} (h : s.Steady t) : s.Steady (t.swapAt n) := by
  unfold State.swapAt
  split
  · exact h
  · dsimp only
    split
    · exact h.checkPlanned
    · next r _ =>
      have swapped := (h.checkPlanned (n := n)).modCrossing (n := n) (f := fun c =>
        { c with active := some r, planned := none, unusable := false }) |>.evaluateWindow (n := n)
      split
      · exact swapped.recomputeAll.queuePlays checkActive_steady
      · exact swapped.recomputeAll

theorem State.Steady.swapAll (h : s.Steady t) : s.Steady t.swapAll := h.forEach fun _ _ k => k.swapAt

end

end Sys2Proof.Machine
end

section
/-! SUPPORT. What a step can be: every command, by the operation it runs (`State.Runs`). The laws that steps keep are proved over
these cases, and not over the commands. -/

namespace Sys2Proof.Machine

/-! ### The Street Link's part of the laws -/

/-- R162, R163, R167: `State.NoticesLaw` and `State.ReceptionLaw` speak of the Street Link alone. -/
structure Street.Law (t : Street) : Prop where
  notices : t.notices.length ≤ 32
  body : ∀ l got, t.receiver = .body l got → 4 ≤ l.toNat ∧ l.toNat ≤ 250 ∧ got.length < l.toNat + 2
  reply : t.reply.isSome → t.busy = true

theorem Street.law_iff (s : State) : s.street.Law ↔ s.NoticesLaw ∧ s.ReceptionLaw :=
  ⟨fun ⟨n, b, r⟩ => ⟨n, b, r⟩, fun ⟨n, b, r⟩ => ⟨n, b, r⟩⟩

/-- R162: with the receiver in HUNT no frame is under reception. -/
theorem Street.Law.hunting {t : Street} (h : t.Law) : { t with receiver := .hunt }.Law :=
  ⟨h.notices, fun _ _ e => by simp at e, h.reply⟩

theorem Street.Law.answered {t : Street} (h : t.Law) (cls : FrameClass) (bytes : List Byte) : (t.answered cls bytes).Law :=
  ⟨h.notices, fun _ _ e => by simp [Street.answered] at e, fun _ => rfl⟩

theorem Street.Law.queued {t : Street} (h : t.Law) (n : Notice) : (t.queued n).Law :=
  ⟨t.queued_length n h.notices, by simpa using h.body, by simpa using h.reply⟩

theorem Street.Law.beginReply {t : Street} (h : t.Law) : t.beginReply.Law :=
  ⟨h.notices, h.body, fun e => by simp [Street.beginReply] at e⟩

theorem Street.Law.beginNotice {t : Street} (h : t.Law) : t.beginNotice.Law := by
  unfold Street.beginNotice
  split
  · exact h
  · next n rest e =>
    refine ⟨?_, h.body, h.reply⟩
    have held := h.notices
    rw [e, List.length_cons] at held
    change rest.length ≤ 32
    omega

theorem Street.Law.choose {t : Street} (h : t.Law) : t.choose.Law := by
  unfold Street.choose
  split
  · exact h.beginReply
  · split
    · exact h.beginNotice
    · exact h

/-! ### The requests -/

/-- Table 10-2: the owner of a request kind, with some fields. -/
inductive Owner : Byte → (State → Answer) → Prop
  | sync (cycle pos : Half) (mask day : Byte) : Owner 0x01 (handleSync cycle pos mask day)
  | setPlan (n : Byte) (f : PlanFields) : Owner 0x02 (handleSetPlan n f)
  | setMode (n m : Byte) : Owner 0x03 (handleSetMode n m)
  | clearFault (n : Byte) : Owner 0x04 (handleClearFault n)
  | placeCall (n ap acc : Byte) : Owner 0x05 (handlePlaceCall n ap acc)
  | cancelCall (n ap : Byte) : Owner 0x06 (handleCancelCall n ap)
  | setHead (n x c d e r : Byte) : Owner 0x07 (handleSetHead n x c d e r)
  | bindStation (a n ap : Byte) (f : BindFields) : Owner 0x08 (handleBindStation a n ap f)
  | unbindStation (a : Byte) : Owner 0x09 (handleUnbindStation a)
  | configure : Owner 0x0A handleConfigure
  | unconfigure : Owner 0x0B handleUnconfigure
  | resetKerbLink : Owner 0x0C handleResetKerbLink
  | setPattern (k p c i : Byte) (l : List PointFields) : Owner 0x0D (handleSetPattern k p c i l)
  | clipOpen (k : Byte) (length check : Half) : Owner 0x0E (handleClipOpen k length check)
  | clipData (k : Byte) (offset : Half) (data : List Byte) : Owner 0x0F (handleClipData k offset data)
  | clipClose (k : Byte) : Owner 0x10 (handleClipClose k)
  | clipErase (k : Byte) : Owner 0x11 (handleClipErase k)
  | queryCrossing (n : Byte) : Owner 0x12 (handleQueryCrossing n)
  | queryStation (a : Byte) : Owner 0x13 (handleQueryStation a)
  | queryClip (k : Byte) : Owner 0x14 (handleQueryClip k)
  | queryStartUp : Owner kindQueryStartUp handleQueryStartUp
  | restart : Owner kindRestart handleRestart

/-- The frames of a request kind reach its owner. -/
theorem requestOf_owner {kind : Byte} {p : List Byte} {fits : Bool} {owner : State → Answer}
    (h : requestOf kind p = some (fits, owner)) : Owner kind owner := by
  unfold requestOf at h
  split at h <;> simp only [Option.some.injEq, Prod.mk.injEq, reduceCtorEq] at h
  all_goals
    next e =>
      obtain ⟨-, rfl⟩ := h
      have e' := congrArg (BitVec.ofNat 8) e
      rw [BitVec.ofNat_toNat, BitVec.setWidth_eq] at e'
      subst e'
      constructor

/-! ### The ends of transactions -/

/-- R107: what an OK outcome of a transaction does. -/
inductive Ends (t : Transaction) : (State → State) → Prop
  | poll (r : PollReport) : Ends t fun s => s.pollOk t.station r
  | play (p : Play) : Ends t fun s => s.playDelivered t.station p t.again
  | ack : Ends t fun s => s.ackDelivered t.station t.again
  | setting (x : Setting) : Ends t fun s => s.settingDelivered t.station x t.again
  | opened : Ends t fun s => s.modJob t.station Job.opened
  | blockSent : Ends t fun s => s.modJob t.station Job.blockSent
  | commit (good : Bool) : Ends t fun s => s.commitAnswer t.station good

/-! ### The steps -/

/-- What a step can be: a change of the Street Link alone, an owner's handling of a request, a start of the self-test, a
completed check, a tick, or an event that stands due. -/
inductive State.Runs (s : State) : State → Prop
  | street (f : Street → Street) (keeps : s.street.Law → (f s.street).Law) : s.Runs (s.modStreet f)
  | request {kind : Byte} {owner : State → Answer} (tag : Byte) (o : Owner kind owner) (free : s.street.busy = false)
      (handled : s.handles kind = true) : s.Runs ((owner s.handling).replied kind tag)
  | powerOn : s.Runs { State.reset with startUp := s.startUp.restarted, draws := s.draws, pending := s.pending }
  | selfTest : s.Runs s.selfTestStart
  | check (found : CheckInputs) (awaits : s.startUp.awaits found = true) : s.Runs (s.completeCheck found.check found)
  | tick (i : TickInputs) : s.Runs (s.tick i)
  | hostLost (due : s.tb.presence = .present) : s.Runs s.loseHost
  | leadEnd (n : CrossingId) (due : (s.crossing n).runsOut .starting = true) : s.Runs (s.lightWalk n)
  | walkEnd (n : CrossingId) (due : (s.crossing n).runsOut .walk = true) : s.Runs (s.endWalk n)
  | clearanceEnd (n : CrossingId) (due : (s.crossing n).runsOut .clearance = true) : s.Runs (s.endClearance n)
  | bufferEnd (n : CrossingId) (due : (s.crossing n).runsOut .buffer = true) : s.Runs (s.releaseWalk n)
  | lampOpen (n : CrossingId) (x : Aspect) (due : (s.crossing n).testable x = true) :
      s.Runs ((s.modCrossing n fun c => c.modChannel x fun ch => { ch with openCount := Config.openLimit }).failChannel n x)
  | lampShort (n : CrossingId) (x : Aspect) (due : 0 < s.lampCurrent n x) : s.Runs (s.failChannel n x)
  | beacon (heard : Heard) : s.Runs (s.judgeBeacon heard)
  | retry (heard : Heard) : s.Runs (s.judgeRetry heard)
  | reversion (due : s.link.line = .fault) : s.Runs (s.modLink fun l => { l with faultAge := Config.faultAgeLimit }).lineFaultRevert
  | quietEnd : s.Runs ((s.modLink fun l => { l with quiet := 0 }).takeOverBound true)
  | transaction {onOk : State → State} (t : Transaction) (reply : KerbReply) (carried : s.link.activity = .transaction t)
      (ends : Ends t onOk) : s.Runs (s.endTransaction t reply onOk)

namespace State

variable {s : State}

theorem Runs.idle : s.Runs s := .street id id

theorem Runs.hunting : s.Runs s.received := .street _ Street.Law.hunting

theorem Runs.ite {p : Prop} [Decidable p] {t : State} (h : p → s.Runs t) : s.Runs (if p then t else s) := by
  split
  · next hp => exact h hp
  · exact .idle

/-- A refusal changes the Street Link alone. -/
theorem Runs.refused (kind tag : Byte) (status : Status) : s.Runs ((refuse s.handling status).replied kind tag) :=
  .street (fun t => { t with
    receiver := .hunt, busy := true
    reply := some ⟨if kind = kindRestart ∧ status = .ok then .restartReply else .reply, replyFrame kind tag status []⟩ })
    fun h => h.answered _ _

theorem takeRequest_runs {kind : Byte} {owner : State → Answer} (tag : Byte) (fits : Bool) (o : Owner kind owner) :
    s.Runs (s.takeRequest kind tag fits owner) := by
  unfold takeRequest
  dsimp only
  split
  · exact .hunting
  · next free =>
    split
    · exact .refused kind tag .badLength
    · split
      · exact .refused kind tag .badState
      · next handled => exact .request tag o (Bool.eq_false_of_not_eq_true free) (Bool.eq_true_of_not_eq_false handled)

theorem takeFrame_runs (kind tag : Byte) (payload : List Byte) : s.Runs (s.takeFrame kind tag payload) := by
  unfold takeFrame
  split
  · next h => exact takeRequest_runs tag _ (requestOf_owner h)
  · unfold takeUnknown
    dsimp only
    split
    · exact .hunting
    · exact .refused kind tag .unknownKind

theorem receiveByte_runs (b : Byte) : s.Runs (s.receiveByte b) := by
  unfold receiveByte
  split
  · exact .ite fun _ => .street _ fun h => ⟨h.notices, fun _ _ e => by simp at e, h.reply⟩
  · split
    · next fits =>
      refine .street _ fun h => ⟨h.notices, fun l got e => ?_, h.reply⟩
      simp only [Receiver.body.injEq] at e
      obtain ⟨rfl, rfl⟩ := e
      exact ⟨fits.1, fits.2, by simp⟩
    · exact .hunting
  · next l got r =>
    dsimp only
    split
    · unfold completeFrame
      dsimp only
      split
      · exact takeFrame_runs _ _ _
      · exact .hunting
    · next short =>
      refine .street _ fun h => ⟨h.notices, fun l' got' e => ?_, h.reply⟩
      simp only [Receiver.body.injEq] at e
      obtain ⟨rfl, rfl⟩ := e
      obtain ⟨low, high, -⟩ := h.body l got r
      exact ⟨low, high, by omega⟩

theorem frameSent_runs : s.Runs s.frameSent := by
  unfold frameSent
  split
  · exact .idle
  · split
    · exact .selfTest
    · exact .street _ fun h => Street.Law.choose ⟨h.notices, h.body, h.reply⟩

theorem onTransaction_runs {carries : Item → Bool} {reply : KerbReply} {onOk : Transaction → State → State}
    (ends : ∀ t, carries t.item = true → Ends t (onOk t)) :
    s.Runs (s.onTransaction carries fun t => s.endTransaction t reply (onOk t)) := by
  unfold onTransaction
  split
  · next t carried => exact .ite fun h => .transaction t reply carried (ends t h)
  · exact .idle

end State

theorem runs_of_next {s t u : State} (h : (Host.Outcome.next u : Result) = .next t) (r : s.Runs u) : s.Runs t := by
  cases h
  exact r

/-- Every command runs one of the operations of `State.Runs`. -/
theorem exec_runs {i : Instr} {s t : State} (h : exec i s = .next t) : s.Runs t := by
  cases i with
  | powerOn => exact runs_of_next h .powerOn
  | selfTestStart =>
    refine runs_of_next h ?_
    split
    · exact .selfTest
    · exact .idle
  | selfTestCheckComplete found => exact runs_of_next h (.ite fun awaits => .check found awaits)
  | tick i => exact runs_of_next h (.tick i)
  | hostLost => exact runs_of_next h (.ite fun due => .hostLost due.1)
  | leadEnd n => exact runs_of_next h (.ite fun due => .leadEnd n due)
  | walkEnd n => exact runs_of_next h (.ite fun due => .walkEnd n due)
  | clearanceEnd n => exact runs_of_next h (.ite fun due => .clearanceEnd n due)
  | bufferEnd n => exact runs_of_next h (.ite fun due => .bufferEnd n due)
  | lampOpenDetected n x => exact runs_of_next h (.ite fun due => .lampOpen n x due.1)
  | lampShortSensed n x => exact runs_of_next h (.ite fun due => .lampShort n x due)
  | beaconCheck heard =>
    refine runs_of_next h ?_
    split
    · exact .beacon heard
    · exact .retry heard
    · exact .idle
  | beaconRetry heard =>
    refine runs_of_next h ?_
    split
    · exact .retry heard
    · exact .idle
  | lineFaultReversion => exact runs_of_next h (.ite fun due => .reversion due.1)
  | quietPeriodEnd => exact runs_of_next h (.ite fun _ => .quietEnd)
  | poll reply => exact runs_of_next h (State.onTransaction_runs fun t _ => .poll _)
  | playTransaction reply =>
    refine runs_of_next h (State.onTransaction_runs fun t carries => ?_)
    cases e : t.item <;> simp only [e, Item.isPlay, Bool.false_eq_true] at carries
    exact .play _
  | ackTransaction reply => exact runs_of_next h (State.onTransaction_runs fun t _ => .ack)
  | setLevelTransaction reply => exact runs_of_next h (State.onTransaction_runs fun t _ => .setting .level)
  | configTransaction reply => exact runs_of_next h (State.onTransaction_runs fun t _ => .setting .config)
  | patternTransaction reply =>
    refine runs_of_next h (State.onTransaction_runs fun t carries => ?_)
    cases e : t.item <;> simp only [e, Item.isPattern, Bool.false_eq_true] at carries
    exact .setting _
  | takeOverTransaction reply => exact runs_of_next h (State.onTransaction_runs fun t _ => .setting .takeOver)
  | slotOpenTransaction reply => exact runs_of_next h (State.onTransaction_runs fun t _ => .opened)
  | blockTransaction reply => exact runs_of_next h (State.onTransaction_runs fun t _ => .blockSent)
  | slotCommitTransaction reply => exact runs_of_next h (State.onTransaction_runs fun t _ => .commit _)
  | sync tag c p m d => exact runs_of_next h (State.takeRequest_runs tag true (.sync c p m d))
  | setPlan tag n f => exact runs_of_next h (State.takeRequest_runs tag true (.setPlan n f))
  | setMode tag n m => exact runs_of_next h (State.takeRequest_runs tag true (.setMode n m))
  | clearFault tag n => exact runs_of_next h (State.takeRequest_runs tag true (.clearFault n))
  | placeCall tag n ap acc => exact runs_of_next h (State.takeRequest_runs tag true (.placeCall n ap acc))
  | cancelCall tag n ap => exact runs_of_next h (State.takeRequest_runs tag true (.cancelCall n ap))
  | setHead tag n x c d e r => exact runs_of_next h (State.takeRequest_runs tag true (.setHead n x c d e r))
  | bindStation tag a n ap f => exact runs_of_next h (State.takeRequest_runs tag true (.bindStation a n ap f))
  | unbindStation tag a => exact runs_of_next h (State.takeRequest_runs tag true (.unbindStation a))
  | configure tag => exact runs_of_next h (State.takeRequest_runs tag true .configure)
  | unconfigure tag => exact runs_of_next h (State.takeRequest_runs tag true .unconfigure)
  | resetKerbLink tag => exact runs_of_next h (State.takeRequest_runs tag true .resetKerbLink)
  | setPattern tag k p c i l => exact runs_of_next h (State.takeRequest_runs tag true (.setPattern k p c i l))
  | clipOpen tag k l c => exact runs_of_next h (State.takeRequest_runs tag true (.clipOpen k l c))
  | clipData tag k o d => exact runs_of_next h (State.takeRequest_runs tag _ (.clipData k o d))
  | clipClose tag k => exact runs_of_next h (State.takeRequest_runs tag true (.clipClose k))
  | clipErase tag k => exact runs_of_next h (State.takeRequest_runs tag true (.clipErase k))
  | queryCrossing tag n => exact runs_of_next h (State.takeRequest_runs tag true (.queryCrossing n))
  | queryStation tag a => exact runs_of_next h (State.takeRequest_runs tag true (.queryStation a))
  | queryClip tag k => exact runs_of_next h (State.takeRequest_runs tag true (.queryClip k))
  | queryStartUp tag => exact runs_of_next h (State.takeRequest_runs tag true .queryStartUp)
  | restart tag => exact runs_of_next h (State.takeRequest_runs tag true .restart)
  | unknownKind kind tag payload => exact runs_of_next h (State.takeFrame_runs kind tag payload)
  | requestWhileBusy => exact runs_of_next h (.ite fun _ => .hunting)
  | badCrcFrame => exact runs_of_next h .hunting
  | byteGapTimeout =>
    refine runs_of_next h ?_
    split
    · exact .idle
    all_goals exact .hunting
  | framingError =>
    refine runs_of_next h ?_
    split
    · exact .idle
    all_goals exact .hunting
  | replyBegin => exact runs_of_next h (.ite fun _ => .street _ Street.Law.beginReply)
  | noticeBegin => exact runs_of_next h (.ite fun _ => .street _ Street.Law.beginNotice)
  | frameSent => exact runs_of_next h State.frameSent_runs
  | streetLinkByteReceived b => exact runs_of_next h (State.receiveByte_runs b)

/-- A step is a run of the state, but for the queue of the waiting commands. -/
theorem step_runs {s t : State} (h : step s = .next t) : ∃ q, { s with pending := q }.Runs t := by
  unfold step at h
  split at h
  · next e =>
    refine ⟨[], runs_of_next h ?_⟩
    rw [← e]
    exact .idle
  · exact ⟨_, exec_runs h⟩

end Sys2Proof.Machine
end

section
/-! SUPPORT. The operations of the Station Table (spec 07): what each makes of its station, and what it leaves alone. -/

namespace Sys2Proof.Machine

/-- What an operation on stations keeps: the crossings and all that `State.Kept` names, and the line but for outcomes that are
discarded. -/
structure State.StationsOnly (s t : State) : Prop extends s.Kept t where
  crossings : t.crossings = s.crossings
  limit : t.budgetLimit = s.budgetLimit
  discard : s.link.SameButDiscard t.link

theorem State.StationsOnly.refl (s : State) : s.StationsOnly s := ⟨.refl s, rfl, rfl, .refl _⟩

theorem State.StationsOnly.trans {s t u : State} (h : s.StationsOnly t) (k : t.StationsOnly u) : s.StationsOnly u :=
  ⟨h.toKept.trans k.toKept, k.crossings.trans h.crossings, k.limit.trans h.limit, h.discard.trans k.discard⟩

theorem State.StationsOnly.crossing {s t : State} (h : s.StationsOnly t) (n : CrossingId) : t.crossing n = s.crossing n := by
  rw [State.crossing, h.crossings]; rfl

theorem State.StationsOnly.besideStations {s t : State} (h : s.StationsOnly t) : s.BesideStations t :=
  ⟨h.tb, h.crossings, h.limit, h.patterns, h.libraryEnabled, h.clips, h.startUp, h.draws, h.pending⟩

section
variable {s t : State} {a : StationId}

theorem State.StationsOnly.modStation {f : Station → Station} (h : s.StationsOnly t) : s.StationsOnly (t.modStation a f) :=
  ⟨h.toKept.modStation, h.crossings, h.limit, h.discard⟩

theorem State.StationsOnly.notifyStation (h : s.StationsOnly t) : s.StationsOnly (t.notifyStation a) :=
  ⟨h.toKept.notifyStation, h.crossings, h.limit, h.discard⟩

theorem State.StationsOnly.forEach {ι : Type} {l : List ι} {f : ι → State → State} (h : s.StationsOnly t)
    (step : ∀ i u, s.StationsOnly u → s.StationsOnly (f i u)) : s.StationsOnly (forEach l f t) :=
  forEach_keeps s.StationsOnly f step l t h

theorem State.StationsOnly.discardOutcome {c : Item → Bool} (h : s.StationsOnly t) : s.StationsOnly (t.discardOutcome a c) := by
  have same := t.discardOutcome_eq a c
  exact ⟨h.toKept.discardOutcome, (congrArg State.crossings same).trans h.crossings,
    (congrArg State.budgetLimit same).trans h.limit, h.discard.trans (t.discardOutcome_link a c)⟩

theorem State.StationsOnly.clearWork (h : s.StationsOnly t) : s.StationsOnly (t.clearWork a) := h.discardOutcome.modStation

theorem State.StationsOnly.dropControl (h : s.StationsOnly t) : s.StationsOnly (t.dropControl a) := h.clearWork.modStation

theorem State.StationsOnly.toLocal (h : s.StationsOnly t) : s.StationsOnly (t.toLocal a) := h.dropControl.modStation

theorem State.StationsOnly.revert (h : s.StationsOnly t) : s.StationsOnly (t.revert a) := by
  unfold State.revert
  split
  · exact h.toLocal
  · exact h

theorem State.StationsOnly.enterTaking (h : s.StationsOnly t) : s.StationsOnly (t.enterTaking a) := h.dropControl.modStation

theorem State.StationsOnly.takeOverAt {tell : Bool} (h : s.StationsOnly t) : s.StationsOnly (State.takeOverAt tell a t) := by
  unfold State.takeOverAt
  split
  · dsimp only
    split
    · exact h.enterTaking.notifyStation
    · exact h.enterTaking
  · exact h

theorem State.StationsOnly.takeOverBound {tell : Bool} (h : s.StationsOnly t) : s.StationsOnly (State.takeOverBound tell t) := by
  unfold State.takeOverBound
  split
  · exact h.forEach fun _ _ k => k.takeOverAt
  · exact h

theorem State.StationsOnly.takeOrLeave (h : s.StationsOnly t) : s.StationsOnly (t.takeOrLeave a) := by
  unfold State.takeOrLeave
  split
  · exact h.enterTaking
  · exact h.modStation

theorem State.StationsOnly.becomeLost (h : s.StationsOnly t) : s.StationsOnly (t.becomeLost a) :=
  h.dropControl.modStation.notifyStation

theorem State.StationsOnly.countFailure (h : s.StationsOnly t) : s.StationsOnly (t.countFailure a) := by
  unfold State.countFailure
  split
  · split
    · exact h.becomeLost
    · exact h.modStation
  · exact h

theorem State.StationsOnly.lineFaultRevert (h : s.StationsOnly t) : s.StationsOnly t.lineFaultRevert := by
  unfold State.lineFaultRevert
  refine h.forEach fun a u k => ?_
  split
  · exact k.toLocal.notifyStation
  · exact k

theorem State.StationsOnly.kerbResetAt (h : s.StationsOnly t) : s.StationsOnly (t.kerbResetAt a) := by
  unfold State.kerbResetAt
  split
  · exact h.toLocal
  · exact h.dropControl

theorem State.StationsOnly.takeReport {r : PollReport} (h : s.StationsOnly t) : s.StationsOnly (t.takeReport a r) := by
  unfold State.takeReport
  dsimp only
  split
  · exact h.modStation.notifyStation
  · exact h.modStation

theorem State.StationsOnly.clearFailures (h : s.StationsOnly t) : s.StationsOnly (t.clearFailures a) := h.modStation

end

/-! ### What each makes of its station -/

section
variable (s : State) (a b : StationId)

@[simp] theorem State.discardOutcome_station (c : Item → Bool) : (s.discardOutcome a c).station b = s.station b := by
  rw [s.discardOutcome_eq]; rfl

@[simp] theorem State.discardOutcome_street (c : Item → Bool) : (s.discardOutcome a c).street = s.street := by
  rw [s.discardOutcome_eq]

/-- R108: a station without its work. -/
def Station.workless (t : Station) : Station := { t with urgent := [], settings := {}, job := none }

@[simp] theorem State.clearWork_station : (s.clearWork a).station b = if b = a then (s.station a).workless else s.station b := by
  simp [State.clearWork, Station.workless]

@[simp] theorem State.clearWork_street : (s.clearWork a).street = s.street := by simp [State.clearWork]

@[simp] theorem State.dropControl_station : (s.dropControl a).station b = if b = a then (s.station a).stripped else s.station b := by
  by_cases h : b = a <;> simp [State.dropControl, Station.workless, Station.stripped, h]

@[simp] theorem State.dropControl_street : (s.dropControl a).street = s.street := by simp [State.dropControl]

@[simp] theorem State.toLocal_station : (s.toLocal a).station b = if b = a then (s.station a).wentLocal else s.station b := by
  by_cases h : b = a <;> simp [State.toLocal, Station.wentLocal, Station.stripped, h]

@[simp] theorem State.toLocal_street : (s.toLocal a).street = s.street := by simp [State.toLocal]

@[simp] theorem State.revert_station : (s.revert a).station b =
    if b = a ∧ (s.station a).partHeld = true then (s.station a).wentLocal else s.station b := by
  unfold State.revert
  by_cases held : (s.station a).partHeld = true <;> simp [held]

@[simp] theorem State.revert_street : (s.revert a).street = s.street := by
  unfold State.revert
  split <;> simp

@[simp] theorem State.enterTaking_station : (s.enterTaking a).station b =
    if b = a then (s.station a).taken s.takeOverSet else s.station b := by
  by_cases h : b = a <;> simp [State.enterTaking, Station.taken, Station.stripped, h]

@[simp] theorem State.enterTaking_street : (s.enterTaking a).street = s.street := by simp [State.enterTaking]

theorem State.takeOverAt_station (tell : Bool) : (State.takeOverAt tell a s).station b =
    if b = a ∧ (s.station a).owner = .local ∧ (s.station a).binding.isSome then (s.station a).taken s.takeOverSet
    else s.station b := by
  unfold State.takeOverAt
  by_cases due : (s.station a).owner = .local ∧ (s.station a).binding.isSome = true
  · by_cases tells : (tell && (s.station a).clipFault) = true <;> simp [due, tells]
  · simp [due]

theorem State.takeOverAt_street (tell : Bool) : (State.takeOverAt tell a s).street =
    if (s.station a).owner = .local ∧ (s.station a).binding.isSome ∧ tell = true ∧ (s.station a).clipFault = true then
      s.street.queued (.station a .taking (s.station a).speaker (s.station a).tactile (s.station a).mic false)
    else s.street := by
  unfold State.takeOverAt
  by_cases due : (s.station a).owner = .local ∧ (s.station a).binding.isSome = true
  · by_cases tells : tell = true ∧ (s.station a).clipFault = true
    · simp [due, tells, State.notifyStation_street, Station.notice, Station.taken]
    · have quiet : (tell && (s.station a).clipFault) = false := by simpa using tells
      simp [due, quiet, tells]
  · have other : ¬ ((s.station a).owner = .local ∧ (s.station a).binding.isSome ∧ tell = true ∧ (s.station a).clipFault = true) :=
      fun ⟨o, bound, _⟩ => due ⟨o, bound⟩
    rw [if_neg due, if_neg other]

@[simp] theorem State.becomeLost_station : (s.becomeLost a).station b = if b = a then (s.station a).gone else s.station b := by
  by_cases h : b = a <;> simp [State.becomeLost, Station.gone, Station.stripped, h, Config.failureLimit]

theorem State.becomeLost_street : (s.becomeLost a).street = s.street.queued ((s.station a).gone.notice a) := by
  simp [State.becomeLost, State.notifyStation_street, Station.gone, Station.stripped, Config.failureLimit]

theorem State.countFailure_station : (s.countFailure a).station b =
    if b = a ∧ (s.station a).controlled = true then
      if 3 ≤ (s.station a).failures + 1 then (s.station a).gone
      else { s.station a with failures := (s.station a).failures + 1 }
    else s.station b := by
  unfold State.countFailure
  by_cases c : (s.station a).controlled = true
  · by_cases third : 3 ≤ (s.station a).failures + 1 <;> simp [c, third, Config.failureLimit]
  · simp [c]

@[simp] theorem State.takeReport_station (r : PollReport) : (s.takeReport a r).station b =
    if b = a then (s.station a).report r else s.station b := by
  unfold State.takeReport
  dsimp only
  split <;> simp

theorem State.takeReport_street (r : PollReport) : (s.takeReport a r).street =
    if (s.station a).flagsChange r = true then s.street.queued (((s.station a).report r).notice a) else s.street := by
  unfold State.takeReport
  dsimp only
  split <;> simp [State.notifyStation_street]

@[simp] theorem State.kerbResetAt_station : (s.kerbResetAt a).station b =
    if b = a then if (s.station a).binding.isSome then (s.station a).wentLocal else (s.station a).stripped else s.station b := by
  unfold State.kerbResetAt
  by_cases bound : (s.station a).binding.isSome = true <;> simp [bound]

@[simp] theorem State.kerbResetAt_street : (s.kerbResetAt a).street = s.street := by
  unfold State.kerbResetAt
  split <;> simp

end

/-- What a change made for each address makes of a station, where the change reads of the state only what `P` fixes. -/
theorem forEach_station_of {P : State → Prop} {f : StationId → State → State} {g : StationId → Station → Station}
    (keeps : ∀ a s, P s → P (f a s)) (own : ∀ a s, P s → (f a s).station a = g a (s.station a))
    (other : ∀ a b s, b ≠ a → (f a s).station b = s.station b) :
    ∀ (l : List StationId) (s : State) (b : StationId), l.Nodup → P s →
      (forEach l f s).station b = if b ∈ l then g b (s.station b) else s.station b := by
  intro l
  induction l with
  | nil => intro s b _ _; simp [forEach]
  | cons a l ih =>
    intro s b hd hp
    obtain ⟨fresh, hd'⟩ := List.nodup_cons.mp hd
    have rest := ih (f a s) b hd' (keeps a s hp)
    simp only [forEach, List.foldl_cons] at rest ⊢
    rw [rest]
    by_cases e : b = a
    · subst e; simp [fresh, own b s hp]
    · simp [e, other a b s e]

theorem State.takeOverSet_kept {s t : State} (h : s.Kept t) : t.takeOverSet = s.takeOverSet := by
  unfold State.takeOverSet
  rw [h.patterns]

/-- R121, R123: every bound LOCAL station is taken over while CONFIGURED is set and the link is ready. -/
theorem State.takeOverBound_station (s : State) (tell : Bool) (a : StationId) [Decidable (s.TakesOver a)] :
    (State.takeOverBound tell s).station a = if s.TakesOver a then (s.station a).taken s.takeOverSet else s.station a := by
  unfold State.takeOverBound
  by_cases ready : (s.configured && s.linkReady) = true
  · rw [if_pos ready, forEach_station_of (P := s.StationsOnly)
      (g := fun a t => if t.owner = .local ∧ t.binding.isSome then t.taken s.takeOverSet else t)
      (fun a u k => k.takeOverAt) (fun a u k => by simp [State.takeOverAt_station, State.takeOverSet_kept k.toKept])
      (fun a b u e => by simp [State.takeOverAt_station, e]) _ _ _ nodup_allStations (.refl s), if_pos (mem_allStations a)]
    obtain ⟨conf, up, quiet⟩ : s.configured = true ∧ s.link.line = .up ∧ s.link.quiet = 0 := by
      simpa [State.linkReady] using ready
    simp [State.TakesOver, conf, up, quiet]
  · rw [if_neg ready, if_neg]
    rintro ⟨conf, up, quiet, -⟩
    exact ready (by simp [State.linkReady, conf, up, quiet])

/-- R111, R128: every station the part holds goes LOCAL. -/
theorem State.lineFaultRevert_station (s : State) (a : StationId) : s.lineFaultRevert.station a =
    if (s.station a).partHeld = true then (s.station a).wentLocal else s.station a := by
  unfold State.lineFaultRevert
  rw [forEach_station _ (fun _ t => if t.partHeld = true then t.wentLocal else t)
    (fun a u => by by_cases held : (u.station a).partHeld = true <;> simp [held])
    (fun a b u e => by by_cases held : (u.station a).partHeld = true <;> simp [held, e]) _ _ _ nodup_allStations,
    if_pos (mem_allStations a)]

/-- R112: the kerb reset at every station. -/
theorem State.kerbReset_station (s : State) (a : StationId) : s.kerbReset.station a =
    if (s.station a).binding.isSome then (s.station a).wentLocal else (s.station a).stripped := by
  unfold State.kerbReset
  rw [State.modLink_station, forEach_station _ (fun _ t => if t.binding.isSome then t.wentLocal else t.stripped)
    (fun a u => by simp) (fun a b u e => by simp [e]) _ _ _ nodup_allStations, if_pos (mem_allStations a)]

end Sys2Proof.Machine
end

section
/-! SUPPORT. The laws of the stations, of the channels and of the budget through every operation: the relation
`State.KeepsLaws`. -/

namespace Sys2Proof.Machine

/-- Each law of the stations (`ControlLaw`, `LevelLaw`, `ResidentLaw`) and of the head outputs (`LampLaw`, `BudgetLaw`) is
kept from one state to another. -/
structure State.KeepsLaws (s t : State) : Prop where
  control : s.ControlLaw → t.ControlLaw
  level : s.LevelLaw → t.LevelLaw
  resident : s.ResidentLaw → t.ResidentLaw
  lamp : s.LampLaw → t.LampLaw
  budget : s.BudgetLaw → t.BudgetLaw

theorem State.KeepsLaws.refl (s : State) : s.KeepsLaws s := ⟨id, id, id, id, id⟩

theorem State.KeepsLaws.trans {s t u : State} (h : s.KeepsLaws t) (k : t.KeepsLaws u) : s.KeepsLaws u :=
  ⟨k.control ∘ h.control, k.level ∘ h.level, k.resident ∘ h.resident, k.lamp ∘ h.lamp, k.budget ∘ h.budget⟩

/-! ### The laws, station by station -/

/-- R123: one station's part of `State.ControlLaw`. -/
def Station.ControlLaw (configured : Bool) (t : Station) : Prop :=
  t.WorkLaw ∧ (t.partHeld = true → t.binding.isSome ∧ configured = true)

theorem State.controlLaw_iff (s : State) : s.ControlLaw ↔ ∀ a, (s.station a).ControlLaw s.configured :=
  forall_congr' fun _ => ⟨fun ⟨u, held, idle, press⟩ => ⟨⟨u, idle, press⟩, held⟩,
    fun ⟨⟨u, idle, press⟩, held⟩ => ⟨u, held, idle, press⟩⟩

theorem State.levelLaw_iff (s : State) : s.LevelLaw ↔ ∀ a, (s.station a).LevelLaw s.tb.dayNight := Iff.rfl

theorem State.residentLaw_iff (s : State) : s.ResidentLaw ↔
    ∀ a, (s.station a).CacheLaw s.clips ∧ (s.startUp.operating ≠ .running → (s.station a).Vacant) :=
  ⟨fun ⟨slots, jobs, vacant⟩ a => ⟨⟨slots a, jobs a⟩, fun h => vacant h a⟩,
    fun h => ⟨fun a => (h a).1.1, fun a => (h a).1.2, fun o a => (h a).2 o⟩⟩

/-- One station before and after an event of the part: it keeps the laws of the stations. -/
structure Station.Lawful (configured : Bool) (d : DayNight) (clips : Vector Clip 64) (o : OperatingState) (t u : Station) :
    Prop where
  control : t.ControlLaw configured → u.ControlLaw configured
  level : t.LevelLaw d → u.LevelLaw d
  cache : t.CacheLaw clips → u.CacheLaw clips
  vacant : o ≠ .running → t.Vacant → u.Vacant

/-- A station of this part before and after. -/
abbrev State.Suits (s : State) (t u : Station) : Prop :=
  t.Lawful s.configured s.tb.dayNight s.clips s.startUp.operating u

theorem State.Suits.refl (s : State) (t : Station) : s.Suits t t := ⟨id, id, id, fun _ => id⟩

theorem Station.Steady.suits {s : State} {t u : Station} (h : t.Steady s.tb.dayNight s.clips u) : s.Suits t u where
  control := fun ⟨work, held⟩ => ⟨h.work work, fun p => by
    rw [h.binding]
    refine held ?_
    rw [← p, Station.partHeld, Station.partHeld, h.owner]⟩
  level := h.level
  cache := h.cache
  vacant := fun _ => h.vacant

theorem State.KeepsLaws.ofStations {s t : State} (kept : s.Kept t)
    (own : ∀ a, s.Suits (s.station a) (t.station a)) (lamp : s.LampLaw → t.LampLaw) (budget : s.BudgetLaw → t.BudgetLaw) :
    s.KeepsLaws t where
  control := fun law => by
    rw [State.controlLaw_iff] at law ⊢
    rw [kept.configured]
    exact fun a => (own a).control (law a)
  level := fun law a => by
    rw [kept.tb]
    exact (own a).level (law a)
  resident := fun law => by
    rw [State.residentLaw_iff] at law ⊢
    rw [kept.clips, kept.startUp]
    exact fun a => ⟨(own a).cache (law a).1, fun o => (own a).vacant o ((law a).2 o)⟩
  lamp := lamp
  budget := budget

theorem State.StationsOnly.keepsLaws {s t : State} (h : s.StationsOnly t)
    (own : ∀ a, s.Suits (s.station a) (t.station a)) : s.KeepsLaws t := by
  refine .ofStations h.toKept own (fun law n => ?_) fun law => law.congr h.limit fun n x => ?_
  · simpa only [State.channel, h.crossing] using law n
  · rw [State.channel, State.channel, h.crossing]
    exact .refl _

/-- An operation on one station. -/
theorem State.StationsOnly.keepsLaws_one {s t : State} {a : StationId} (h : s.StationsOnly t)
    (other : ∀ b, b ≠ a → t.station b = s.station b) (own : s.Suits (s.station a) (t.station a)) : s.KeepsLaws t :=
  h.keepsLaws fun b => by
    by_cases e : b = a
    · exact e ▸ own
    · rw [other b e]
      exact .refl _ _

theorem State.Steady.keepsLaws {s t : State} (h : s.Steady t) : s.KeepsLaws t :=
  .ofStations h.toKept (fun a => (h.stations a).suits)
    (fun law n => ⟨h.follow n id (law n).1, h.idle n (law n).2⟩) h.budget

section
variable {s t : State}

theorem State.KeepsLaws.steady {u : State} (h : s.KeepsLaws t) (k : t.Steady u) : s.KeepsLaws u := h.trans k.keepsLaws

theorem State.KeepsLaws.modLink {f : Link → Link} (h : s.KeepsLaws t) : s.KeepsLaws (t.modLink f) :=
  h.trans ⟨id, id, id, id, id⟩

theorem State.KeepsLaws.modStreet {f : Street → Street} (h : s.KeepsLaws t) : s.KeepsLaws (t.modStreet f) :=
  h.trans ⟨id, id, id, id, id⟩

theorem State.KeepsLaws.notify {x : Notice} (h : s.KeepsLaws t) : s.KeepsLaws (t.notify x) := h.modStreet

theorem State.KeepsLaws.notifyStation {a : StationId} (h : s.KeepsLaws t) : s.KeepsLaws (t.notifyStation a) := h.notify

theorem State.KeepsLaws.withDraws {d : Nat} (h : s.KeepsLaws t) : s.KeepsLaws { t with draws := d } :=
  h.trans ⟨id, id, id, id, id⟩

theorem State.KeepsLaws.withLink {l : Link} (h : s.KeepsLaws t) : s.KeepsLaws { t with link := l } :=
  h.trans ⟨id, id, id, id, id⟩

theorem State.KeepsLaws.withPatterns {p : Vector (Option Pattern) 16} (h : s.KeepsLaws t) :
    s.KeepsLaws { t with patterns := p } :=
  h.trans ⟨id, id, id, id, id⟩

theorem State.KeepsLaws.modTimebase {f : Timebase → Timebase} (h : s.KeepsLaws t) (same : (f t.tb).dayNight = t.tb.dayNight) :
    s.KeepsLaws (t.modTimebase f) :=
  h.trans ⟨id, fun law a => by
    obtain ⟨low, high, bound⟩ := law a
    exact ⟨low, high, fun b hb => by rw [State.modTimebase_tb, same]; exact bound b hb⟩, id, id, id⟩

theorem State.KeepsLaws.forEach {ι : Type} {l : List ι} {f : ι → State → State} (h : s.KeepsLaws t)
    (step : ∀ i u, s.KeepsLaws u → s.KeepsLaws (f i u)) : s.KeepsLaws (forEach l f t) :=
  forEach_keeps s.KeepsLaws f step l t h

theorem State.KeepsLaws.forCrossings {moves : Crossing → Bool} {f : CrossingId → State → State} (h : s.KeepsLaws t)
    (step : ∀ (n : CrossingId) (u : State), u.Steady (f n u)) : s.KeepsLaws (Machine.forCrossings moves f t) := by
  obtain ⟨order, d, -, -, e⟩ := forCrossings_order moves f t
  rw [e]
  exact h.withDraws.forEach fun n u k => k.steady (step n u)

end

/-! ### Single stations -/

section
variable {s : State} {t u : Station}

/-- A station that lost its work, its mirror and its press state, or got a new settings set while under control. -/
theorem State.Suits.cleared (urgent : u.urgent = []) (settings : u.controlled = false → u.settings = {})
    (job : u.job = none) (mirror : u.mirror = {}) (press : u.press = {}) (binding : u.binding = t.binding)
    (ambient : u.ambient = t.ambient) (level : u.level = t.level)
    (held : u.partHeld = true → t.ControlLaw s.configured → u.binding.isSome ∧ s.configured = true)
    (present : s.startUp.operating = .running ∨ t.owner ≠ .absent ∨ u.owner = t.owner) : s.Suits t u where
  control := fun law => ⟨⟨urgent ▸ urgentLaw_nil, fun c => ⟨urgent, settings c, job⟩, fun _ => press⟩, fun p => held p law⟩
  level := fun ⟨low, high, bound⟩ => ⟨ambient ▸ low, ambient ▸ high, fun b hb => level ▸ bound b (binding ▸ hb)⟩
  cache := fun _ => by
    refine ⟨fun i resident => ?_, fun j hj => ?_⟩
    · rw [mirror] at resident
      simp at resident
    · rw [job] at hj
      simp at hj
  vacant := fun o ⟨absent, _, _⟩ => by
    refine ⟨?_, job, mirror⟩
    rcases present with running | other | same
    · exact absurd running o
    · exact absurd absent other
    · exact same.trans absent

theorem State.Suits.wentLocal (present : s.startUp.operating = .running ∨ t.owner ≠ .absent) : s.Suits t t.wentLocal :=
  .cleared rfl (fun _ => rfl) rfl rfl rfl rfl rfl rfl (fun held => by simp [Station.partHeld, Station.wentLocal] at held)
    (present.imp_right .inl)

theorem State.Suits.stripped : s.Suits t t.stripped :=
  .cleared rfl (fun _ => rfl) rfl rfl rfl rfl rfl rfl (fun held law => law.2 held) (.inr (.inr rfl))

theorem State.Suits.gone (held : t.partHeld = true) : s.Suits t t.gone :=
  .cleared rfl (fun _ => rfl) rfl rfl rfl rfl rfl rfl (fun _ law => law.2 held)
    (.inr (.inl fun absent => by simp [Station.partHeld, absent] at held))

theorem State.Suits.taken {x : SettingsSet} (present : t.owner ≠ .absent)
    (bound : t.ControlLaw s.configured → t.binding.isSome ∧ s.configured = true) : s.Suits t (t.taken x) :=
  .cleared rfl (fun c => by simp [Station.controlled, Station.taken] at c) rfl rfl rfl rfl rfl rfl (fun _ => bound)
    (.inr (.inl present))

theorem Station.controlled_partHeld (h : t.controlled = true) : t.partHeld = true := by
  unfold Station.controlled at h
  unfold Station.partHeld
  simp [h]

theorem Station.present_of_held (h : t.partHeld = true) : t.owner ≠ .absent := fun absent => by
  simp [Station.partHeld, absent] at h

/-- A change of what no law speaks of. -/
theorem State.Suits.same (owner : u.owner = t.owner := by rfl) (binding : u.binding = t.binding := by rfl)
    (urgent : u.urgent = t.urgent := by rfl) (settings : u.settings = t.settings := by rfl) (press : u.press = t.press := by rfl)
    (job : u.job = t.job := by rfl) (mirror : u.mirror = t.mirror := by rfl) (ambient : u.ambient = t.ambient := by rfl)
    (level : u.level = t.level := by rfl) : s.Suits t u :=
  Station.Steady.suits (.ofLevel owner binding urgent (fun _ => settings) press job mirror fun ⟨low, high, bound⟩ =>
    ⟨ambient ▸ low, ambient ▸ high, fun b hb => level ▸ bound b (binding ▸ hb)⟩)

/-- A change of the work of a station: of its urgent list, its settings set and its job, where what was empty stays so. -/
theorem State.Suits.work (owner : u.owner = t.owner) (binding : u.binding = t.binding) (press : u.press = t.press)
    (ambient : u.ambient = t.ambient) (level : u.level = t.level) (urgent : UrgentLaw t.urgent → UrgentLaw u.urgent)
    (idle : t.urgent = [] ∧ t.settings = {} ∧ t.job = none → u.urgent = [] ∧ u.settings = {} ∧ u.job = none)
    (cache : t.CacheLaw s.clips → u.CacheLaw s.clips) (vacant : t.job = none → t.mirror = {} → u.job = none ∧ u.mirror = {}) :
    s.Suits t u where
  control := fun ⟨⟨law, empty, unset⟩, held⟩ => by
    have controlled : u.controlled = t.controlled := by rw [Station.controlled, Station.controlled, owner]
    have partHeld : u.partHeld = t.partHeld := by rw [Station.partHeld, Station.partHeld, owner]
    exact ⟨⟨urgent law, fun c => idle (empty (controlled ▸ c)), fun o => press ▸ unset (owner ▸ o)⟩,
      fun p => binding ▸ held (partHeld ▸ p)⟩
  level := fun ⟨low, high, bound⟩ => ⟨ambient ▸ low, ambient ▸ high, fun b hb => level ▸ bound b (binding ▸ hb)⟩
  cache := cache
  vacant := fun _ ⟨absent, job, mirror⟩ => ⟨owner.trans absent, vacant job mirror⟩

end

/-! ### The Station Table's operations -/

section
variable {s t : State} {a : StationId}

theorem State.KeepsLaws.modStation {f : Station → Station} (h : s.KeepsLaws t)
    (own : t.Suits (t.station a) (f (t.station a))) : s.KeepsLaws (t.modStation a f) := by
  have only : t.StationsOnly (t.modStation a f) := (State.StationsOnly.refl t).modStation
  refine h.trans (only.keepsLaws_one (a := a) (fun b e => by simp [e]) ?_)
  simpa using own

theorem State.KeepsLaws.clearFailures (h : s.KeepsLaws t) : s.KeepsLaws (t.clearFailures a) := h.modStation .same

theorem State.KeepsLaws.becomeLost (h : s.KeepsLaws t) (held : (t.station a).partHeld = true) :
    s.KeepsLaws (t.becomeLost a) := by
  refine h.trans ((State.StationsOnly.refl t).becomeLost.keepsLaws_one (a := a) (fun b e => by simp [e]) ?_)
  simpa using State.Suits.gone held

theorem State.KeepsLaws.countFailure (h : s.KeepsLaws t) : s.KeepsLaws (t.countFailure a) := by
  unfold State.countFailure
  split
  · next c =>
    split
    · exact h.becomeLost (Station.controlled_partHeld c)
    · exact h.modStation .same
  · exact h

theorem State.KeepsLaws.enterTaking (h : s.KeepsLaws t) (present : (t.station a).owner ≠ .absent)
    (bound : (t.station a).ControlLaw t.configured → (t.station a).binding.isSome ∧ t.configured = true) :
    s.KeepsLaws (t.enterTaking a) := by
  refine h.trans ((State.StationsOnly.refl t).enterTaking.keepsLaws_one (a := a) (fun b e => by simp [e]) ?_)
  simpa using State.Suits.taken present bound

theorem State.KeepsLaws.takeOverBound {tell : Bool} (h : s.KeepsLaws t) : s.KeepsLaws (State.takeOverBound tell t) := by
  classical
  refine h.trans ((State.StationsOnly.refl t).takeOverBound.keepsLaws fun a => ?_)
  rw [State.takeOverBound_station]
  split
  · next takes =>
    obtain ⟨configured, -, -, isLocal, bound⟩ := takes
    exact .taken (by simp [isLocal]) fun _ => ⟨bound, configured⟩
  · exact .refl _ _

theorem State.KeepsLaws.lineFaultRevert (h : s.KeepsLaws t) : s.KeepsLaws t.lineFaultRevert := by
  refine h.trans ((State.StationsOnly.refl t).lineFaultRevert.keepsLaws fun a => ?_)
  rw [State.lineFaultRevert_station]
  split
  · next held => exact .wentLocal (.inr (Station.present_of_held held))
  · exact .refl _ _

theorem State.KeepsLaws.kerbReset (h : s.KeepsLaws t) (running : t.startUp.operating = .running) : s.KeepsLaws t.kerbReset := by
  have reset : t.StationsOnly (Machine.forEach allStations (fun a u => u.kerbResetAt a) t) :=
    (State.StationsOnly.refl t).forEach fun _ _ k => k.kerbResetAt
  refine h.trans (State.KeepsLaws.modLink (reset.keepsLaws fun a => ?_))
  have station := t.kerbReset_station a
  unfold State.kerbReset at station
  rw [State.modLink_station] at station
  rw [station]
  split
  · exact .wentLocal (.inl running)
  · exact .stripped

theorem State.KeepsLaws.takeReport {r : PollReport} (h : s.KeepsLaws t) : s.KeepsLaws (t.takeReport a r) := by
  have taken := h.modStation (a := a) (f := fun x => x.report r) .same
  unfold State.takeReport
  dsimp only
  split
  · exact taken.notifyStation
  · exact taken

theorem State.KeepsLaws.sampleFrom {r : PollReport} (h : s.KeepsLaws t) : s.KeepsLaws (t.sampleFrom a r) := by
  unfold State.sampleFrom
  split
  · exact h.steady (State.Steady.refl t).takeSample
  · exact h

theorem State.KeepsLaws.pressAndSample {r : PollReport} (h : s.KeepsLaws t) (owned : (t.station a).owner = .owned) :
    s.KeepsLaws (t.pressAndSample a r) := by
  obtain ⟨d, -, e⟩ := t.pressAndSample_cases a r
  have drawn := h.withDraws (d := d)
  obtain e | e := e
  · rw [e]
    exact (drawn.steady ((State.Steady.refl _).decodePress owned)).sampleFrom
  · rw [e]
    unfold State.sampleFrom
    split
    · have sampled : State.Steady { t with draws := d } (({ t with draws := d } : State).takeSample a r.ambient) :=
        (State.Steady.refl _).takeSample
      exact drawn.steady (sampled.decodePress owned)
    · exact drawn.steady ((State.Steady.refl _).decodePress owned)

theorem State.KeepsLaws.pollOk {r : PollReport} (h : s.KeepsLaws t) : s.KeepsLaws (t.pollOk a r) := by
  have cleared := h.clearFailures (a := a)
  have reported := cleared.modStation (a := a) (f := fun x => x.report r) .same
  unfold State.pollOk
  dsimp only
  split
  · next owned _ => exact cleared.takeReport.pressAndSample (by simpa [Station.report] using owned)
  · next owned _ =>
    have held : ((t.clearFailures a).station a).partHeld = true := by simp [Station.partHeld, owned]
    refine (reported.enterTaking ?_ fun law => ?_).notifyStation
    · simp [Station.report, owned]
    · exact law.2 (by simpa [Station.report, Station.partHeld] using held)
  · exact cleared.takeReport
  · next lost =>
    have held : ((t.clearFailures a).station a).partHeld = true := by simp [Station.partHeld, lost]
    refine (reported.enterTaking ?_ fun law => ?_).notifyStation
    · simp [Station.report, lost]
    · exact law.2 (by simpa [Station.report, Station.partHeld] using held)
  · exact cleared

/-! ### Transactions and frames -/

theorem State.KeepsLaws.playDelivered {p : Play} {again : Bool} (h : s.KeepsLaws t) :
    s.KeepsLaws (t.playDelivered a p again) := by
  unfold State.playDelivered
  refine h.modStation (.work rfl rfl rfl rfl rfl (fun law => ?_) (fun ⟨u, x, j⟩ => ⟨?_, x, j⟩) id fun j m => ⟨j, m⟩)
  · dsimp only
    split
    · exact law
    · exact law.remove true
  · simp [u, urgentRemove]

theorem State.KeepsLaws.ackDelivered {again : Bool} (h : s.KeepsLaws t) : s.KeepsLaws (t.ackDelivered a again) := by
  unfold State.ackDelivered
  refine h.modStation (.work rfl rfl rfl rfl rfl (fun law => ?_) (fun ⟨u, x, j⟩ => ⟨?_, x, j⟩) id fun j m => ⟨j, m⟩)
  · dsimp only
    split
    · exact law
    · exact law.remove false
  · simp [u, urgentRemove]

theorem State.KeepsLaws.becomeOwned (h : s.KeepsLaws t) (taking : (t.station a).owner = .taking) : s.KeepsLaws (t.becomeOwned a) := by
  have suits : t.Suits (t.station a) { t.station a with owner := .owned } :=
    { control := fun ⟨⟨law, _, _⟩, held⟩ => ⟨⟨law, fun c => by simp [Station.controlled] at c, fun o => absurd rfl o⟩,
        fun _ => held (by simp [Station.partHeld, taking])⟩
      level := id
      cache := id
      vacant := fun _ ⟨absent, _, _⟩ => by simp [taking] at absent }
  have owned := (h.modStation (a := a) (f := fun x => { x with owner := .owned }) suits).notifyStation (a := a)
  unfold State.becomeOwned
  dsimp only
  split
  · exact owned
  · next b _ =>
    have started : (((t.modStation a fun x => { x with owner := .owned }).notifyStation a).station a).owner = .owned := by simp
    have read := State.Steady.refl ((t.modStation a fun x => { x with owner := .owned }).notifyStation a)
      |>.checkActive (n := b.crossing)
    split
    · exact owned.steady (read.queuePlayTo started).recomputeNeeds
    · exact owned.steady read.recomputeNeeds

theorem SettingsSet.remove_empty (x : Setting) : ({} : SettingsSet).remove x = {} := by
  cases x <;> simp [SettingsSet.remove]

theorem State.KeepsLaws.settingDelivered {x : Setting} {again : Bool} (h : s.KeepsLaws t) :
    s.KeepsLaws (t.settingDelivered a x again) := by
  unfold State.settingDelivered
  split
  · exact h
  · have removed := h.modStation (a := a) (f := fun y => { y with settings := y.settings.remove x })
      (.work rfl rfl rfl rfl rfl id (fun ⟨u, y, j⟩ => ⟨u, (congrArg (SettingsSet.remove · x) y).trans (SettingsSet.remove_empty x), j⟩) id fun j m => ⟨j, m⟩)
    dsimp only
    split
    · next last => exact removed.becomeOwned last.1
    · exact removed

theorem State.KeepsLaws.modJob {f : Job → Job} (h : s.KeepsLaws t) (clip : ∀ j, (f j).clip = j.clip) :
    s.KeepsLaws (t.modJob a f) := by
  refine h.modStation (.work rfl rfl rfl rfl rfl id (fun ⟨u, x, j⟩ => ⟨u, x, by simp [j]⟩) (fun ⟨slots, jobs⟩ =>
    ⟨slots, fun j hj => ?_⟩) fun j m => ⟨by simp [j], m⟩)
  obtain ⟨i, hi, rfl⟩ := Option.map_eq_some_iff.1 hj
  simpa only [clip] using jobs i hi

theorem Mirror.commit_slot (m : Mirror) (i j : Fin 4) (clip : Nat) :
    (m.commit i clip).slots[j] = if j = i then ⟨clip, .resident⟩ else m.slots[j] := m.put_slot i j clip .resident

theorem State.KeepsLaws.commitAnswer {good : Bool} (h : s.KeepsLaws t) : s.KeepsLaws (t.commitAnswer a good) := by
  unfold State.commitAnswer
  split
  · exact h
  · next j hj =>
    split
    · refine State.KeepsLaws.steady (h.modStation ?_) (State.Steady.refl _).recomputeNeeds
      refine .work rfl rfl rfl rfl rfl id (fun ⟨u, x, _⟩ => ⟨u, x, rfl⟩) (fun ⟨slots, jobs⟩ => ⟨fun i resident => ?_,
        fun _ free => by simp at free⟩) fun free _ => by simp [hj] at free
      rw [Mirror.commit_slot] at resident ⊢
      split
      · exact ⟨j.clip, rfl, jobs j hj⟩
      · next e =>
        rw [if_neg e] at resident
        exact slots i resident
    · split
      · refine h.modStation (.work rfl rfl rfl rfl rfl id (fun ⟨_, _, free⟩ => by simp [hj] at free) (fun ⟨slots, jobs⟩ =>
          ⟨slots, fun i hi => ?_⟩) fun free _ => by simp [hj] at free)
        obtain rfl := Option.some.inj hi
        exact jobs j hj
      · dsimp only
        have emptied := h.modStation (a := a) (f := fun x => { x with
            job := none
            mirror := x.mirror.put j.slot 0 .empty
            barred := if x.barred.contains j.clip then x.barred else x.barred ++ [j.clip] })
          (.work rfl rfl rfl rfl rfl id (fun ⟨u, x, _⟩ => ⟨u, x, rfl⟩) (fun ⟨slots, _⟩ => ⟨fun i resident => by
              have same := Mirror.put_resident (by decide) resident
              dsimp only at resident ⊢
              rw [same] at resident ⊢
              exact slots i resident, fun _ free => by simp at free⟩) fun free _ => by simp [hj] at free)
        split
        · exact ((emptied.modStation .same).notifyStation).steady (State.Steady.refl _).recomputeNeeds
        · exact emptied.steady (State.Steady.refl _).recomputeNeeds

theorem State.KeepsLaws.proceed {x : Transaction} (h : s.KeepsLaws t) : s.KeepsLaws (t.proceed x) := by
  rw [State.proceed_eq]
  exact h.withLink

theorem State.KeepsLaws.periodicFrom {i : Nat} (h : s.KeepsLaws t) : s.KeepsLaws (t.periodicFrom i) := by
  rw [State.periodicFrom_eq]
  exact h.withLink

theorem Ends.keepsLaws {x : Transaction} {onOk : State → State} (e : Ends x onOk) (h : s.KeepsLaws t) :
    s.KeepsLaws (onOk t) := by
  cases e with
  | poll r => exact h.pollOk
  | play p => exact h.playDelivered
  | ack => exact h.ackDelivered
  | setting x => exact h.settingDelivered
  | opened => exact h.modJob fun _ => rfl
  | blockSent => exact h.modJob fun _ => rfl
  | commit good => exact h.commitAnswer

theorem State.KeepsLaws.endTransaction {x : Transaction} {reply : KerbReply} {onOk : State → State} (h : s.KeepsLaws t)
    (e : Ends x onOk) : s.KeepsLaws (t.endTransaction x reply onOk) := by
  unfold State.endTransaction
  dsimp only
  refine State.KeepsLaws.proceed ?_
  split
  · exact h.modLink
  · split
    · exact e.keepsLaws h.modLink.clearFailures
    all_goals exact h.modLink.countFailure

theorem State.KeepsLaws.afterBeacon (h : s.KeepsLaws t) : s.KeepsLaws t.afterBeacon := by
  unfold State.afterBeacon
  split
  · exact h.modLink
  · exact h.periodicFrom

theorem State.KeepsLaws.judgeBeacon {heard : Heard} (h : s.KeepsLaws t) : s.KeepsLaws (t.judgeBeacon heard) := by
  unfold State.judgeBeacon
  split
  · split
    · exact h.takeOverBound.afterBeacon
    · exact h.afterBeacon
  · exact h.modLink

theorem State.KeepsLaws.judgeRetry {heard : Heard} (h : s.KeepsLaws t) : s.KeepsLaws (t.judgeRetry heard) := by
  unfold State.judgeRetry
  split
  · exact h.modLink.takeOverBound.afterBeacon
  · exact h.modLink

theorem State.KeepsLaws.sendBeacon {retried : Bool} (h : s.KeepsLaws t) : s.KeepsLaws (t.sendBeacon retried) :=
  h.modLink (f := fun l => { l with
    activity := .beacon retried, sent := beaconBytes t.link.frame t.configuredBit, used := l.used + Config.beaconMicros })

theorem State.KeepsLaws.faultFrame (h : s.KeepsLaws t) : s.KeepsLaws t.faultFrame := by
  unfold State.faultFrame
  dsimp only
  split
  · split
    · exact h.modLink.lineFaultRevert.sendBeacon
    · exact h.modLink.sendBeacon
  · split
    · exact h.modLink.lineFaultRevert
    · exact h.modLink

theorem State.KeepsLaws.openFrame (h : s.KeepsLaws t) : s.KeepsLaws t.openFrame := by
  unfold State.openFrame
  dsimp only
  refine State.KeepsLaws.modLink ?_
  split
  · exact h.modLink.sendBeacon
  · exact h.modLink.faultFrame

end

end Sys2Proof.Machine
end

section
/-! SUPPORT. The laws of the stations, of the channels and of the budget through a tick, a SYNC, the self-test and every
request. -/

namespace Sys2Proof.Machine

/-! ### Levels (R145, R146) -/

/-- R145: a re-evaluation moves a station's level: its target differs by 20 or more, or its level lies outside the floor and the
ceiling in force. -/
def Binding.moves (b : Binding) (d : DayNight) (t : Station) : Bool :=
  decide (t.level + 20 ≤ b.settings.target t.ambient d ∨ b.settings.target t.ambient d + 20 ≤ t.level
    ∨ b.settings.ceiling d < t.level ∨ t.level < b.settings.floor)

/-- R145, R146: a station whose level was re-evaluated under a day/night flag. -/
def Station.relevelled (d : DayNight) (t : Station) : Station :=
  match t.binding with
  | none => t
  | some b => { t with
      level := if b.moves d t then b.settings.target t.ambient d else t.level
      settings := if b.moves d t && b.settings.target t.ambient d != t.level && t.controlled then t.settings.add .level
        else t.settings }

theorem State.reevaluated_eq (s : State) (a : StationId) : s.reevaluated a = (s.station a).relevelled s.tb.dayNight := by
  unfold State.reevaluated Station.relevelled State.levelMoves State.targetLevel
  cases hb : (s.station a).binding with
  | none => simp
  | some b =>
    have moves : (decide (Config.levelHysteresis ≤ b.settings.target (s.station a).ambient s.tb.dayNight - (s.station a).level)
        || decide (Config.levelHysteresis ≤ (s.station a).level - b.settings.target (s.station a).ambient s.tb.dayNight)
        || decide (b.settings.ceiling s.tb.dayNight < (s.station a).level)
        || decide ((s.station a).level < b.settings.floor)) = b.moves s.tb.dayNight (s.station a) := by
      rw [Bool.eq_iff_iff]
      simp only [Binding.moves, Bool.or_eq_true, decide_eq_true_eq]
      unfold Config.levelHysteresis
      omega
    dsimp only
    rw [moves, hb]

theorem State.reevaluateLevel_relevelled (s : State) (a b : StationId) : (s.reevaluateLevel a).station b =
    if b = a then (s.station a).relevelled s.tb.dayNight else s.station b := by
  rw [State.reevaluateLevel_station, State.reevaluated_eq]

@[simp] theorem Station.relevelled_binding (d : DayNight) (t : Station) : (t.relevelled d).binding = t.binding := by
  unfold Station.relevelled
  split <;> rfl

theorem Station.relevelled_unbound (d : DayNight) (t : Station) (h : t.binding = none) : t.relevelled d = t := by
  simp [Station.relevelled, h]

/-- R145: a re-evaluated level lies between the floor and the ceiling in force, wherever it lay before. -/
theorem Station.relevelled_levelLaw (d : DayNight) (t : Station) (low : 300 ≤ t.ambient) (high : t.ambient ≤ 1000)
    (sound : ∀ b, t.binding = some b → b.settings.floor ≤ b.settings.dayCeiling ∧ b.settings.floor ≤ b.settings.nightCeiling) :
    (t.relevelled d).LevelLaw d := by
  unfold Station.relevelled
  split
  · next none => exact ⟨low, high, fun b hb => by simp [none] at hb⟩
  · next b hb =>
    refine ⟨low, high, fun b' hb' => ?_⟩
    obtain rfl : b = b' := by simpa [hb] using hb'
    obtain ⟨day, night⟩ := sound b hb
    refine ⟨day, night, ?_⟩
    dsimp only
    split
    · exact b.settings.target_range t.ambient d day night
    · next stays =>
      simp only [Binding.moves, decide_eq_true_eq, not_or, not_lt] at stays
      exact ⟨stays.2.2.2, stays.2.2.1⟩

/-- R14, R146: what a change of day and night makes of the stations. -/
theorem State.turn_station (s : State) (d : DayNight) (a : StationId) : (s.turn d).station a = (s.station a).relevelled d := by
  have step (a b : StationId) (u : State) : ((if (u.station a).binding.isSome then u.reevaluateLevel a else u).station b) =
      if b = a then (u.station a).relevelled u.tb.dayNight else u.station b := by
    split
    · exact u.reevaluateLevel_relevelled a b
    · next unbound =>
      have none : (u.station a).binding = none := by simpa using unbound
      rw [Station.relevelled_unbound _ _ none]
      split
      · next e => rw [e]
      · rfl
  unfold State.turn State.dayNightChanged
  rw [forEach_station_of (P := fun u => u.tb.dayNight = d) (g := fun _ t => t.relevelled d) (fun a u hd => ?_)
    (fun a u hd => by rw [step, if_pos rfl, hd]) (fun a b u e => by rw [step, if_neg e]) _ _ _ nodup_allStations rfl,
    if_pos (mem_allStations a)]
  · rfl
  · split
    · exact (congrArg Timebase.dayNight (State.Kept.refl u).reevaluateLevel.tb).trans hd
    · exact hd

section
variable {s t : State}

theorem State.KeepsLaws.turn {d : DayNight} (h : s.KeepsLaws t) : s.KeepsLaws (t.turn d) := by
  have turned : State.Steady (t.modTimebase fun b => { b with dayNight := d }) (t.turn d) := by
    unfold State.turn State.dayNightChanged
    refine (State.Steady.refl _).retargetHeads.forEach fun a u k => ?_
    split
    · exact k.reevaluateLevel
    · exact k
  have keeps := turned.keepsLaws
  refine h.trans ⟨fun law => keeps.control law, fun law a => ?_, fun law => keeps.resident law, fun law => keeps.lamp law,
    fun law => keeps.budget law⟩
  obtain ⟨low, high, bound⟩ := law a
  rw [t.turn_station d a, (t.turn_kept d).tb]
  exact Station.relevelled_levelLaw d _ low high fun b hb => ⟨(bound b hb).1, (bound b hb).2.1⟩

/-! ### SYNC and the tick -/

theorem State.Steady.when {b : Bool} {f : State → State} (h : s.Steady t) (step : s.Steady (f t)) : s.Steady (t.when b f) := by
  cases b
  · exact h
  · exact step

theorem State.KeepsLaws.cycleChanged {was : State} (h : s.KeepsLaws t) : s.KeepsLaws (State.cycleChanged was t) := by
  refine h.forCrossings fun n u => ?_
  dsimp only
  split
  · exact (State.Steady.refl u).checkActive
  · exact (State.Steady.refl u).checkActive.evaluateWindow

theorem State.KeepsLaws.stepTo {cycle pos : Nat} (h : s.KeepsLaws t) : s.KeepsLaws (t.stepTo cycle pos) := h.modTimebase rfl

theorem State.KeepsLaws.swapWhen {b : Bool} (h : s.KeepsLaws t) : s.KeepsLaws (t.when b State.swapAll) :=
  h.steady ((State.Steady.refl t).when (State.Steady.refl t).swapAll)

theorem State.KeepsLaws.syncPosition {found : Presence} {cycle pos : Nat} (h : s.KeepsLaws t) :
    s.KeepsLaws (t.syncPosition found cycle pos) := by
  unfold State.syncPosition
  cases found
  · dsimp only
    split
    · exact h.notify.stepTo.cycleChanged
    · split
      · exact h.modTimebase rfl
      · exact h.notify.stepTo.swapWhen
  · dsimp only
    split
    · exact h.stepTo.cycleChanged
    · split
      · exact h.notify.stepTo.swapWhen
      · exact h.notify.notify.stepTo.cycleChanged

theorem State.KeepsLaws.acceptSync {cycle pos : Nat} {mask : Byte} {d : DayNight} (h : s.KeepsLaws t) :
    s.KeepsLaws (t.acceptSync cycle pos mask d) := by
  obtain ⟨order, -, -, e⟩ := t.acceptSync_order cycle pos mask d
  rw [e]
  have started := (h.modTimebase (f := fun b => { b with mask := mask, fresh := 0, presence := .present }) rfl).withDraws
    (d := t.draws + 1)
  refine started.forEach fun w u k => ?_
  cases w with
  | fall n => exact k.steady (State.Steady.refl u).permitFalls
  | turn => exact k.turn
  | position => exact k.syncPosition

theorem State.KeepsLaws.loseHost (h : s.KeepsLaws t) : s.KeepsLaws t.loseHost := by
  have lost := (h.modTimebase (f := fun b => { b with presence := .lost, fresh := Config.freshLimit, correction := 0 })
    rfl).notify (x := .cycle .lost)
  unfold State.loseHost
  exact lost.forCrossings fun _ u => (State.Steady.refl u).hostLossAt

theorem State.KeepsLaws.countFreshness (h : s.KeepsLaws t) : s.KeepsLaws t.countFreshness := by
  unfold State.countFreshness
  split
  · exact h
  · split
    · exact h.loseHost
    · exact h.modTimebase rfl

theorem State.KeepsLaws.doWork {was : State} {load : Vector Nat 16} {wrap : Bool} {w : TickWork} (h : s.KeepsLaws t) :
    s.KeepsLaws (State.doWork was load wrap w t) := by
  cases w with
  | freshness => exact h.countFreshness
  | swap => exact h.swapWhen
  | crossing n => exact h.steady (State.Steady.refl t).releaseAtThisTick.tickCrossing
  | test n x => exact h.steady (State.Steady.refl t).testChannel
  | ramps => exact h.steady (State.Steady.refl t).rampAll

/-! ### The clips -/

/-- A change of the clips under which every law of the caches stays. -/
theorem State.KeepsLaws.withClips (h : s.KeepsLaws t) {clips : Vector Clip 64} {e : Bool}
    (cache : ∀ a, (t.station a).CacheLaw t.clips → (t.station a).CacheLaw clips) :
    s.KeepsLaws { t with clips := clips, libraryEnabled := e } :=
  h.trans ⟨id, id, fun law => by
    rw [State.residentLaw_iff] at law ⊢
    exact fun a => ⟨cache a (law a).1, (law a).2⟩, id, id⟩

/-- R154: a clip that was not VALID may change, and any clip may become VALID. -/
theorem Station.CacheLaw.mono {clips clips' : Vector Clip 64} {t : Station} (h : t.CacheLaw clips)
    (valid : ∀ k : ClipId, (clips[k]).state = .valid → (clips'[k]).state = .valid) : t.CacheLaw clips' :=
  ⟨fun i resident => by
    obtain ⟨k, e, v⟩ := h.1 i resident
    exact ⟨k, e, valid k v⟩, fun j hj => valid _ (h.2 j hj)⟩

theorem State.KeepsLaws.setClip {k : ClipId} {c : Clip} (h : s.KeepsLaws t)
    (stays : (t.clip k).state = .valid → c.state = .valid) : s.KeepsLaws (t.setClip k c) := by
  refine h.withClips (e := t.libraryEnabled) fun a law => law.mono fun l v => ?_
  have clip := t.setClip_clip k l c
  change ((t.setClip k c).clip l).state = .valid
  rw [clip]
  split
  · next e => exact stays (e ▸ v)
  · exact v

theorem State.KeepsLaws.upset {x : Upset} (h : s.KeepsLaws t) : s.KeepsLaws (t.upset x) := by
  cases x with
  | plan n slot correctable =>
    have marked (f : Crossing → Crossing) (same : ∀ c : Crossing, c.SameLamps (f c)) : s.KeepsLaws (t.modCrossing n f) :=
      h.steady ((State.Steady.refl t).modCrossing same)
    cases slot <;> unfold State.upset <;> exact marked _ fun _ => ⟨⟨rfl, rfl⟩, rfl⟩
  | clipByte k i v => exact h.setClip id

theorem State.KeepsLaws.upsets {l : List Upset} (h : s.KeepsLaws t) : s.KeepsLaws (t.upsets l) :=
  h.forEach (f := fun x u => u.upset x) fun _ _ k => k.upset

theorem State.KeepsLaws.tick {i : TickInputs} (h : s.KeepsLaws t) : s.KeepsLaws (t.tick i) := by
  unfold State.tick
  dsimp only
  have opened : s.KeepsLaws ((t.modTimebase Timebase.advanced).when (t.modTimebase Timebase.advanced).running State.openFrame) := by
    have moved := h.modTimebase (f := Timebase.advanced) rfl
    unfold State.when
    split
    · exact moved.openFrame
    · exact moved
  exact (opened.forEach fun _ _ k => k.doWork).upsets

/-! ### The self-test -/

/-- The laws hold where every station and every crossing has its reset value. -/
theorem State.fresh_laws (stations : ∀ a, t.station a = {}) (crossings : ∀ n, t.crossing n = {}) (limit : t.budgetLimit = false) :
    t.ControlLaw ∧ t.LevelLaw ∧ t.ResidentLaw ∧ t.LampLaw ∧ t.BudgetLaw := by
  refine ⟨fun a => ?_, fun a => ?_, ?_, fun n => ?_, ?_, fun n x => ?_⟩
  · rw [stations]
    exact ⟨urgentLaw_nil, fun h => by simp [Station.partHeld] at h, fun _ => ⟨rfl, rfl, rfl⟩, fun _ => rfl⟩
  · rw [stations]
    exact ⟨by decide, by decide, fun b hb => by simp at hb⟩
  · rw [State.residentLaw_iff]
    intro a
    rw [stations]
    refine ⟨⟨fun i resident => ?_, fun j hj => by simp at hj⟩, fun _ => ⟨rfl, rfl, rfl⟩⟩
    simp at resident
  · unfold State.channel
    rw [crossings]
    exact ⟨fun x => by cases x <;> rfl, fun x _ => by cases x <;> rfl⟩
  · have sum : t.nominalSum = 0 := by
      have every : t.crossings = Vector.replicate 8 {} := State.crossings_ext (t := State.reset) fun n => by
        rw [crossings]
        simp [State.reset, State.crossing]
      unfold State.nominalSum
      rw [every]
      decide
    rw [limit, sum]
    decide
  · rw [State.channel, crossings]
    cases x <;> rfl

theorem State.KeepsLaws.fresh (stations : ∀ a, t.station a = {}) (crossings : ∀ n, t.crossing n = {}) (limit : t.budgetLimit = false) :
    s.KeepsLaws t := by
  obtain ⟨control, level, resident, lamp, budget⟩ := State.fresh_laws stations crossings limit
  exact ⟨fun _ => control, fun _ => level, fun _ => resident, fun _ => lamp, fun _ => budget⟩

theorem State.reset_station (a : StationId) : State.reset.station a = {} := by simp [State.reset, State.station]

theorem State.reset_crossing (n : CrossingId) : State.reset.crossing n = {} := by simp [State.reset, State.crossing]

theorem State.KeepsLaws.selfTestStart : s.KeepsLaws t.selfTestStart := .fresh State.reset_station State.reset_crossing rfl

/-- A change of the start-up state of a part that stays out of RUNNING, or enters it. -/
theorem State.KeepsLaws.modStartUp {f : StartUp → StartUp} (h : s.KeepsLaws t)
    (entered : (f t.startUp).operating ≠ .running → t.startUp.operating ≠ .running) : s.KeepsLaws (t.modStartUp f) :=
  h.trans ⟨id, id, fun ⟨slots, jobs, vacant⟩ => ⟨slots, jobs, fun o => vacant (entered o)⟩, id, id⟩

theorem State.KeepsLaws.pulseFailed {n : CrossingId} {x : Aspect} (h : s.KeepsLaws t) : s.KeepsLaws (t.pulseFailed n x) := by
  have caused := (h.steady ((State.Steady.refl t).disableChannel (n := n) (x := x))).steady
    ((State.Steady.refl _).modCrossing (n := n) (f := fun c => { c with causes := c.causes.add (lampCause x) }))
  unfold State.pulseFailed
  exact caused.modStartUp id

theorem State.KeepsLaws.pulseAll {v : Vector Pulse 16} (h : s.KeepsLaws t) : s.KeepsLaws (t.pulseAll v) := by
  refine h.forEach fun n u k => ?_
  have first : s.KeepsLaws (if pulseFails v[channelIndex n .walk] then u.pulseFailed n .walk else u) := by
    split
    · exact k.pulseFailed
    · exact k
  dsimp only
  split
  · exact first.pulseFailed
  · exact first

/-- R160: a part that is not RUNNING has no clip in a cache, so the clips may change. -/
theorem State.KeepsLaws.clipsIdle {clips : Vector Clip 64} {e : Bool} (h : s.KeepsLaws t)
    (idle : t.startUp.operating ≠ .running) : s.KeepsLaws { t with libraryEnabled := e, clips := clips } :=
  h.trans ⟨id, id, fun law => by
    rw [State.residentLaw_iff] at law ⊢
    refine fun a => ⟨?_, (law a).2⟩
    obtain ⟨-, job, mirror⟩ := (law a).2 idle
    change (t.station a).CacheLaw clips
    refine ⟨fun i resident => ?_, fun j hj => ?_⟩
    · rw [mirror] at resident
      simp at resident
    · rw [job] at hj
      simp at hj, id, id⟩

theorem State.KeepsLaws.emptied (h : s.KeepsLaws t) :
    s.KeepsLaws { t with crossings := tableMap Crossing.emptied t.crossings } := by
  have same (n : CrossingId) : ({ t with crossings := tableMap Crossing.emptied t.crossings } : State).crossing n =
      (t.crossing n).emptied := tableMap_getElem _ _ _ _
  refine h.trans ⟨id, id, id, fun law n => ?_, fun law => law.congr rfl fun n x => ?_⟩
  · unfold State.channel
    rw [same]
    exact law n
  · unfold State.channel
    rw [same]
    exact .refl _

theorem State.KeepsLaws.checkEffect {c : Check} {found : CheckInputs} (h : s.KeepsLaws t)
    (idle : t.startUp.operating ≠ .running) : s.KeepsLaws (t.checkEffect c found) := by
  cases c with
  | planMemory => exact h.emptied
  | clipMemory =>
    unfold State.checkEffect
    dsimp only
    split
    · exact h.clipsIdle idle
    · exact h.clipsIdle idle
  | headDrivers => exact h.pulseAll
  | kerbLine =>
    unfold State.checkEffect
    dsimp only
    split
    · exact h
    · exact h.modLink
  | configRom => exact h
  | workMemory => exact h
  | streetLine => exact h

theorem State.KeepsLaws.completeCheck {c : Check} {found : CheckInputs} (h : s.KeepsLaws t)
    (testing : t.startUp.operating = .selfTest) : s.KeepsLaws (t.completeCheck c found) := by
  have idle : t.startUp.operating ≠ .running := by rw [testing]; decide
  have begun (f : StartUp → StartUp) (same : ∀ u, (f u).operating = u.operating) :
      s.KeepsLaws ((t.modStartUp f).checkEffect c found) :=
    (h.modStartUp (f := f) fun o => same _ ▸ o).checkEffect ((same _).trans_ne idle)
  have ends (o : OperatingState) {u : State} (k : s.KeepsLaws u) (same : u.startUp.operating ≠ .running) :
      s.KeepsLaws (u.endSelfTest o) := by
    have ended := k.modStartUp (f := fun u => { u with operating := o, check := none }) fun _ => same
    unfold State.endSelfTest
    dsimp only
    split
    · exact ended.modLink.notify
    · exact ended.notify
  unfold State.completeCheck
  dsimp only
  split
  · split
    · exact begun _ fun _ => rfl
    · exact ends _ (begun _ fun _ => rfl) idle
  · split
    · exact begun _ fun _ => rfl
    · exact ends _ (begun _ fun _ => rfl) idle
  · exact ends _ (begun _ fun _ => rfl) idle
  · exact begun _ fun _ => rfl

end

end Sys2Proof.Machine
end

section
/-! SUPPORT. The laws of the stations, of the channels and of the budget through every request, and so through every step. -/

namespace Sys2Proof.Machine

section
variable {s t : State} {a : StationId}

/-! ### Binding and control -/

theorem Settings.sound_of_inRange {x : Settings} (h : x.inRange = true) : x.floor ≤ x.dayCeiling ∧ x.floor ≤ x.nightCeiling := by
  simp only [Settings.inRange, Bool.and_eq_true, decide_eq_true_eq] at h
  omega

/-- R118: a binding that is accepted has ceilings at least its floor. -/
theorem bindingOf_sound {n ap : Byte} {f : BindFields} {b : Binding} (h : bindingOf n ap f = some b) :
    b.settings.floor ≤ b.settings.dayCeiling ∧ b.settings.floor ≤ b.settings.nightCeiling := by
  unfold bindingOf at h
  split at h
  · next settings =>
    obtain rfl := Option.some.inj h
    unfold settingsOf at settings
    split at settings
    · simp at settings
    · dsimp only at settings
      split at settings
      · next ok =>
        obtain rfl := Option.some.inj settings
        exact Settings.sound_of_inRange ok
      · simp at settings
  · simp at h

/-- R118, R119: a station that a binding made start anew: TAKING when `ready`, LOCAL otherwise, at its target level. -/
def Station.startedAt (t : Station) (b : Binding) (d : DayNight) (ready : Bool) (settings : SettingsSet) : Station :=
  let u := { t with binding := some b, level := b.settings.target t.ambient d }
  if ready then u.taken settings else { u with owner := .local }

theorem State.takeOrLeave_station (b : StationId) : (s.takeOrLeave a).station b =
    if b = a then
      if s.configured && s.linkReady then (s.station a).taken s.takeOverSet else { s.station a with owner := .local }
    else s.station b := by
  unfold State.takeOrLeave
  split <;> simp

/-- The station of a binding that starts it anew. -/
theorem State.started_station {b : Binding} (bound : (s.station a).binding = some b) (c : StationId) :
    ((s.takeTarget a).takeOrLeave a).station c =
      if c = a then (s.station a).startedAt b s.tb.dayNight (s.configured && s.linkReady) s.takeOverSet else s.station c := by
  rw [State.takeOrLeave_station]
  by_cases e : c = a
  · subst e
    have same : (s.takeTarget c).takeOverSet = s.takeOverSet := rfl
    have ready : ((s.takeTarget c).configured && (s.takeTarget c).linkReady) = (s.configured && s.linkReady) := rfl
    have taken : ({ s.station c with level := s.targetLevel c } : Station) =
        { s.station c with binding := some b, level := b.settings.target (s.station c).ambient s.tb.dayNight } := by
      rw [s.targetLevel_eq c bound, ← bound]
    rw [if_pos rfl, if_pos rfl, State.takeTarget_station, if_pos rfl, same, ready, taken]
    rfl
  · rw [if_neg e, if_neg e, State.takeTarget_station, if_neg e]

/-- A binding that starts a station anew keeps its laws, where the station left its work and its press state. -/
theorem State.Suits.started {x y : Station} {b : Binding} (running : s.startUp.operating = .running)
    (sound : b.settings.floor ≤ b.settings.dayCeiling ∧ b.settings.floor ≤ b.settings.nightCeiling)
    (ambient : y.ambient = 600)
    (empty : x.ControlLaw s.configured → y.urgent = [] ∧ y.settings = {} ∧ y.job = none ∧ y.press = {})
    (cache : x.CacheLaw s.clips → y.CacheLaw s.clips) :
    s.Suits x (y.startedAt b s.tb.dayNight (s.configured && s.linkReady) s.takeOverSet) := by
  unfold Station.startedAt
  dsimp only
  have target := b.settings.target_range y.ambient s.tb.dayNight sound.1 sound.2
  have level (u : Station) (hb : u.binding = some b) (ha : u.ambient = y.ambient)
      (hl : u.level = b.settings.target y.ambient s.tb.dayNight) : u.LevelLaw s.tb.dayNight := by
    refine ⟨by omega, by omega, fun b' hb' => ?_⟩
    obtain rfl : b = b' := by simpa [hb] using hb'
    rw [hl]
    exact ⟨sound.1, sound.2, target⟩
  split
  · next ready =>
    refine ⟨fun _ => ⟨⟨urgentLaw_nil, fun c => ?_, fun _ => rfl⟩, fun _ => ⟨rfl, ?_⟩⟩, fun _ => level _ rfl rfl rfl, fun _ => ?_,
      fun o => absurd running o⟩
    · simp [Station.controlled, Station.taken] at c
    · simp only [Bool.and_eq_true] at ready
      exact ready.1
    · exact ⟨fun i resident => by simp [Station.taken] at resident, fun j hj => by simp [Station.taken] at hj⟩
  · refine ⟨fun law => ?_, fun _ => level _ rfl rfl rfl, fun law => cache law, fun o => absurd running o⟩
    obtain ⟨urgent, settings, job, press⟩ := empty law
    refine ⟨⟨?_, fun _ => ⟨urgent, settings, job⟩, fun _ => press⟩, fun held => ?_⟩
    · exact urgent ▸ urgentLaw_nil
    · simp [Station.partHeld] at held

theorem Station.idle_of_unheld {x : Station} {configured : Bool} (law : x.ControlLaw configured) (h : x.partHeld = false) :
    x.urgent = [] ∧ x.settings = {} ∧ x.job = none ∧ x.press = {} := by
  obtain ⟨⟨-, idle, unset⟩, -⟩ := law
  have free : x.controlled = false := by
    revert h
    unfold Station.partHeld Station.controlled
    cases x.owner <;> simp
  have other : x.owner ≠ .owned := fun owned => by simp [Station.partHeld, owned] at h
  obtain ⟨urgent, settings, job⟩ := idle free
  exact ⟨urgent, settings, job, unset other⟩

/-- What a first binding makes of the station's items. -/
def Station.freshlyBound (t : Station) (b : Binding) : Station :=
  { t with
    binding := some b, ambient := 600, speaker := false, tactile := false, mic := false, latePlay := false
    clipFault := false, barred := [], press := {} }

theorem State.bindFresh_station (b : Binding) (c : StationId) : (s.bindFresh a b).station c =
    if c = a then
      ((s.station a).freshlyBound b).startedAt b s.tb.dayNight (s.configured && s.linkReady) s.takeOverSet
    else s.station c := by
  have bound : ((s.modStation a fun t => t.freshlyBound b).station a).binding = some b := by simp [Station.freshlyBound]
  have started := State.started_station bound c
  simp only [State.modStation_station, if_true] at started
  by_cases e : c = a
  · rw [if_pos e] at started ⊢
    exact started
  · rw [if_neg e, if_neg e] at started
    rw [if_neg e]
    exact started

theorem State.StationsOnly.takeTarget (h : s.StationsOnly t) : s.StationsOnly (t.takeTarget a) := by
  unfold State.takeTarget
  exact h.modStation

theorem State.StationsOnly.bindFresh {b : Binding} (h : s.StationsOnly t) : s.StationsOnly (t.bindFresh a b) :=
  h.modStation.takeTarget.takeOrLeave

theorem State.StationsOnly.bindElsewhere {b : Binding} (h : s.StationsOnly t) : s.StationsOnly (t.bindElsewhere a b) := by
  unfold State.bindElsewhere
  dsimp only
  split
  · exact h.dropControl.modStation.modStation.takeTarget.takeOrLeave
  · exact h.modStation.takeTarget.takeOrLeave

theorem State.KeepsLaws.bindFresh {b : Binding} (h : s.KeepsLaws t) (running : t.startUp.operating = .running)
    (sound : b.settings.floor ≤ b.settings.dayCeiling ∧ b.settings.floor ≤ b.settings.nightCeiling)
    (unbound : (t.station a).binding = none) : s.KeepsLaws (t.bindFresh a b) := by
  refine h.trans ((State.StationsOnly.refl t).bindFresh.keepsLaws_one (a := a)
    (fun c e => by rw [State.bindFresh_station, if_neg e]) ?_)
  rw [State.bindFresh_station, if_pos rfl]
  refine .started running sound rfl (fun law => ?_) id
  have free : (t.station a).partHeld = false := by
    by_contra held
    have bound := (law.2 (by simpa using held)).1
    simp [unbound] at bound
  obtain ⟨urgent, settings, job, -⟩ := Station.idle_of_unheld law free
  exact ⟨urgent, settings, job, rfl⟩

/-- What a move to another approach makes of the station's items. -/
def Station.movedTo (t : Station) (b : Binding) : Station :=
  let u := if t.partHeld then { t.stripped with failures := 0 } else t
  { u with binding := some b, ambient := 600, speaker := false, tactile := false, mic := false, clipFault := false, barred := [] }

theorem State.bindElsewhere_station (b : Binding) (c : StationId) : (s.bindElsewhere a b).station c =
    if c = a then ((s.station a).movedTo b).startedAt b s.tb.dayNight (s.configured && s.linkReady) s.takeOverSet
    else s.station c := by
  let dropped := if (s.station a).partHeld then (s.dropControl a).modStation a fun t => { t with failures := 0 } else s
  let moved := dropped.modStation a fun t => { t with
    binding := some b, ambient := Config.ambientStart, speaker := false, tactile := false, mic := false, clipFault := false, barred := [] }
  have only : s.StationsOnly moved := by
    refine State.StationsOnly.modStation ?_
    change s.StationsOnly (if (s.station a).partHeld then _ else _)
    split
    · exact (State.StationsOnly.refl s).dropControl.modStation
    · exact .refl s
  have own (c : StationId) : moved.station c = if c = a then (s.station a).movedTo b else s.station c := by
    by_cases held : (s.station a).partHeld = true
    · by_cases e : c = a <;> simp [moved, dropped, held, e, Station.movedTo, Config.ambientStart]
    · by_cases e : c = a <;> simp [moved, dropped, held, e, Station.movedTo, Config.ambientStart]
  have bound : (moved.station a).binding = some b := by rw [own, if_pos rfl]; rfl
  have started := State.started_station bound c
  have ready : moved.linkReady = s.linkReady := by
    have line := only.link
    unfold State.linkReady
    rw [line]
  rw [only.tb, only.configured, ready, State.takeOverSet_kept only.toKept, own a, own c, if_pos rfl] at started
  rw [show (s.bindElsewhere a b).station c = _ from started]
  by_cases e : c = a
  · rw [if_pos e, if_pos e]
  · rw [if_neg e, if_neg e, if_neg e]

theorem State.KeepsLaws.bindElsewhere {b : Binding} (h : s.KeepsLaws t) (running : t.startUp.operating = .running)
    (sound : b.settings.floor ≤ b.settings.dayCeiling ∧ b.settings.floor ≤ b.settings.nightCeiling) :
    s.KeepsLaws (t.bindElsewhere a b) := by
  refine h.trans ((State.StationsOnly.refl t).bindElsewhere.keepsLaws_one (a := a)
    (fun c e => by rw [State.bindElsewhere_station, if_neg e]) ?_)
  rw [State.bindElsewhere_station, if_pos rfl]
  by_cases held : (t.station a).partHeld = true
  · have moved : (t.station a).movedTo b = { (t.station a).stripped with
        failures := 0, binding := some b, ambient := 600, speaker := false, tactile := false, mic := false
        clipFault := false, barred := [] } := by simp [Station.movedTo, held]
    rw [moved]
    refine .started running sound rfl (fun _ => ⟨rfl, rfl, rfl, rfl⟩) fun _ => ⟨fun i resident => ?_, fun j hj => ?_⟩
    · simp [Station.stripped] at resident
    · simp [Station.stripped] at hj
  · have moved : (t.station a).movedTo b = { t.station a with
        binding := some b, ambient := 600, speaker := false, tactile := false, mic := false, clipFault := false
        barred := [] } := by simp [Station.movedTo, held]
    rw [moved]
    have free : (t.station a).partHeld = false := by simpa using held
    exact .started running sound rfl (fun law => Station.idle_of_unheld (x := t.station a) law free) id

theorem State.StationsOnly.markAgain_other {c : Item → Bool} : (s.markAgain a c).configured = s.configured :=
  (State.Kept.refl s).markAgain.configured

/-- What new settings at the same approach make of the station before its needs are recomputed. -/
theorem State.bindSame_levels (b : Binding) :
    let bound := s.modStation a fun t => { t with binding := some b }
    let told := if (bound.station a).controlled then bound.addSetting a .config else bound
    ∀ c, (told.reevaluateLevel a).station c = if c = a then
        ({ s.station a with
          binding := some b
          settings := if (s.station a).controlled then (s.station a).settings.add .config else (s.station a).settings }).relevelled
            s.tb.dayNight
      else s.station c := by
  intro bound told c
  have tb : told.tb = s.tb := by
    change (if _ then _ else _ : State).tb = s.tb
    split
    · exact (State.Kept.refl bound).addSetting.tb
    · rfl
  have own (c : StationId) : told.station c = if c = a then { s.station a with
      binding := some b
      settings := if (s.station a).controlled then (s.station a).settings.add .config else (s.station a).settings }
      else s.station c := by
    have same : (bound.station a).controlled = (s.station a).controlled := by simp [bound, Station.controlled]
    by_cases controlled : (s.station a).controlled = true
    · by_cases e : c = a <;> simp [told, same, controlled, e] <;> simp [bound, e]
    · by_cases e : c = a <;> simp [told, same, controlled, e] <;> simp [bound, e]
  rw [State.reevaluateLevel_relevelled, own, own, tb, if_pos rfl]
  by_cases e : c = a
  · rw [if_pos e, if_pos e]
  · rw [if_neg e, if_neg e, if_neg e]

/-- The settings set of a station under control may grow. -/
theorem State.Suits.rebound {x y : Station} {b : Binding} (binding : y.binding = some b)
    (owner : y.owner = x.owner) (urgent : y.urgent = x.urgent) (press : y.press = x.press) (job : y.job = x.job)
    (mirror : y.mirror = x.mirror) (settings : x.controlled = false → y.settings = x.settings)
    (level : x.LevelLaw s.tb.dayNight → y.LevelLaw s.tb.dayNight) : s.Suits x y where
  control := fun ⟨⟨law, idle, unset⟩, held⟩ => by
    have controlled : y.controlled = x.controlled := by rw [Station.controlled, Station.controlled, owner]
    have partHeld : y.partHeld = x.partHeld := by rw [Station.partHeld, Station.partHeld, owner]
    refine ⟨⟨urgent ▸ law, fun c => ?_, fun o => press ▸ unset (owner ▸ o)⟩, fun p => ⟨binding ▸ rfl, (held (partHeld ▸ p)).2⟩⟩
    obtain ⟨noUrgent, noSettings, noJob⟩ := idle (controlled ▸ c)
    exact ⟨urgent ▸ noUrgent, (settings (controlled ▸ c)).trans noSettings, job ▸ noJob⟩
  level := level
  cache := fun ⟨slots, jobs⟩ => ⟨mirror ▸ slots, job ▸ jobs⟩
  vacant := fun _ ⟨o, j, m⟩ => ⟨owner ▸ o, job ▸ j, mirror ▸ m⟩

@[simp] theorem Station.relevelled_same (d : DayNight) (x : Station) : (x.relevelled d).owner = x.owner
    ∧ (x.relevelled d).urgent = x.urgent ∧ (x.relevelled d).press = x.press ∧ (x.relevelled d).job = x.job
    ∧ (x.relevelled d).mirror = x.mirror ∧ (x.controlled = false → (x.relevelled d).settings = x.settings) := by
  unfold Station.relevelled
  split
  · exact ⟨rfl, rfl, rfl, rfl, rfl, fun _ => rfl⟩
  · exact ⟨rfl, rfl, rfl, rfl, rfl, fun c => by simp [c]⟩

theorem State.KeepsLaws.bindSame {b : Binding} (h : s.KeepsLaws t)
    (sound : b.settings.floor ≤ b.settings.dayCeiling ∧ b.settings.floor ≤ b.settings.nightCeiling) :
    s.KeepsLaws (t.bindSame a b) := by
  let told := (t.modStation a fun x => { x with binding := some b })
  let asked := if (told.station a).controlled then told.addSetting a .config else told
  have kept : t.Kept (asked.reevaluateLevel a) := by
    refine State.Kept.reevaluateLevel ?_
    change t.Kept (if (told.station a).controlled then _ else _)
    split
    · exact (State.Kept.refl t).modStation.addSetting
    · exact (State.Kept.refl t).modStation
  have crossings : (asked.reevaluateLevel a).crossings = t.crossings ∧ (asked.reevaluateLevel a).budgetLimit = t.budgetLimit := by
    rw [State.reevaluateLevel_crossings, State.reevaluateLevel_budgetLimit]
    change (if (told.station a).controlled then _ else _ : State).crossings = _ ∧ (if (told.station a).controlled then _ else _ : State).budgetLimit = _
    split
    · exact ⟨State.addSetting_crossings _ _ _, State.addSetting_budgetLimit _ _ _⟩
    · exact ⟨rfl, rfl⟩
  have same (n : CrossingId) : (asked.reevaluateLevel a).crossing n = t.crossing n := by rw [State.crossing, crossings.1]; rfl
  have station := State.bindSame_levels (s := t) (a := a) b
  have keeps : t.KeepsLaws (asked.reevaluateLevel a) := by
    refine .ofStations kept (fun c => ?_) (fun law n => ?_) fun law => law.congr crossings.2 fun n x => ?_
    · rw [show (asked.reevaluateLevel a).station c = _ from station c]
      split
      · next e =>
        subst e
        obtain ⟨owner, urgent, press, job, mirror, settings⟩ := Station.relevelled_same t.tb.dayNight { t.station c with
          binding := some b
          settings := if (t.station c).controlled then (t.station c).settings.add .config else (t.station c).settings }
        refine .rebound (b := b) (by simp) owner urgent press job mirror (fun c' => ?_) fun ⟨low, high, _⟩ => ?_
        · rw [settings (by simpa [Station.controlled] using c')]
          simp [c']
        · refine Station.relevelled_levelLaw _ _ low high fun b' hb' => ?_
          obtain rfl := Option.some.inj hb'
          exact sound
      · exact .refl _ _
    · unfold State.channel
      rw [same]
      exact law n
    · unfold State.channel
      rw [same]
      exact .refl _
  exact (h.trans keeps).steady (State.Steady.refl _).recomputeNeeds

/-- R122: every station the part holds goes LOCAL, and the CONFIGURED flag is clear. -/
theorem State.KeepsLaws.unconfigure (h : s.KeepsLaws t) :
    s.KeepsLaws (Machine.forEach allStations (fun a s => s.revert a) { t with configured := false }) := by
  let u : State := { t with configured := false }
  have only : u.StationsOnly (Machine.forEach allStations (fun a s => s.revert a) u) :=
    (State.StationsOnly.refl u).forEach fun _ _ k => k.revert
  have station (a : StationId) : (Machine.forEach allStations (fun a s => s.revert a) u).station a =
      if (t.station a).partHeld = true then (t.station a).wentLocal else t.station a := by
    rw [forEach_station _ (fun _ x => if x.partHeld = true then x.wentLocal else x)
      (fun a v => by by_cases held : (v.station a).partHeld = true <;> simp [held])
      (fun a b v e => by by_cases held : (v.station a).partHeld = true <;> simp [held, e]) _ _ _ nodup_allStations,
      if_pos (mem_allStations a)]
    rfl
  have keeps := only.keepsLaws fun a => by
    rw [station]
    change u.Suits (t.station a) _
    split
    · next held => exact .wentLocal (.inr (Station.present_of_held held))
    · exact .refl _ _
  refine h.trans ⟨fun law => ?_, fun law => keeps.level law, fun law => keeps.resident law, fun law => keeps.lamp law,
    fun law => keeps.budget law⟩
  rw [State.controlLaw_iff] at law ⊢
  intro a
  rw [station]
  split
  · exact ⟨⟨urgentLaw_nil, fun _ => ⟨rfl, rfl, rfl⟩, fun _ => rfl⟩, fun held => by
      simp [Station.partHeld, Station.wentLocal] at held⟩
  · next free => exact ⟨(law a).1, fun held => absurd held free⟩

theorem State.KeepsLaws.configure (h : s.KeepsLaws t) : s.KeepsLaws { t with configured := true } :=
  h.trans ⟨fun law a => by
    obtain ⟨urgent, held, idle, press⟩ := law a
    exact ⟨urgent, fun p => ⟨(held p).1, rfl⟩, idle, press⟩, id, id, id, id⟩

theorem State.KeepsLaws.unbind (h : s.KeepsLaws t) : s.KeepsLaws ((t.clearWork a).setStation a {}) := by
  have only : t.StationsOnly ((t.clearWork a).modStation a fun _ => {}) := (State.StationsOnly.refl t).clearWork.modStation
  refine h.trans (State.StationsOnly.keepsLaws_one (a := a) only (fun b e => by simp [e]) ?_)
  rw [State.setStation_station, if_pos rfl]
  refine ⟨fun _ => ⟨⟨urgentLaw_nil, fun _ => ⟨rfl, rfl, rfl⟩, fun _ => rfl⟩, fun held => by simp [Station.partHeld] at held⟩,
    fun _ => ⟨by decide, by decide, fun b hb => by simp at hb⟩, fun _ => ⟨fun i resident => by simp at resident,
    fun j hj => by simp at hj⟩, fun _ _ => ⟨rfl, rfl, rfl⟩⟩

/-! ### Patterns and clips -/

theorem State.KeepsLaws.addSetting {x : Setting} (h : s.KeepsLaws t) (controlled : (t.station a).controlled = true) :
    s.KeepsLaws (t.addSetting a x) := by
  have same (n : CrossingId) : (t.addSetting a x).crossing n = t.crossing n := by
    rw [State.crossing, State.addSetting_crossings]; rfl
  refine h.trans (.ofStations (State.Kept.refl t).addSetting (fun b => ?_) (fun law n => ?_) fun law =>
    law.congr (State.addSetting_budgetLimit t a x) fun n y => ?_)
  · by_cases e : b = a
    · subst e
      simp only [State.addSetting_station, if_true]
      refine Station.Steady.suits (.ofLevel rfl rfl rfl (fun c => ?_) rfl rfl rfl id)
      simp [controlled] at c
    · simp only [State.addSetting_station, e, if_false]
      exact .refl _ _
  · unfold State.channel
    rw [same]
    exact law n
  · unfold State.channel
    rw [same]
    exact .refl _

theorem State.KeepsLaws.setPatternRecord {k : PatternId} {p : Option Pattern} (h : s.KeepsLaws t) :
    s.KeepsLaws (t.setPatternRecord k p) := by
  refine h.withPatterns.forEach fun a u v => ?_
  split
  · next controlled => exact v.addSetting controlled
  · exact v

/-- R154: the slots of a cache mirror once a clip has gone STALE. -/
theorem Mirror.staled_slot (m : Mirror) (clip : Nat) (i : Fin 4) : (m.staled clip).slots[i] =
    if (m.slots[i]).clip = clip ∧ (m.slots[i]).state = .resident then { m.slots[i] with state := .stale } else m.slots[i] :=
  tableMap_getElem _ _ _ _

/-- R153: what a clip that leaves VALID leaves of a station's mirror and job. -/
theorem State.clipLeavesAt_station (k : ClipId) (b : StationId) : (s.clipLeavesAt k a).station b =
    if b = a then (s.station a).unclipped k else s.station b := by
  have staled : (s.station a).mirror.staled (clipNumber k) = { (s.station a).mirror with
      slots := (s.station a).mirror.slots.map fun x =>
        if x.clip = k.val + 1 ∧ x.state = .resident then { x with state := .stale } else x } := by
    unfold Mirror.staled clipNumber
    congr 1
    apply Vector.ext
    intro i hi
    simp
  unfold State.clipLeavesAt
  dsimp only
  by_cases e : b = a
  · subst e
    simp only [State.modStation_station, if_true]
    cases hj : (s.station b).job with
    | none => simp [Station.unclipped, hj, staled]
    | some j =>
      by_cases same : j.clip = k
      · simp [Station.unclipped, hj, same, State.abandonJob, staled, Mirror.put]
      · simp [Station.unclipped, hj, same, staled]
  · rw [if_neg e]
    split
    · unfold State.abandonJob
      split
      · simp [e]
      · simp [e]
    · simp [e]

/-- R154: a station gives up what it holds of a clip that left VALID. -/
theorem Station.CacheLaw.unclipped {clips clips' : Vector Clip 64} {x : Station} {k : ClipId} (h : x.CacheLaw clips)
    (others : ∀ l : ClipId, l ≠ k → clips'[l] = clips[l]) : (x.unclipped k).CacheLaw clips' := by
  obtain ⟨slots, jobs⟩ := h
  have kept (l : ClipId) (e : l ≠ k) (v : (clips[l]).state = .valid) : (clips'[l]).state = .valid := by rw [others l e]; exact v
  have staled (i : Fin 4) (resident : ((x.mirror.slots.map fun y : MirrorSlot =>
      if y.clip = k.val + 1 ∧ y.state = .resident then { y with state := .stale } else y)[i]).state = .resident) :
      ∃ l : ClipId, ((x.mirror.slots.map fun y : MirrorSlot =>
        if y.clip = k.val + 1 ∧ y.state = .resident then { y with state := .stale } else y)[i]).clip = clipNumber l
        ∧ (clips'[l]).state = .valid := by
    simp only [Fin.getElem_fin, Vector.getElem_map] at resident ⊢
    split at resident
    · simp at resident
    · next other =>
      rw [if_neg other]
      obtain ⟨l, e, v⟩ := slots i resident
      refine ⟨l, e, kept l (fun same => other ⟨?_, resident⟩) v⟩
      rw [← same]
      exact e
  unfold Station.unclipped
  dsimp only
  split
  · next j hj =>
    split
    · refine ⟨fun i resident => ?_, fun _ none => by simp at none⟩
      simp only [Fin.getElem_fin, Vector.getElem_set] at resident ⊢
      split at resident
      · simp at resident
      · next other =>
        simp only [other, if_false]
        exact staled i resident
    · next other =>
      refine ⟨staled, fun i hi => ?_⟩
      obtain rfl : j = i := by simpa [hj] using hi
      exact kept j.clip other (jobs j hj)
  · next none => exact ⟨staled, fun i hi => by simp [none] at hi⟩

theorem State.clipLeftEverywhere_station (s : State) (k : ClipId) (a : StationId) :
    (forEach allStations (fun a s => s.clipLeavesAt k a) s).station a = (s.station a).unclipped k := by
  rw [forEach_station _ (fun _ x => x.unclipped k) (fun a u => by rw [State.clipLeavesAt_station, if_pos rfl])
    (fun a b u e => by rw [State.clipLeavesAt_station, if_neg e]) _ _ _ nodup_allStations, if_pos (mem_allStations a)]

theorem State.StationsOnly.clipLeavesAt {k : ClipId} (h : s.StationsOnly t) : s.StationsOnly (t.clipLeavesAt k a) := by
  unfold State.clipLeavesAt
  dsimp only
  split
  · unfold State.abandonJob
    split
    · exact h.modStation
    · exact h.modStation.discardOutcome.modStation
  · exact h.modStation

theorem Station.unclipped_same (x : Station) (k : ClipId) :
    ∃ m j, x.unclipped k = { x with mirror := m, job := j } ∧ (x.job = none → j = none) := by
  unfold Station.unclipped
  dsimp only
  split
  · next j hj =>
    split
    · exact ⟨_, none, rfl, fun _ => rfl⟩
    · exact ⟨_, x.job, rfl, id⟩
  · exact ⟨_, x.job, rfl, id⟩

theorem State.KeepsLaws.recomputeEvery (h : s.KeepsLaws t) : s.KeepsLaws t.recomputeEvery :=
  h.forCrossings fun _ u => (State.Steady.refl u).recomputeAll

/-- R153: a clip that leaves VALID, once no station holds it. -/
theorem State.KeepsLaws.clipLeft {k : ClipId} {c : Clip} (h : s.KeepsLaws t) (running : t.startUp.operating = .running) :
    s.KeepsLaws ((t.setClip k c).clipLeftValid k) := by
  refine State.KeepsLaws.recomputeEvery ?_
  let u := t.setClip k c
  have only : u.StationsOnly (Machine.forEach allStations (fun a s => s.clipLeavesAt k a) u) :=
    (State.StationsOnly.refl u).forEach fun _ _ v => v.clipLeavesAt
  have station (a : StationId) : (Machine.forEach allStations (fun a s => s.clipLeavesAt k a) u).station a =
      (t.station a).unclipped k := State.clipLeftEverywhere_station u k a
  have crossing := only.crossing
  refine h.trans ⟨fun law => ?_, fun law a => ?_, fun law => ?_, fun law n => ?_, fun law => ?_⟩
  · rw [State.controlLaw_iff] at law ⊢
    intro a
    obtain ⟨m, j, e, free⟩ := (t.station a).unclipped_same k
    rw [station, e, only.configured]
    obtain ⟨⟨urgent, idle, press⟩, held⟩ := law a
    refine ⟨⟨urgent, fun c => ?_, press⟩, held⟩
    obtain ⟨noUrgent, noSettings, noJob⟩ := idle c
    exact ⟨noUrgent, noSettings, free noJob⟩
  · obtain ⟨m, j, e, -⟩ := (t.station a).unclipped_same k
    rw [station, e, only.tb]
    exact law a
  · rw [State.residentLaw_iff] at law ⊢
    intro a
    rw [station, only.clips, only.startUp]
    refine ⟨(law a).1.unclipped fun l other => ?_, fun o => absurd running o⟩
    have clip := t.setClip_clip k l c
    rw [if_neg other] at clip
    exact clip
  · unfold State.channel
    rw [crossing]
    exact law n
  · exact law.congr only.limit fun n x => by
      unfold State.channel
      rw [crossing]
      exact .refl _

theorem State.KeepsLaws.unbar {k : ClipId} (h : s.KeepsLaws t) : s.KeepsLaws (t.unbar k a) := by
  unfold State.unbar
  dsimp only
  split
  · split
    · exact ((h.modStation .same).modStation .same).notifyStation
    · exact h.modStation .same
  · exact h

theorem State.KeepsLaws.clipBecameValid {k : ClipId} (h : s.KeepsLaws t) : s.KeepsLaws (t.clipBecameValid k) :=
  State.KeepsLaws.recomputeEvery (h.forEach fun _ _ v => v.unbar)

/-! ### The requests -/

@[simp] theorem done_state (u : State) : (done u).state = u := rfl

@[simp] theorem refuse_state (u : State) (x : Status) : (refuse u x).state = u := rfl

theorem State.KeepsLaws.setHead {n : CrossingId} {x : Aspect} {f : Channel → Channel} (h : s.KeepsLaws t)
    (use : ∀ c, (f c).inUse = c.inUse) (enabled : ∀ c, (f c).enabled = c.enabled) (actual : ∀ c, (f c).actual = c.actual) :
    s.KeepsLaws (t.headSet n x f) := by
  refine h.trans ⟨id, id, id, fun law m => ?_, fun _ => State.headSet_budgetLaw t n x f⟩
  have state (m : CrossingId) : ((t.headSet n x f).crossing m).state = (t.crossing m).state := by
    by_cases e : m = n
    · subst e
      exact Crossing.state_of_core (t.headSet_core m x f)
    · simp [State.headSet, e, Crossing.mapChannels]
  have channel (m : CrossingId) (y : Aspect) : (((t.headSet n x f).crossing m).channel y).inUse = ((t.crossing m).channel y).inUse
      ∧ (((t.headSet n x f).crossing m).channel y).enabled = ((t.crossing m).channel y).enabled
      ∧ (((t.headSet n x f).crossing m).channel y).actual = ((t.crossing m).channel y).actual := by
    have set : (((t.modCrossing n fun c => c.modChannel x f).crossing m).channel y).inUse = ((t.crossing m).channel y).inUse
        ∧ (((t.modCrossing n fun c => c.modChannel x f).crossing m).channel y).enabled = ((t.crossing m).channel y).enabled
        ∧ (((t.modCrossing n fun c => c.modChannel x f).crossing m).channel y).actual = ((t.crossing m).channel y).actual := by
      by_cases e : m = n
      · subst e
        by_cases e : y = x
        · subst e; simp [use, enabled, actual]
        · simp [e]
      · simp [e]
    have budgeted := State.rebudget_channel (t.modCrossing n fun c => c.modChannel x f) m y
    rw [State.headSet, show (((t.modCrossing n fun c => c.modChannel x f).rebudget).crossing m).channel y = _ from budgeted]
    exact set
  obtain ⟨follow, idle⟩ := law m
  refine ⟨fun y => ?_, fun y none => ?_⟩
  · obtain ⟨use, enabled, -⟩ := channel m y
    rw [use, enabled, state]
    exact follow y
  · obtain ⟨use, -, actual⟩ := channel m y
    exact actual.trans (idle y (use.symm.trans none))

theorem State.KeepsLaws.acceptedSync {cycle pos : Half} {mask day : Byte} (h : s.KeepsLaws t) :
    s.KeepsLaws (handleSync cycle pos mask day t).state := by
  unfold handleSync
  split
  · exact h
  · split
    · dsimp only
      exact h.acceptSync.modStreet
    · exact h

theorem State.KeepsLaws.handleSetPlan {n : Byte} {f : PlanFields} (h : s.KeepsLaws t) :
    s.KeepsLaws (handleSetPlan n f t).state := by
  unfold Machine.handleSetPlan
  split
  · exact h
  · split
    · split
      · exact h
      · split
        · exact h
        · next m p _ _ _ _ =>
          have planned := (State.Steady.refl t).modCrossing (n := m) (f := fun c => { c with planned := some ⟨p, .sound⟩ })
          exact h.steady planned.recomputeAll
    · exact h

theorem State.KeepsLaws.handleBindStation {x n ap : Byte} {f : BindFields} (h : s.KeepsLaws t)
    (running : t.startUp.operating = .running) : s.KeepsLaws (handleBindStation x n ap f t).state := by
  unfold Machine.handleBindStation
  split
  · next a b _ bound =>
    have sound := bindingOf_sound bound
    split
    · exact h
    · split
      · next none => exact h.bindFresh running sound none
      · split
        · exact h.bindSame sound
        · exact h.bindElsewhere running sound
  · exact h

theorem State.KeepsLaws.handleClipOpen {k : Byte} {length check : Half} (h : s.KeepsLaws t)
    (running : t.startUp.operating = .running) : s.KeepsLaws (handleClipOpen k length check t).state := by
  unfold Machine.handleClipOpen
  split
  · exact h
  · split
    · exact h
    · next k _ =>
      dsimp only
      generalize (if (t.clip k).state = .empty then 0 else (t.clip k).blocks) = freed
      split
      · exact h
      · split
        · exact h
        · rw [done_state]
          split
          · exact h.clipLeft running
          · next other => exact h.setClip fun valid => absurd valid other

theorem State.KeepsLaws.handleClipData {k : Byte} {offset : Half} {data : List Byte} (h : s.KeepsLaws t) :
    s.KeepsLaws (handleClipData k offset data t).state := by
  unfold Machine.handleClipData
  split
  · exact h
  · dsimp only
    split
    · exact h
    · split
      · exact h
      · exact h.setClip id

theorem State.KeepsLaws.handleClipClose {k : Byte} (h : s.KeepsLaws t) : s.KeepsLaws (handleClipClose k t).state := by
  unfold Machine.handleClipClose
  split
  · exact h
  · dsimp only
    split
    · exact h
    · next held =>
      have loading := not_not.1 (not_or.1 held).1
      split
      · rw [done_state]
        exact (h.setClip fun _ => rfl).clipBecameValid
      · exact h.setClip fun valid => by simp [loading] at valid

theorem State.KeepsLaws.handleClipErase {k : Byte} (h : s.KeepsLaws t) (running : t.startUp.operating = .running) :
    s.KeepsLaws (handleClipErase k t).state := by
  unfold Machine.handleClipErase
  split
  · exact h
  · split
    · exact h
    · next loading => exact h.setClip fun valid => by simp [loading] at valid
    · rw [done_state]
      exact h.clipLeft running

theorem State.running_of_handles {kind : Byte} (h : t.handles kind = true) (query : kind ≠ kindQueryStartUp)
    (restart : kind ≠ kindRestart) : t.startUp.operating = .running := by
  simpa [State.handles, State.running, query, restart] using h

/-- Every request keeps the laws. -/
theorem Owner.keepsLaws {kind : Byte} {owner : State → Answer} (o : Owner kind owner) (h : s.KeepsLaws t)
    (handled : t.handles kind = true) : s.KeepsLaws (owner t).state := by
  cases o with
  | sync cycle pos mask day => exact h.acceptedSync
  | setPlan n f => exact h.handleSetPlan
  | setMode n m =>
    unfold handleSetMode
    split
    · split
      · exact h
      · split
        · exact h
        · exact h.steady (State.Steady.refl t).changeMode
    · exact h
  | clearFault n =>
    unfold handleClearFault
    split
    · exact h
    · rw [done_state]
      split
      · exact h
      · exact h.steady (State.Steady.refl t).clearFault
  | placeCall n ap acc =>
    unfold handlePlaceCall
    split
    · split
      · exact h
      · exact h.steady ((State.Steady.refl t).callEvent fun _ none => by simp at none)
    · exact h
  | cancelCall n ap =>
    unfold handleCancelCall
    split
    · split
      · exact h
      · exact h.steady ((State.Steady.refl t).modCrossing fun c => c.setPlace_sameLamps _ _).placeChanged
    · exact h
  | setHead n x c d e r =>
    unfold handleSetHead
    split
    · split
      · exact h.setHead (fun _ => rfl) (fun _ => rfl) fun _ => rfl
      · exact h
    · exact h
  | bindStation a n ap f => exact h.handleBindStation (State.running_of_handles handled (by decide) (by decide))
  | unbindStation a =>
    unfold handleUnbindStation
    split
    · exact h
    · split
      · exact h
      · rw [done_state]
        exact h.unbind
  | configure =>
    rw [handleConfigure, done_state]
    exact h.configure.takeOverBound
  | unconfigure =>
    unfold handleUnconfigure
    split
    · rw [done_state]
      exact h.unconfigure
    · exact h
  | resetKerbLink =>
    rw [handleResetKerbLink, done_state]
    exact h.kerbReset (State.running_of_handles handled (by decide) (by decide))
  | setPattern k p c i l =>
    have read : s.KeepsLaws t.readAllPlans := h.forCrossings fun _ u => (State.Steady.refl u).checkActive.checkPlanned
    unfold handleSetPattern
    split
    · split
      · dsimp only
        split
        · exact read
        · rw [done_state]
          exact read.setPatternRecord
      · rw [done_state]
        exact h.setPatternRecord
    · exact h
  | clipOpen k length check => exact h.handleClipOpen (State.running_of_handles handled (by decide) (by decide))
  | clipData k offset data => exact h.handleClipData
  | clipClose k => exact h.handleClipClose
  | clipErase k => exact h.handleClipErase (State.running_of_handles handled (by decide) (by decide))
  | queryCrossing n =>
    unfold handleQueryCrossing
    split
    · exact h
    · exact h.steady (State.Steady.refl t).checkActive.checkPlanned
  | queryStation a =>
    unfold handleQueryStation
    split
    · exact h
    · dsimp only
      exact h.modStation .same
  | queryClip k =>
    unfold handleQueryClip
    split
    · exact h
    · exact h
  | queryStartUp => exact h
  | restart => exact h

end

/-! ### Every step -/

theorem State.KeepsLaws.handling {s t : State} (h : s.KeepsLaws t) : s.KeepsLaws t.handling := h.trans ⟨id, id, id, id, id⟩

theorem State.KeepsLaws.withPending {s t : State} {q : List Instr} (h : s.KeepsLaws t) : s.KeepsLaws { t with pending := q } :=
  h.trans ⟨id, id, id, id, id⟩

theorem State.KeepsLaws.replied {s : State} {r : Answer} {kind tag : Byte} (h : s.KeepsLaws r.state) :
    s.KeepsLaws (r.replied kind tag) := by
  unfold Answer.replied
  exact h.modStreet

theorem State.Runs.keepsLaws {s t : State} (h : s.Runs t) : s.KeepsLaws t := by
  have refl := State.Steady.refl s
  cases h with
  | street f _ => exact (State.KeepsLaws.refl s).modStreet
  | request tag o free handled => exact (o.keepsLaws (State.KeepsLaws.refl s).handling handled).replied
  | powerOn => exact .fresh State.reset_station State.reset_crossing rfl
  | selfTest => exact .selfTestStart
  | check found awaits =>
    refine (State.KeepsLaws.refl s).completeCheck ?_
    exact ((s.startUp.awaits_iff found).1 awaits).1
  | tick i => exact (State.KeepsLaws.refl s).tick
  | hostLost _ => exact (State.KeepsLaws.refl s).loseHost
  | leadEnd n _ => exact refl.lightWalk.keepsLaws
  | walkEnd n _ => exact refl.endWalk.keepsLaws
  | clearanceEnd n _ => exact refl.endClearance.keepsLaws
  | bufferEnd n _ => exact refl.releaseWalk.keepsLaws
  | lampOpen n x _ => exact (refl.countOpen (f := fun _ => Config.openLimit)).failChannel.keepsLaws
  | lampShort n x _ => exact refl.failChannel.keepsLaws
  | beacon heard => exact (State.KeepsLaws.refl s).judgeBeacon
  | retry heard => exact (State.KeepsLaws.refl s).judgeRetry
  | reversion _ => exact (State.KeepsLaws.refl s).modLink.lineFaultRevert
  | quietEnd => exact (State.KeepsLaws.refl s).modLink.takeOverBound
  | transaction x reply _ ends => exact (State.KeepsLaws.refl s).endTransaction ends

theorem step_keepsLaws {s t : State} (h : step s = .next t) : s.KeepsLaws t := by
  obtain ⟨q, run⟩ := step_runs h
  exact (State.KeepsLaws.refl s).withPending.trans run.keepsLaws

/-- Settles O55: part control comes and goes with the operations of the Station Table, which leave a station without work. -/
theorem controlLawIsKept : Obligations.ControlLawIsKept := fun _ _ law h => (step_keepsLaws h).control law

/-- Settles O56: a level is only ever set to the target level of the settings in force. -/
theorem levelLawIsKept : Obligations.LevelLawIsKept := fun _ _ law h => (step_keepsLaws h).level law

/-- Settles O57: a clip that leaves VALID leaves every cache in the same step, and jobs are for VALID clips. -/
theorem residentLawIsKept : Obligations.ResidentLawIsKept := fun _ _ law h => (step_keepsLaws h).resident law

/-! ### The cabinet (R87) -/

theorem State.mem_crossings {s : State} {c : Crossing} (h : c ∈ s.crossings.toList) : ∃ n, s.crossing n = c := by
  obtain ⟨i, bound, e⟩ := Vector.mem_iff_getElem.1 (Vector.mem_toList_iff.1 h)
  exact ⟨⟨i, bound⟩, e⟩

/-- R83: no interval state calls for both channels of a crossing. -/
theorem Crossing.LampsFollow.notBoth {c : Crossing} (h : c.LampsFollow) : ¬ (c.walkLamp.inUse = true ∧ c.dontLamp.inUse = true) := by
  rintro ⟨walk, dont⟩
  have calledWalk : c.state.calls .walk = true := by
    have follows : c.walkLamp.inUse = _ := h .walk
    simp only [walk, Crossing.channel, Bool.true_eq, Bool.and_eq_true] at follows
    exact follows.2
  have calledDont : c.state.calls .dont = true := by
    have follows : c.dontLamp.inUse = _ := h .dont
    simp only [dont, Crossing.channel, Bool.true_eq, Bool.and_eq_true] at follows
    exact follows.2
  revert calledWalk calledDont
  cases c.state <;> decide

/-- R87: the clamp leaves at most 200 mA to each crossing, and the limit otherwise stands below 2400 mA. -/
theorem State.appliedSum_le {s : State} (lamp : s.LampLaw) (budget : s.BudgetLaw) : s.appliedSum ≤ 2400 := by
  obtain ⟨limit, applied⟩ := budget
  by_cases clamped : s.budgetLimit = true
  · have each : ∀ x ∈ s.crossings.toList.map fun c => c.walkLamp.applied + c.dontLamp.applied, x ≤ 200 := by
      intro x hx
      obtain ⟨c, hc, rfl⟩ := List.mem_map.1 hx
      obtain ⟨n, rfl⟩ := State.mem_crossings hc
      have walk : (s.crossing n).walkLamp.applied = _ := applied n .walk
      have dont : (s.crossing n).dontLamp.applied = _ := applied n .dont
      have one := (lamp n).1.notBoth
      simp only [clamped, if_true, State.channel, Crossing.channel] at walk dont
      rw [walk, dont]
      by_cases inWalk : (s.crossing n).walkLamp.inUse = true
      · have notDont : ¬ (s.crossing n).dontLamp.inUse = true := fun inDont => one ⟨inWalk, inDont⟩
        rw [if_pos inWalk, if_neg notDont]
        omega
      · rw [if_neg inWalk]
        split <;> omega
    have sum := List.sum_le_card_nsmul _ 200 each
    simp only [List.length_map, Vector.length_toList, smul_eq_mul] at sum
    exact sum.trans (by decide)
  · have same : s.appliedSum = s.nominalSum := by
      unfold State.appliedSum State.nominalSum
      refine congrArg List.sum (List.map_congr_left fun c hc => ?_)
      obtain ⟨n, rfl⟩ := State.mem_crossings hc
      have walk : (s.crossing n).walkLamp.applied = _ := applied n .walk
      have dont : (s.crossing n).dontLamp.applied = _ := applied n .dont
      simp only [clamped, Bool.false_eq_true, if_false, State.channel, Crossing.channel] at walk dont
      rw [walk, dont]
    rw [same]
    by_contra above
    exact clamped (limit.trans (decide_eq_true (not_le.1 above)))

/-- Settles O58: every operation that moves a channel ends with the budget, and no crossing has both channels in use. -/
theorem cabinetNeverOverdrawn : Obligations.CabinetNeverOverdrawn :=
  ⟨fun _ _ lamp budget h => ⟨(step_keepsLaws h).lamp lamp, (step_keepsLaws h).budget budget⟩,
    fun _ => State.appliedSum_le⟩

end Sys2Proof.Machine
end

section
/-! SUPPORT. The laws of the Timebase, the Street Link, the Kerb Link's counters and the blocks through every step. -/

namespace Sys2Proof.Machine

/-- The laws of the Timebase, the Street Link, the line's counters and the blocks held are kept from one state to another. -/
structure State.FrameLaws (s t : State) : Prop where
  time : s.tb.Law → t.tb.Law
  street : s.street.Law → t.street.Law
  line : s.LineLaw → t.LineLaw
  blocks : s.BlocksLaw → t.BlocksLaw

theorem State.FrameLaws.trans {s t u : State} (h : s.FrameLaws t) (k : t.FrameLaws u) : s.FrameLaws u :=
  ⟨k.time ∘ h.time, k.street ∘ h.street, k.line ∘ h.line, k.blocks ∘ h.blocks⟩

/-- They are kept, and the Street Link is as before but for its notices. -/
structure State.KeepsFrames (s t : State) : Prop extends s.FrameLaws t where
  told : t.street = { s.street with notices := t.street.notices, lost := t.street.lost }

theorem State.KeepsFrames.refl (s : State) : s.KeepsFrames s := ⟨⟨id, id, id, id⟩, rfl⟩

theorem State.KeepsFrames.trans {s t u : State} (h : s.KeepsFrames t) (k : t.KeepsFrames u) : s.KeepsFrames u :=
  ⟨h.toFrameLaws.trans k.toFrameLaws, by rw [k.told, h.told]⟩

theorem State.blocksLaw_congr {s t : State} (h : t.clips = s.clips) : t.BlocksLaw ↔ s.BlocksLaw := by
  unfold State.BlocksLaw State.blocksHeld
  rw [h]

/-- What the blocks' operations keep. -/
theorem State.Kept.frames {s t : State} (h : s.Kept t) : s.KeepsFrames t where
  time := fun law => h.tb ▸ law
  street := fun ⟨notices, body, reply⟩ => by
    have same := h.street
    have queue := h.queue notices
    revert queue
    rw [same]
    exact fun queue => ⟨queue, body, reply⟩
  line := fun law => by
    unfold State.LineLaw
    rw [h.link]
    exact law
  blocks := (State.blocksLaw_congr h.clips).2
  told := h.street

section
variable {s t : State}

theorem State.KeepsFrames.kept {u : State} (h : s.KeepsFrames t) (k : t.Kept u) : s.KeepsFrames u := h.trans k.frames

theorem State.KeepsFrames.withDraws {d : Nat} (h : s.KeepsFrames t) : s.KeepsFrames { t with draws := d } :=
  h.trans ⟨⟨id, id, id, id⟩, rfl⟩

theorem State.KeepsFrames.keptOrdered {u : State} {p : Nat → Prop} (h : s.KeepsFrames t)
    (k : ∃ d, p d ∧ ({ t with draws := d } : State).Kept u) : s.KeepsFrames u := by
  obtain ⟨d, -, kept⟩ := k
  exact h.withDraws.kept kept

theorem State.KeepsFrames.forEach {ι : Type} {l : List ι} {f : ι → State → State} (h : s.KeepsFrames t)
    (step : ∀ i u, s.KeepsFrames u → s.KeepsFrames (f i u)) : s.KeepsFrames (forEach l f t) :=
  forEach_keeps s.KeepsFrames f step l t h

theorem State.KeepsFrames.modTimebase {f : Timebase → Timebase} (h : s.KeepsFrames t) (law : t.tb.Law → (f t.tb).Law) :
    s.KeepsFrames (t.modTimebase f) := h.trans ⟨⟨law, id, id, id⟩, rfl⟩

theorem State.KeepsFrames.notify {x : Notice} (h : s.KeepsFrames t) : s.KeepsFrames (t.notify x) :=
  h.kept (State.Kept.refl t).notify

theorem State.KeepsFrames.modStartUp {f : StartUp → StartUp} (h : s.KeepsFrames t) : s.KeepsFrames (t.modStartUp f) :=
  h.trans ⟨⟨id, id, id, id⟩, rfl⟩

theorem State.KeepsFrames.withConfigured {c : Bool} (h : s.KeepsFrames t) : s.KeepsFrames { t with configured := c } :=
  h.trans ⟨⟨id, id, id, id⟩, rfl⟩

/-- A change of the line under which its law stays. -/
theorem State.KeepsFrames.modLink {f : Link → Link} (h : s.KeepsFrames t)
    (law : t.LineLaw → (t.modLink f).LineLaw) : s.KeepsFrames (t.modLink f) := h.trans ⟨⟨id, id, law, id⟩, rfl⟩

/-! ### The Timebase -/

/-- R2, R3: the position a tick produces. -/
theorem Timebase.nextPos_eq {b : Timebase} (h : b.cycle ≠ 0) : b.nextPos =
    if b.pos + b.advanceBy < b.cycle then b.pos + b.advanceBy else b.pos + b.advanceBy - b.cycle := by
  unfold Timebase.nextPos Timebase.wraps
  by_cases below : b.pos + b.advanceBy < b.cycle
  · simp [h, below, not_le.2 below]
  · simp [h, below, not_lt.1 below]

theorem Timebase.advanceBy_eq {b : Timebase} (h : b.cycle ≠ 0) :
    b.advanceBy = if 0 < b.correction then 2 else if b.correction < 0 then 0 else 1 := by
  simp [Timebase.advanceBy, h]

theorem Timebase.advanceBy_le (b : Timebase) : b.advanceBy ≤ 2 := by
  unfold Timebase.advanceBy
  repeat' split
  all_goals decide

/-- R2: a tick works the correction off. -/
theorem Timebase.correctionLeft_range {b : Timebase} (low : -20 ≤ b.correction) (high : b.correction ≤ 20) :
    -20 ≤ b.correctionLeft ∧ b.correctionLeft ≤ 20 ∧ (b.correction = 0 → b.correctionLeft = 0) := by
  unfold Timebase.correctionLeft
  split <;> [skip; split <;> [skip; split]] <;> omega

/-- R2: the tick's advance keeps the ranges of the Timebase. -/
theorem Timebase.Law.advanced {b : Timebase} (h : b.Law) : b.advanced.Law := by
  obtain ⟨cycle, zero, pos, low, high, fresh, lost, still⟩ := h
  obtain ⟨lowLeft, highLeft, stillLeft⟩ := Timebase.correctionLeft_range low high
  refine ⟨cycle, fun none => ?_, fun some => ?_, lowLeft, highLeft, fresh, lost, fun isLost => stillLeft (still isLost)⟩
  · obtain ⟨-, isLost, correction⟩ := zero none
    exact ⟨if_pos none, isLost, stillLeft correction⟩
  · have inside := pos some
    have atMost := b.advanceBy_le
    have length : 300 ≤ b.cycle := by
      have nonzero : b.cycle ≠ 0 := some
      omega
    change b.nextPos < b.cycle
    rw [Timebase.nextPos_eq (b := b) some]
    split <;> omega

/-- R11: presence becomes LOST. -/
theorem Timebase.Law.lost {b : Timebase} (h : b.Law) :
    ({ b with presence := .lost, fresh := Config.freshLimit, correction := 0 } : Timebase).Law := by
  obtain ⟨cycle, zero, pos, -, -, -, -, -⟩ := h
  exact ⟨cycle, fun none => ⟨(zero none).1, rfl, rfl⟩, pos, (by decide : (-20 : Int) ≤ 0), (by decide : (0 : Int) ≤ 20), le_rfl,
    ⟨fun _ => rfl, fun _ => rfl⟩, fun _ => rfl⟩

/-- R8 to R10: an accepted SYNC sets the Timebase to values in range. -/
theorem Timebase.Law.synced {b : Timebase} {found : Presence} {cycle pos : Nat} (h : b.Law) (length : 300 ≤ cycle ∧ cycle ≤ 2400)
    (inside : pos < cycle) (mask : Byte) (d : DayNight) : (Timebase.synced { b with
      mask := mask, fresh := 0, presence := .present, dayNight := d } found cycle pos).Law := by
  obtain ⟨_, _, position, _⟩ := h
  unfold Timebase.synced
  dsimp only
  split
  · next gradual =>
    obtain ⟨-, same, small⟩ := gradual
    subst same
    have nonzero : b.cycle ≠ 0 := by omega
    have limit : Config.driftLimit = 20 := rfl
    rw [limit] at small
    refine ⟨.inr length, fun zero => absurd zero nonzero, position, ?_, ?_, Nat.zero_le _,
      ⟨(nomatch ·), (nomatch ·)⟩, (nomatch ·)⟩ <;> dsimp only <;> omega
  · exact ⟨.inr length, fun zero => by dsimp only at zero; omega, fun _ => inside, (by decide : (-20 : Int) ≤ 0),
      (by decide : (0 : Int) ≤ 20), Nat.zero_le _, ⟨(nomatch ·), (nomatch ·)⟩, (nomatch ·)⟩

theorem State.loseHost_kept (s : State) : ∃ d, (d = s.draws ∨ d = s.draws + 1) ∧
    ({ s with tb := { s.tb with presence := .lost, fresh := 30, correction := 0 }, draws := d } : State).Kept s.loseHost := by
  have lost := (State.Kept.refl { s with tb := { s.tb with presence := .lost, fresh := 30, correction := 0 } }).notify
    (x := .cycle .lost)
  exact lost.forCrossings (moves := fun c => c.state == .starting || c.state == .walk) (f := fun n s => s.hostLossAt n)
    fun _ _ _ k => k.hostLossAt

theorem State.KeepsFrames.loseHost (h : s.KeepsFrames t) : s.KeepsFrames t.loseHost :=
  (h.modTimebase (f := fun b => { b with presence := .lost, fresh := 30, correction := 0 }) fun law => law.lost).keptOrdered
    t.loseHost_kept

theorem State.KeepsFrames.countFreshness (h : s.KeepsFrames t) : s.KeepsFrames t.countFreshness := by
  unfold State.countFreshness
  split
  · exact h
  · next present =>
    split
    · exact h.loseHost
    · next below =>
      refine h.modTimebase fun ⟨cycle, zero, pos, low, high, _, _, _⟩ => ?_
      have limit : Config.freshLimit = 30 := rfl
      rw [limit] at below
      refine ⟨cycle, fun none => ?_, pos, low, high, by dsimp only; omega, ⟨fun lost => ?_, fun full => ?_⟩, fun lost => ?_⟩
      · have lost := (zero none).2.1
        simp [present] at lost
      · simp [present] at lost
      · dsimp only at full
        omega
      · simp [present] at lost

/-- What one effect of an accepted SYNC makes of the Timebase. -/
def Timebase.onWork (found : Presence) (cycle pos : Nat) (d : DayNight) (b : Timebase) : SyncWork → Timebase
  | .fall _ => b
  | .turn => { b with dayNight := d }
  | .position => b.synced found cycle pos

theorem State.doSync_kept (found : Presence) (cycle pos : Nat) (d : DayNight) (w : SyncWork) (s : State) :
    ∃ n, (n = s.draws ∨ n = s.draws + 1) ∧
      ({ s with tb := Timebase.onWork found cycle pos d s.tb w, draws := n } : State).Kept (State.doSync found cycle pos d w s) := by
  cases w with
  | fall n => exact ⟨s.draws, .inl rfl, (State.Kept.refl s).permitFalls⟩
  | turn => exact ⟨s.draws, .inl rfl, s.turn_kept d⟩
  | position => exact s.syncPosition_kept found cycle pos

theorem Timebase.synced_turned (b : Timebase) (found : Presence) (cycle pos : Nat) (d : DayNight) :
    Timebase.synced { b with dayNight := d } found cycle pos = { b.synced found cycle pos with dayNight := d } := by
  unfold Timebase.synced
  dsimp only
  by_cases gradual : found = .present ∧ cycle = b.cycle ∧ (driftOf pos b.pos b.cycle).natAbs ≤ Config.driftLimit
  · rw [if_pos gradual, if_pos gradual]
  · rw [if_neg gradual, if_neg gradual]

/-- Two effects of a SYNC on the Timebase come to the same in either order. -/
theorem Timebase.onWork_comm (found : Presence) (cycle pos : Nat) (d : DayNight) (b : Timebase) (v w : SyncWork)
    (h : v ≠ w) : Timebase.onWork found cycle pos d (Timebase.onWork found cycle pos d b v) w =
      Timebase.onWork found cycle pos d (Timebase.onWork found cycle pos d b w) v := by
  cases v with
  | fall n => rfl
  | turn =>
    cases w with
    | fall n => rfl
    | turn => exact absurd rfl h
    | position => exact b.synced_turned found cycle pos d
  | position =>
    cases w with
    | fall n => rfl
    | turn => exact (b.synced_turned found cycle pos d).symm
    | position => exact absurd rfl h

theorem State.forEach_doSync_tb (found : Presence) (cycle pos : Nat) (d : DayNight) (order : List SyncWork) (s : State) :
    (Machine.forEach order (State.doSync found cycle pos d) s).tb =
      order.foldl (Timebase.onWork found cycle pos d) s.tb := by
  induction order generalizing s with
  | nil => rfl
  | cons w order ih =>
    have first : (State.doSync found cycle pos d w s).tb = Timebase.onWork found cycle pos d s.tb w := by
      obtain ⟨_, _, kept⟩ := State.doSync_kept found cycle pos d w s
      exact kept.tb
    have rest := ih (State.doSync found cycle pos d w s)
    rw [first] at rest
    exact rest

/-- The effects come to the same on the Timebase in every order of a list without repetitions. -/
theorem Timebase.foldl_onWork_perm (found : Presence) (cycle pos : Nat) (d : DayNight) {l m : List SyncWork} (h : l.Perm m)
    (nodup : l.Nodup) (b : Timebase) : l.foldl (Timebase.onWork found cycle pos d) b =
      m.foldl (Timebase.onWork found cycle pos d) b := by
  induction h generalizing b with
  | nil => rfl
  | cons x _ ih => exact ih (List.nodup_cons.1 nodup).2 _
  | swap x y l =>
    have differ : y ≠ x := fun e => (List.nodup_cons.1 nodup).1 (e ▸ List.mem_cons_self)
    rw [List.foldl_cons, List.foldl_cons, List.foldl_cons, List.foldl_cons,
      Timebase.onWork_comm found cycle pos d b y x differ]
  | trans first _ ihFirst ihSecond => exact (ihFirst nodup b).trans (ihSecond (first.nodup_iff.1 nodup) b)

theorem Timebase.foldl_onWork_falls (found : Presence) (cycle pos : Nat) (d : DayNight) (l : List CrossingId) (b : Timebase) :
    (l.map SyncWork.fall).foldl (Timebase.onWork found cycle pos d) b = b := by
  induction l with
  | nil => rfl
  | cons n l ih => exact ih

/-- R5 to R10, R13, R14: the Timebase after an accepted SYNC. -/
theorem State.acceptSync_tb (s : State) (cycle pos : Nat) (mask : Byte) (d : DayNight) :
    (s.acceptSync cycle pos mask d).tb = Timebase.synced { s.tb with
      mask := mask, fresh := 0, presence := .present, dayNight := d } s.tb.presence cycle pos := by
  obtain ⟨order, perm, -, e⟩ := s.acceptSync_order cycle pos mask d
  rw [e, State.forEach_doSync_tb, Timebase.foldl_onWork_perm _ _ _ _ perm (perm.nodup_iff.2 (s.nodup_syncWorks mask d)),
    State.syncWorks, List.foldl_append, List.foldl_append, Timebase.foldl_onWork_falls]
  by_cases same : s.tb.dayNight = d
  · subst same
    simp [Timebase.onWork]
  · simp [same, Timebase.onWork]

theorem State.forEach_doSync_beside (found : Presence) (cycle pos : Nat) (d : DayNight) (order : List SyncWork) (s : State) :
    (s.street.Law → (Machine.forEach order (State.doSync found cycle pos d) s).street.Law)
    ∧ (s.LineLaw → (Machine.forEach order (State.doSync found cycle pos d) s).LineLaw)
    ∧ (s.BlocksLaw → (Machine.forEach order (State.doSync found cycle pos d) s).BlocksLaw)
    ∧ ∃ notices lost, (Machine.forEach order (State.doSync found cycle pos d) s).street =
        { s.street with notices := notices, lost := lost } := by
  refine forEach_keeps (fun u => (s.street.Law → u.street.Law) ∧ (s.LineLaw → u.LineLaw) ∧ (s.BlocksLaw → u.BlocksLaw)
      ∧ ∃ notices lost, u.street = { s.street with notices := notices, lost := lost })
    _ (fun w u ⟨street, line, blocks, notices, lost, told⟩ => ?_) order s ⟨id, id, id, _, _, rfl⟩
  obtain ⟨n, -, kept⟩ := State.doSync_kept found cycle pos d w u
  exact ⟨kept.frames.street ∘ street, kept.frames.line ∘ line, kept.frames.blocks ∘ blocks, _, _,
    kept.street.trans (by rw [told])⟩

theorem State.KeepsFrames.acceptSync {cycle pos : Nat} {mask : Byte} {d : DayNight} (h : s.KeepsFrames t)
    (length : 300 ≤ cycle ∧ cycle ≤ 2400) (inside : pos < cycle) : s.KeepsFrames (t.acceptSync cycle pos mask d) := by
  have time := t.acceptSync_tb cycle pos mask d
  obtain ⟨order, -, -, e⟩ := t.acceptSync_order cycle pos mask d
  obtain ⟨street, line, blocks, notices, lost, told⟩ := State.forEach_doSync_beside t.tb.presence cycle pos d order
    { t with tb := { t.tb with mask := mask, fresh := 0, presence := .present }, draws := t.draws + 1 }
  rw [← e] at street line blocks told
  exact h.trans ⟨⟨fun law => by rw [time]; exact law.synced length inside mask d, street, line, blocks⟩, by rw [told]⟩

/-! ### The Kerb Link -/

theorem State.KeepsFrames.periodicFrom {i : Nat} (h : s.KeepsFrames t) : s.KeepsFrames (t.periodicFrom i) := by
  rw [State.periodicFrom_eq]
  exact h.trans ⟨⟨id, id, id, id⟩, rfl⟩

theorem State.KeepsFrames.proceed {x : Transaction} (h : s.KeepsFrames t) : s.KeepsFrames (t.proceed x) := by
  rw [State.proceed_eq]
  exact h.trans ⟨⟨id, id, id, id⟩, rfl⟩

theorem Ends.frames {x : Transaction} {onOk : State → State} (e : Ends x onOk) (h : s.KeepsFrames t) : s.KeepsFrames (onOk t) := by
  have refl := State.Kept.refl t
  cases e with
  | poll r => exact h.keptOrdered refl.pollOk
  | play p => exact h.kept refl.playDelivered
  | ack => exact h.kept refl.ackDelivered
  | setting x => exact h.kept refl.settingDelivered
  | opened => exact h.kept refl.modJob
  | blockSent => exact h.kept refl.modJob
  | commit good => exact h.kept refl.commitAnswer

theorem State.KeepsFrames.endTransaction {x : Transaction} {reply : KerbReply} {onOk : State → State} (h : s.KeepsFrames t)
    (e : Ends x onOk) : s.KeepsFrames (t.endTransaction x reply onOk) := by
  have idle := h.modLink (f := fun l => { l with activity := .idle }) id
  unfold State.endTransaction
  dsimp only
  refine State.KeepsFrames.proceed ?_
  split
  · exact idle
  · split
    · exact e.frames (idle.kept (State.Kept.refl _).clearFailures)
    all_goals exact idle.kept (State.Kept.refl _).countFailure

theorem State.KeepsFrames.takeOverBound {tell : Bool} (h : s.KeepsFrames t) : s.KeepsFrames (State.takeOverBound tell t) :=
  h.kept (State.Kept.refl t).takeOverBound

theorem State.KeepsFrames.afterBeacon (h : s.KeepsFrames t) : s.KeepsFrames t.afterBeacon := by
  unfold State.afterBeacon
  split
  · exact h.modLink id
  · exact h.periodicFrom

theorem State.KeepsFrames.judgeBeacon {heard : Heard} (h : s.KeepsFrames t) : s.KeepsFrames (t.judgeBeacon heard) := by
  unfold State.judgeBeacon
  split
  · split
    · exact h.takeOverBound.afterBeacon
    · exact h.afterBeacon
  · exact h.modLink fun ⟨_, _, quiet, _⟩ => ⟨Nat.zero_le _, Nat.zero_le _, quiet, (nomatch ·)⟩

theorem State.KeepsFrames.judgeRetry {heard : Heard} (h : s.KeepsFrames t) : s.KeepsFrames (t.judgeRetry heard) := by
  unfold State.judgeRetry
  split
  · have recovered := h.modLink (f := fun l => { l with line := .up, faultAge := 0, retry := 0 })
      fun ⟨_, _, quiet, _⟩ => ⟨Nat.zero_le _, Nat.zero_le _, quiet, fun _ => ⟨rfl, rfl⟩⟩
    exact recovered.takeOverBound.afterBeacon
  · exact h.modLink id

theorem State.KeepsFrames.sendBeacon {retried : Bool} (h : s.KeepsFrames t) : s.KeepsFrames (t.sendBeacon retried) :=
  h.modLink (f := fun l => { l with
    activity := .beacon retried, sent := beaconBytes t.link.frame t.configuredBit, used := l.used + Config.beaconMicros }) id

/-- R110: one frame of a line in FAULT. -/
theorem State.KeepsFrames.faultFrame (h : s.KeepsFrames t) (fault : t.link.line = .fault) : s.KeepsFrames t.faultFrame := by
  have counted := h.modLink (f := fun l => { l with
      faultAge := min Config.faultAgeLimit (l.faultAge + 1)
      retry := if Config.retryLimit ≤ t.link.retry + 1 then 0 else l.retry + 1 }) fun ⟨age, retry, quiet, _⟩ => by
    have ageLimit : Config.faultAgeLimit = 20 := rfl
    have retryLimit : Config.retryLimit = 10 := rfl
    refine ⟨?_, ?_, quiet, fun up => ?_⟩
    · simp only [State.modLink_link, ageLimit]
      omega
    · simp only [State.modLink_link, retryLimit]
      split <;> omega
    · simp [fault] at up
  unfold State.faultFrame
  dsimp only
  have reverted {p : Prop} [Decidable p] {u : State} (k : s.KeepsFrames u) : s.KeepsFrames (if p then u.lineFaultRevert else u) := by
    split
    · exact k.kept (State.Kept.refl u).lineFaultRevert
    · exact k
  split
  · refine (reverted ?_).sendBeacon
    simpa only [*, if_true] using counted
  · refine reverted ?_
    simpa only [*, if_false] using counted

theorem State.KeepsFrames.openFrame (h : s.KeepsFrames t) : s.KeepsFrames t.openFrame := by
  have opened := h.modLink (f := Link.opened) id
  unfold State.openFrame
  dsimp only
  have quieter {u : State} (k : s.KeepsFrames u) : s.KeepsFrames (u.modLink fun l => { l with quiet := l.quiet - 1 }) :=
    k.modLink fun ⟨age, retry, quiet, up⟩ => ⟨age, retry, by simp only [State.modLink_link]; omega, up⟩
  refine quieter ?_
  split
  · exact opened.sendBeacon
  · next fault => exact opened.faultFrame fault

/-! ### The clips (R148) -/

/-- R148: the blocks a clip holds. -/
def Clip.held (c : Clip) : Nat := if c.state = .empty then 0 else c.blocks

theorem sum_set_add (l : List Nat) (i : Nat) (x : Nat) (h : i < l.length) : (l.set i x).sum + l[i] = l.sum + x := by
  induction l generalizing i with
  | nil => simp at h
  | cons y l ih =>
    cases i with
    | zero => simp; omega
    | succ i =>
      have rest := ih i (by simpa using h)
      simp only [List.set_cons_succ, List.sum_cons, List.getElem_cons_succ]
      omega

theorem State.blocksHeld_setClip (s : State) (k : ClipId) (c : Clip) :
    (s.setClip k c).blocksHeld + (s.clip k).held = s.blocksHeld + c.held := by
  have set := sum_set_add (s.clips.toList.map Clip.held) k.val c.held (by simp)
  have same : (s.setClip k c).clips.toList.map Clip.held = (s.clips.toList.map Clip.held).set k.val c.held := by
    rw [State.setClip, Vector.toList_set, List.map_set]
  rw [← same] at set
  have at_ : (s.clips.toList.map Clip.held)[k.val]'(by simp) = (s.clip k).held := by simp [State.clip]
  rw [at_] at set
  exact set

/-- A clip that holds no more blocks than before. -/
theorem State.KeepsFrames.setClip {k : ClipId} {c : Clip} (h : s.KeepsFrames t) (less : c.held ≤ (t.clip k).held) :
    s.KeepsFrames (t.setClip k c) :=
  h.trans ⟨⟨id, id, id, fun law => by
    have sum := t.blocksHeld_setClip k c
    unfold State.BlocksLaw at law ⊢
    omega⟩, rfl⟩

/-- Clips each of which holds no more blocks than before. -/
theorem State.KeepsFrames.mapClips {f : Clip → Clip} {e : Bool} (h : s.KeepsFrames t) (less : ∀ c, (f c).held ≤ c.held) :
    s.KeepsFrames { t with libraryEnabled := e, clips := tableMap f t.clips } :=
  h.trans ⟨⟨id, id, id, fun law => by
    have sum : (t.clips.toList.map fun c => (f c).held).sum ≤ (t.clips.toList.map Clip.held).sum :=
      List.sum_le_sum fun c _ => less c
    have mapped : ({ t with libraryEnabled := e, clips := tableMap f t.clips } : State).blocksHeld =
        (t.clips.toList.map fun c => (f c).held).sum := by
      change ((tableMap f t.clips).toList.map Clip.held).sum = _
      have list : (tableMap f t.clips).toList = t.clips.toList.map f := rfl
      rw [list, List.map_map]
      rfl
    unfold State.BlocksLaw
    rw [mapped]
    exact sum.trans law⟩, rfl⟩

theorem Clip.held_empty : ({} : Clip).held = 0 := rfl

theorem State.KeepsFrames.upset {x : Upset} (h : s.KeepsFrames t) : s.KeepsFrames (t.upset x) := by
  cases x with
  | plan n slot correctable =>
    cases slot <;> unfold State.upset <;> exact h.kept (State.Kept.refl t).modCrossing
  | clipByte k i v => exact h.setClip le_rfl

theorem State.KeepsFrames.doWork {was : State} {load : Vector Nat 16} {wrap : Bool} {w : TickWork} (h : s.KeepsFrames t) :
    s.KeepsFrames (State.doWork was load wrap w t) := by
  have refl := State.Kept.refl t
  cases w with
  | freshness => exact h.countFreshness
  | swap =>
    cases wrap
    · exact h
    · exact h.kept refl.swapAll
  | crossing n => exact h.kept refl.releaseAtThisTick.tickCrossing
  | test n x => exact h.kept refl.testChannel
  | ramps => exact h.kept refl.rampAll

theorem State.KeepsFrames.tick {i : TickInputs} (h : s.KeepsFrames t) : s.KeepsFrames (t.tick i) := by
  have moved := h.modTimebase (f := Timebase.advanced) Timebase.Law.advanced
  have opened : s.KeepsFrames ((t.modTimebase Timebase.advanced).when (t.modTimebase Timebase.advanced).running State.openFrame) := by
    unfold State.when
    split
    · exact moved.openFrame
    · exact moved
  unfold State.tick
  dsimp only
  exact State.KeepsFrames.forEach (f := fun x u => u.upset x) (opened.forEach fun _ _ k => k.doWork) fun _ _ k => k.upset

/-! ### The self-test -/

theorem State.KeepsFrames.pulseAll {v : Vector Pulse 16} (h : s.KeepsFrames t) : s.KeepsFrames (t.pulseAll v) := by
  have failed {u : State} {n : CrossingId} {x : Aspect} (k : s.KeepsFrames u) : s.KeepsFrames (u.pulseFailed n x) := by
    unfold State.pulseFailed
    exact (k.kept (State.Kept.refl u).disableChannel.modCrossing).modStartUp
  refine h.forEach fun n u k => ?_
  have first : s.KeepsFrames (if pulseFails v[channelIndex n .walk] then u.pulseFailed n .walk else u) := by
    split
    · exact failed k
    · exact k
  dsimp only
  split
  · exact failed first
  · exact first

theorem State.KeepsFrames.checkEffect {c : Check} {found : CheckInputs} (h : s.KeepsFrames t) :
    s.KeepsFrames (t.checkEffect c found) := by
  cases c with
  | planMemory => exact h.trans ⟨⟨id, id, id, id⟩, rfl⟩
  | clipMemory =>
    unfold State.checkEffect
    dsimp only
    split
    · refine h.mapClips fun c => ?_
      unfold Clip.reverified
      split
      · rw [Clip.held_empty]
        exact Nat.zero_le _
      · exact le_rfl
    · exact h.mapClips fun c => Nat.zero_le _
  | headDrivers => exact h.pulseAll
  | kerbLine =>
    unfold State.checkEffect
    dsimp only
    split
    · exact h
    · exact h.modLink fun ⟨_, _, quiet, _⟩ => ⟨Nat.zero_le _, Nat.zero_le _, quiet, (nomatch ·)⟩
  | configRom => exact h
  | workMemory => exact h
  | streetLine => exact h

theorem State.KeepsFrames.endSelfTest {o : OperatingState} (h : s.KeepsFrames t) : s.KeepsFrames (t.endSelfTest o) := by
  unfold State.endSelfTest
  dsimp only
  refine State.KeepsFrames.notify ?_
  split
  · exact h.modStartUp.modLink id
  · exact h.modStartUp

theorem State.KeepsFrames.completeCheck {c : Check} {found : CheckInputs} (h : s.KeepsFrames t) :
    s.KeepsFrames (t.completeCheck c found) := by
  unfold State.completeCheck
  dsimp only
  split
  · split
    · exact h.modStartUp.checkEffect
    · exact h.modStartUp.checkEffect.endSelfTest
  · split
    · exact h.modStartUp.checkEffect
    · exact h.modStartUp.checkEffect.endSelfTest
  · exact h.modStartUp.checkEffect.endSelfTest
  · exact h.modStartUp.checkEffect

theorem Timebase.law_reset : State.reset.tb.Law :=
  ⟨by decide, by decide, by decide, by decide, by decide, by decide, by decide, by decide⟩

theorem Street.law_reset : State.reset.street.Law := ⟨by decide, fun _ _ e => (nomatch e), (nomatch ·)⟩

theorem State.lineLaw_reset : State.reset.LineLaw := ⟨by decide, by decide, by decide, fun _ => ⟨rfl, rfl⟩⟩

theorem State.blocksLaw_reset : State.reset.BlocksLaw := by
  have none : State.reset.blocksHeld = 0 := by decide
  rw [State.BlocksLaw, none]
  exact Nat.zero_le _

theorem State.selfTestStart_frames : t.FrameLaws t.selfTestStart := by
  have clips : t.KeepsFrames { t with libraryEnabled := t.libraryEnabled, clips := tableMap Clip.restarted t.clips } :=
    (State.KeepsFrames.refl t).mapClips fun c => by
      unfold Clip.restarted
      split
      · exact le_rfl
      all_goals exact Nat.zero_le _
  exact ⟨fun _ => Timebase.law_reset, fun _ => Street.law_reset, fun _ => State.lineLaw_reset, fun law => clips.blocks law⟩

/-! ### The requests -/

theorem State.KeepsFrames.handleClipOpen {k : Byte} {length check : Half} (h : s.KeepsFrames t) :
    s.KeepsFrames (handleClipOpen k length check t).state := by
  unfold Machine.handleClipOpen
  split
  · exact h
  · split
    · exact h
    · next k _ =>
      dsimp only
      have held : (if (t.clip k).state = .empty then 0 else (t.clip k).blocks) = (t.clip k).held := rfl
      rw [held]
      split
      · exact h
      · split
        · exact h
        · next room =>
          have loaded : s.KeepsFrames (t.setClip k ⟨.loading, length.toNat, ceilDiv length.toNat Config.blockBytes, check, 0, []⟩) :=
            h.trans ⟨⟨id, id, id, fun law => by
              have sum := t.blocksHeld_setClip k ⟨.loading, length.toNat, ceilDiv length.toNat Config.blockBytes, check, 0, []⟩
              have size : (⟨.loading, length.toNat, ceilDiv length.toNat Config.blockBytes, check, 0, []⟩ : Clip).held =
                ceilDiv length.toNat Config.blockBytes := rfl
              have store : Config.storeBlocks = 4096 := rfl
              rw [size] at sum
              rw [State.freeBlocks, store] at room
              unfold State.BlocksLaw at law ⊢
              omega⟩, rfl⟩
          rw [done_state]
          split
          · exact loaded.keptOrdered (State.Kept.refl _).clipLeftValid
          · exact loaded

/-- Every request keeps the laws of the Timebase, the links and the blocks. -/
theorem Owner.frames {kind : Byte} {owner : State → Answer} (o : Owner kind owner) (h : s.KeepsFrames t) :
    s.KeepsFrames (owner t).state := by
  have refl := State.Kept.refl t
  cases o with
  | sync cycle pos mask day =>
    unfold handleSync
    split
    · exact h
    · split
      · next d _ range =>
        dsimp only
        have synced := h.acceptSync (mask := mask) (d := d) ⟨range.1, range.2.1⟩ range.2.2
        exact ⟨⟨synced.time, fun law => ⟨(synced.street law).notices, (synced.street law).body, (synced.street law).reply⟩,
          synced.line, synced.blocks⟩, by rw [State.modStreet_street, synced.told]⟩
      · exact h
  | setPlan n f =>
    unfold handleSetPlan
    split
    · exact h
    · split
      · split
        · exact h
        · split
          · exact h
          · exact h.kept refl.modCrossing.recomputeAll
      · exact h
  | setMode n m =>
    unfold handleSetMode
    split
    · split
      · exact h
      · split
        · exact h
        · exact h.kept refl.changeMode
    · exact h
  | clearFault n =>
    unfold handleClearFault
    split
    · exact h
    · rw [done_state]
      split
      · exact h
      · exact h.kept refl.clearFault
  | placeCall n ap acc =>
    unfold handlePlaceCall
    split
    · split
      · exact h
      · exact h.kept refl.callEvent
    · exact h
  | cancelCall n ap =>
    unfold handleCancelCall
    split
    · split
      · exact h
      · exact h.kept refl.modCrossing.placeChanged
    · exact h
  | setHead n x c d e r =>
    unfold handleSetHead
    split
    · split
      · exact h.kept refl.modCrossing.rebudget
      · exact h
    · exact h
  | bindStation a n ap f =>
    unfold handleBindStation
    split
    · split
      · exact h
      · split
        · exact h.kept refl.bindFresh
        · split
          · exact h.kept refl.bindSame
          · exact h.kept refl.bindElsewhere
    · exact h
  | unbindStation a =>
    unfold handleUnbindStation
    split
    · exact h
    · split
      · exact h
      · exact h.kept refl.clearWork.setStation
  | configure =>
    rw [handleConfigure, done_state]
    exact h.withConfigured.takeOverBound
  | unconfigure =>
    unfold handleUnconfigure
    split
    · rw [done_state]
      exact h.withConfigured.kept ((State.Kept.refl _).forEach fun _ _ k => k.revert)
    · exact h
  | resetKerbLink =>
    rw [handleResetKerbLink, done_state]
    have reset := h.kept (refl.forEach (l := allStations) (f := fun a s => s.kerbResetAt a) fun _ _ k => k.kerbResetAt)
    unfold State.kerbReset
    generalize forEach allStations (fun a s => s.kerbResetAt a) t = u at reset ⊢
    exact reset.modLink fun ⟨age, retry, _, up⟩ => ⟨age, retry, le_refl 20, up⟩
  | setPattern k p c i l =>
    have recorded {u : State} {k : PatternId} {p : Option Pattern} (h : s.KeepsFrames u) : s.KeepsFrames (u.setPatternRecord k p) := by
      unfold State.setPatternRecord
      have written : s.KeepsFrames { u with patterns := u.patterns.set k p } := h.trans ⟨⟨id, id, id, id⟩, rfl⟩
      refine written.kept ((State.Kept.refl _).forEach fun _ _ k => ?_)
      split
      · exact k.addSetting
      · exact k
    have read : s.KeepsFrames t.readAllPlans := h.keptOrdered refl.readAllPlans
    unfold handleSetPattern
    split
    · split
      · dsimp only
        split
        · exact read
        · rw [done_state]
          exact recorded read
      · rw [done_state]
        exact recorded h
    · exact h
  | clipOpen k length check => exact h.handleClipOpen
  | clipData k offset data =>
    unfold handleClipData
    split
    · exact h
    · dsimp only
      split
      · exact h
      · split
        · exact h
        · exact h.setClip le_rfl
  | clipClose k =>
    unfold handleClipClose
    split
    · exact h
    · dsimp only
      split
      · exact h
      · next held =>
        have loading := not_not.1 (not_or.1 held).1
        split
        · rw [done_state]
          refine (h.setClip ?_).keptOrdered (State.Kept.refl _).clipBecameValid
          simp [Clip.held, loading]
        · exact h.setClip (Nat.zero_le _)
  | clipErase k =>
    unfold handleClipErase
    split
    · exact h
    · split
      · exact h
      · exact h.setClip (Nat.zero_le _)
      · rw [done_state]
        exact (h.setClip (Nat.zero_le _)).keptOrdered (State.Kept.refl _).clipLeftValid
  | queryCrossing n =>
    unfold handleQueryCrossing
    split
    · exact h
    · exact h.kept refl.checkActive.checkPlanned
  | queryStation a =>
    unfold handleQueryStation
    split
    · exact h
    · dsimp only
      exact h.kept refl.modStation
  | queryClip k =>
    unfold handleQueryClip
    split
    · exact h
    · exact h
  | queryStartUp => exact h
  | restart => exact h

/-- R163: a request's handling and its reply keep the reception well formed. -/
theorem Owner.replied_frames {kind : Byte} {owner : State → Answer} (o : Owner kind owner) (tag : Byte) :
    s.FrameLaws ((owner s.handling).replied kind tag) := by
  have handling : s.FrameLaws s.handling :=
    ⟨id, fun law => ⟨law.notices, fun _ _ e => (nomatch e), fun _ => rfl⟩, id, id⟩
  have handled := o.frames (State.KeepsFrames.refl s.handling)
  have busy : (owner s.handling).state.street.busy = true := congrArg Street.busy handled.told
  refine handling.trans (handled.toFrameLaws.trans ?_)
  unfold Answer.replied
  exact ⟨id, fun law => ⟨law.notices, law.body, fun _ => busy⟩, id, id⟩

end

/-! ### Every step -/

theorem State.Runs.frames {s t : State} (h : s.Runs t) : s.FrameLaws t := by
  have refl := State.KeepsFrames.refl s
  have kept := State.Kept.refl s
  cases h with
  | street f keeps => exact ⟨id, keeps, id, id⟩
  | request tag o free handled => exact o.replied_frames tag
  | powerOn => exact ⟨fun _ => Timebase.law_reset, fun _ => Street.law_reset, fun _ => State.lineLaw_reset,
      fun _ => State.blocksLaw_reset⟩
  | selfTest => exact State.selfTestStart_frames
  | check found awaits => exact (refl.completeCheck).toFrameLaws
  | tick i => exact (refl.tick).toFrameLaws
  | hostLost _ => exact (refl.loseHost).toFrameLaws
  | leadEnd n _ => exact kept.lightWalk.frames.toFrameLaws
  | walkEnd n _ => exact kept.endWalk.frames.toFrameLaws
  | clearanceEnd n _ => exact kept.endClearance.frames.toFrameLaws
  | bufferEnd n _ => exact kept.releaseWalk.frames.toFrameLaws
  | lampOpen n x _ => exact kept.modCrossing.failChannel.frames.toFrameLaws
  | lampShort n x _ => exact kept.failChannel.frames.toFrameLaws
  | beacon heard => exact (refl.judgeBeacon).toFrameLaws
  | retry heard => exact (refl.judgeRetry).toFrameLaws
  | reversion due =>
    exact ((refl.modLink (f := fun l => { l with faultAge := Config.faultAgeLimit }) fun ⟨_, tries, quiet, _⟩ => ⟨le_rfl, tries, quiet, fun up => by simp [due] at up⟩).kept
      (State.Kept.refl _).lineFaultRevert).toFrameLaws
  | quietEnd =>
    exact (refl.modLink (f := fun l => { l with quiet := 0 }) fun ⟨age, tries, _, up⟩ => ⟨age, tries, Nat.zero_le _, up⟩).takeOverBound.toFrameLaws
  | transaction x reply _ ends => exact (refl.endTransaction ends).toFrameLaws

theorem step_frames {s t : State} (h : step s = .next t) : s.FrameLaws t := by
  obtain ⟨q, run⟩ := step_runs h
  have dequeued : s.FrameLaws { s with pending := q } := ⟨id, id, id, id⟩
  exact dequeued.trans run.frames

/-- Settles O52: the position moves by ticks and SYNCs alone, and presence by these and the loss of the host. -/
theorem timebaseLawIsKept : Obligations.TimebaseLawIsKept := fun _ _ law h => (step_frames h).time law

/-- Settles O53: every notice passes the queue's bound, and a reply only ever joins a request in progress. -/
theorem streetLawsAreKept : Obligations.StreetLawsAreKept := fun s t notices reception h =>
  (Street.law_iff t).1 ((step_frames h).street ((Street.law_iff s).2 ⟨notices, reception⟩))

/-- Settles O54: the line's counters are counted up to their limits, and a CLIP OPEN is checked against the free blocks. -/
theorem lineAndBlocksLawsAreKept : Obligations.LineAndBlocksLawsAreKept := fun _ _ h =>
  ⟨(step_frames h).line, (step_frames h).blocks⟩

end Sys2Proof.Machine
end

section
/-! SUPPORT. The queue, the start of the part, the requests by their kinds and the Street Link's line. -/

namespace Sys2Proof.Machine

/-! ### The queue and the start -/

/-- Settles O1: both clauses are the definition of the step. -/
theorem stepRunsTheFrontCommand : Obligations.StepRunsTheFrontCommand :=
  ⟨fun _ _ _ => rfl, fun s h => by simp [step, h]⟩

theorem State.reset_patternOf (k : PatternId) (h : 4 ≤ k.val) : State.reset.patternOf (k.val + 1) = none := by
  revert k
  decide

/-- Settles O2: the tables of the manual are the defaults of the state's fields. -/
theorem powerOnSetsResetValues : Obligations.PowerOnSetsResetValues := by
  intro s
  refine ⟨_, rfl, rfl, rfl, fun n => ?_, rfl, fun a => ?_, rfl, rfl, rfl, rfl, rfl, rfl, State.reset_patternOf, rfl, fun k => ?_,
    rfl, rfl⟩
  · exact State.reset_crossing n
  · exact State.reset_station a
  · change State.reset.clip k = _
    simp [State.reset, State.clip]

/-- Settles O3: a self-test start counts its number up, so no completion of the old one is awaited. -/
theorem restartKeepsOnlyValidClips : Obligations.RestartKeepsOnlyValidClips := by
  intro s bytes sending
  refine ⟨s.selfTestStart, { State.reset with startUp := s.startUp.restarted, draws := s.draws, pending := s.pending }, ?_, ?_,
    rfl, fun k => ?_, rfl, rfl, fun found earlier => ?_⟩
  · change execSelfTestStart s = _
    rw [execSelfTestStart, sending]
  · change Host.Outcome.next s.frameSent = _
    rw [State.frameSent, sending]
    rfl
  · have restarted : s.selfTestStart.clip k = (s.clip k).restarted := tableMap_getElem _ _ _ _
    have reset : State.reset.clip k = {} := by simp [State.reset, State.clip]
    rw [restarted, show ({ State.reset with startUp := s.startUp.restarted, draws := s.draws, pending := s.pending } : State).clip k
      = {} from reset, Clip.restarted]
    cases (s.clip k).state <;> rfl
  · have ended := StartUp.restarted_awaits_earlier s.startUp found earlier
    change Host.Outcome.next (if s.selfTestStart.startUp.awaits found then _ else _) = _
    rw [State.selfTestStart_startUp, ended]
    rfl

/-- Settles O60: the state after reset, law by law. -/
theorem resetMeetsTheLaws : Obligations.ResetMeetsTheLaws := by
  obtain ⟨notices, reception⟩ := (Street.law_iff State.reset).1 Street.law_reset
  obtain ⟨control, level, resident, lamp, budget⟩ := State.fresh_laws State.reset_station State.reset_crossing rfl
  refine ⟨Timebase.law_reset, notices, reception, State.lineLaw_reset, State.blocksLaw_reset, control, level, resident, lamp,
    budget, fun n => ?_, fun n => ?_⟩
  · unfold State.channel
    rw [State.reset_crossing]
    exact ⟨rfl, fun w e => by simp at e, fun _ => .inl rfl, fun e => by simp at e, fun x use => by cases x <;> simp [Crossing.channel] at use,
      fun _ => ⟨rfl, rfl⟩⟩
  · rw [State.reset_crossing]

/-! ### Requests by their kinds -/

/-- Table 10-2: a request's command is its kind's request. -/
theorem exec_request {c : Instr} {kind tag : Byte} (h : requestKind c = some (kind, tag)) :
    ∃ owner, ∀ s, exec c s = .next (s.takeRequest kind tag true owner) := by
  cases c <;> simp only [requestKind, Option.some.injEq, Prod.mk.injEq, reduceCtorEq] at h
  case clipData tag' clip offset data =>
    split at h
    · next fits =>
      simp only [Option.some.injEq, Prod.mk.injEq] at h
      obtain ⟨rfl, rfl⟩ := h
      refine ⟨handleClipData clip offset data, fun s => ?_⟩
      have good : dataFits data.length = true := by simp [dataFits, fits]
      change execClipData tag' clip offset data s = _
      rw [execClipData, good]
    · simp at h
  all_goals
    obtain ⟨rfl, rfl⟩ := h
    exact ⟨_, fun s => rfl⟩

/-- Settles O51: every request passes `State.takeRequest`, whose checks come before its owner's. -/
theorem requestsOutsideRunningChangeNothing : Obligations.RequestsOutsideRunningChangeNothing := by
  intro s c kind tag request
  obtain ⟨owner, runs⟩ := exec_request request
  refine ⟨fun busy => ?_, fun free other query restart => ?_, fun clip offset data free length => ?_⟩
  · rw [runs, State.takeRequest_busy s kind tag true owner busy]
    rfl
  · rw [runs, State.takeRequest_badState s kind tag owner free other query restart]
  · have bad : dataFits data.length = false := by
      rcases length with rfl | long
      · rfl
      · simp only [dataFits, Bool.and_eq_false_iff, decide_eq_false_iff_not]
        omega
    change execClipData tag clip offset data s = _
    rw [execClipData, bad, State.takeRequest_badLength s _ tag _ free]

/-- Settles O48: each of these reaches the receiver alone. -/
theorem discardsAreSilent : Obligations.DiscardsAreSilent := by
  intro s
  have unchanged (h : s.street.receiver = .hunt) : s = { s with street := { s.street with receiver := .hunt } } := by
    rw [← h]
  have discards : (match s.street.receiver with | .hunt => s | .length | .body _ _ => s.received) =
      { s with street := { s.street with receiver := .hunt } } := by
    split
    · next h => exact unchanged h
    all_goals rfl
  refine ⟨rfl, congrArg Host.Outcome.next discards, congrArg Host.Outcome.next discards, rfl, fun kind tag payload other => ?_⟩
  have unknown : requestOf kind payload = none := by
    unfold requestOf
    split
    all_goals first
      | rfl
      | next e => rcases other with rfl | above <;> simp_all
  have runs : exec (.unknownKind kind tag payload) s = .next (s.takeUnknown kind tag) := by
    change Host.Outcome.next (s.takeFrame kind tag payload) = _
    rw [State.takeFrame, unknown]
  refine ⟨fun busy => ?_, fun free => ?_⟩
  · have discarded : s.takeUnknown kind tag = s.received := if_pos (show s.received.street.busy = true from busy)
    rw [runs, discarded]
    rfl
  · rw [runs, State.takeUnknown]
    simp only [State.received, State.modStreet_street, free, Bool.false_eq_true, if_false]
    simp only [Answer.replied, refuse, reduceCtorEq, and_false, if_false]
    rfl

/-! ### The outgoing line -/

/-- Settles O50: the three choices of the free line. -/
theorem outgoingLineServesTheReplyFirst : Obligations.OutgoingLineServesTheReplyFirst := by
  intro s u begun told
  refine ⟨fun f sending reply => ?_, fun n rest sending reply free notices => ?_, fun f sending cls => ?_⟩
  · have begins : s.street.replyCanBegin = true := by
      change (u.sending.isNone && u.reply.isSome) = true
      rw [sending, reply]
      rfl
    change Host.Outcome.next (if _ then _ else _) = _
    rw [begins, if_pos rfl, State.modStreet, Street.beginReply, show s.street.reply = some f from reply]
  · have begins : s.street.noticeCanBegin = true := by
      change (u.sending.isNone && u.reply.isNone && !u.busy && !u.notices.isEmpty) = true
      rw [sending, reply, free, notices]
      rfl
    change Host.Outcome.next (if _ then _ else _) = _
    rw [begins, if_pos rfl, State.modStreet, Street.beginNotice, show s.street.notices = n :: rest from notices]
    rfl
  · have sent : exec .frameSent s = .next (s.modStreet fun t => ({ t with sending := none } : Street).choose) := by
      change Host.Outcome.next s.frameSent = _
      rw [State.frameSent, show s.street.sending = some f from sending]
      dsimp only
      rw [if_neg cls]
    refine ⟨fun g reply => ?_, fun n rest reply free notices => ?_, fun reply silent => ?_⟩
    · rw [sent, State.modStreet, Street.choose, if_pos (by
        change (none.isNone && u.reply.isSome) = true
        rw [reply]
        rfl), Street.beginReply]
      exact congrArg Host.Outcome.next (by rw [show s.street.reply = some g from reply])
    · have noReply : ({ s.street with sending := none } : Street).replyCanBegin = false := by
        change (none.isNone && u.reply.isSome) = false
        rw [reply]
        rfl
      have begins : ({ s.street with sending := none } : Street).noticeCanBegin = true := by
        change (none.isNone && u.reply.isNone && !u.busy && !u.notices.isEmpty) = true
        rw [reply, free, notices]
        rfl
      rw [sent, State.modStreet, Street.choose, noReply, begins]
      simp only [Bool.false_eq_true, if_false, if_true, Street.beginNotice, show s.street.notices = n :: rest from notices]
      rfl
    · have noReply : ({ s.street with sending := none } : Street).replyCanBegin = false := by
        change (none.isNone && u.reply.isSome) = false
        rw [reply]
        rfl
      have noNotice : ({ s.street with sending := none } : Street).noticeCanBegin = false := by
        change (none.isNone && u.reply.isNone && !u.busy && !u.notices.isEmpty) = false
        rcases silent with busy | empty
        · rw [busy]
          simp
        · rw [empty]
          simp
      rw [sent, State.modStreet, Street.choose, noReply, noNotice]
      rfl

end Sys2Proof.Machine
end

section
/-! SUPPORT. The bytes of the Street Link: the receiver, the requests a payload spells, and the reports of the queries. -/

namespace Sys2Proof.Machine

/-! ### The receiver -/

theorem exec_byte (s : State) (b : Byte) : exec (.streetLinkByteReceived b) s = .next (s.receiveByte b) := rfl

theorem exec_unknownKind (s : State) (kind tag : Byte) (payload : List Byte) :
    exec (.unknownKind kind tag payload) s = .next (s.takeFrame kind tag payload) := rfl

theorem withCrc_eq (bs : List Byte) : withCrc bs = bs ++ [byte ((crc16 bs).toNat / 256), byte (crc16 bs).toNat] := rfl

/-- R162: a byte joins the frame under reception; the last one completes it. -/
theorem State.receiveByte_body {s : State} {l b : Byte} {got : List Byte} (h : s.street.receiver = .body l got) :
    s.receiveByte b = if l.toNat + 2 ≤ (got ++ [b]).length then s.completeFrame l (got ++ [b])
      else s.modStreet fun t => { t with receiver := .body l (got ++ [b]) } := by
  unfold State.receiveByte
  rw [h]

theorem State.receiver_eta {s : State} {r : Receiver} (h : s.street.receiver = r) :
    s = { s with street := { s.street with receiver := r } } := by rw [← h]

/-- R162: the last byte of a good frame hands its kind, its tag and its payload on. -/
theorem State.receiveByte_good {s : State} {l b kind tag : Byte} {got payload : List Byte}
    (h : s.street.receiver = .body l got) (length : l.toNat = payload.length + 2)
    (good : l :: (got ++ [b]) = withCrc (l :: kind :: tag :: payload)) : s.receiveByte b = s.takeFrame kind tag payload := by
  have bytes : got ++ [b] = (kind :: tag :: payload) ++ half (crc16 (l :: kind :: tag :: payload)).toNat := by
    have same := List.cons.inj good
    exact same.2
  have whole : l.toNat + 2 ≤ (got ++ [b]).length := by
    rw [bytes]
    simp [half, length]
  have body : (got ++ [b]).take l.toNat = kind :: tag :: payload := by
    rw [bytes, length]
    exact List.take_left' rfl
  rw [State.receiveByte_body h, if_pos whole, State.completeFrame]
  rw [body, if_pos good]
  rfl

/-! ### The requests a payload spells -/

/-- R176: a number's two bytes give the number back. -/
theorem halfOf_bytes (x : Half) : halfOf (x.extractLsb' 8 8) (x.extractLsb' 0 8) = x := by
  unfold halfOf
  refine BitVec.eq_of_getLsbD_eq fun i hi => ?_
  rw [BitVec.getLsbD_append]
  by_cases low : i < 8
  · simp [low]
  · have high : i - 8 < 8 := by omega
    simp [low, high, show 8 + (i - 8) = i by omega]

theorem pointsAt_points (points : List PointFields) : pointsAt (points.flatMap fun q => [q.offset, q.level]) = points := by
  induction points with
  | nil => rfl
  | cons q points ih =>
    rw [List.flatMap_cons]
    change ⟨q.offset, q.level⟩ :: pointsAt (points.flatMap fun q => [q.offset, q.level]) = _
    rw [ih]

theorem pointBytes_length (points : List PointFields) : (points.flatMap fun q => [q.offset, q.level]).length = 2 * points.length := by
  induction points with
  | nil => rfl
  | cons q points ih =>
    rw [List.flatMap_cons, List.length_append, ih, List.length_cons]
    simp
    omega

theorem State.takeFrame_request {s : State} {kind tag : Byte} {p : List Byte} {fits : Bool} {owner : State → Answer}
    (h : requestOf kind p = some (fits, owner)) : s.takeFrame kind tag p = s.takeRequest kind tag fits owner := by
  rw [State.takeFrame, h]

/-- Table 12-5: the payload of a SET PLAN. -/
theorem setPlan_spelled (a : Byte) (g : PlanFields) :
    let two (x : Half) : List Byte := [x.extractLsb' 8 8, x.extractLsb' 0 8]
    requestOf 0x02 ([a, g.planId] ++ two g.cycle ++ two g.openAt ++ two g.endAt ++ two g.minWalk ++ [g.extension]
        ++ two g.distance ++ [g.normalSpeed, g.accessibleSpeed, g.buffer, g.dwell, g.countdown, g.locator,
          g.walkPattern, g.clearancePattern, g.acknowledge, g.walkClip]) = some (true, handleSetPlan a g) := by
  intro two
  have fields : planFieldsAt ([a, g.planId] ++ two g.cycle ++ two g.openAt ++ two g.endAt ++ two g.minWalk ++ [g.extension]
        ++ two g.distance ++ [g.normalSpeed, g.accessibleSpeed, g.buffer, g.dwell, g.countdown, g.locator,
          g.walkPattern, g.clearancePattern, g.acknowledge, g.walkClip]) = { g with
        cycle := halfOf (g.cycle.extractLsb' 8 8) (g.cycle.extractLsb' 0 8)
        openAt := halfOf (g.openAt.extractLsb' 8 8) (g.openAt.extractLsb' 0 8)
        endAt := halfOf (g.endAt.extractLsb' 8 8) (g.endAt.extractLsb' 0 8)
        minWalk := halfOf (g.minWalk.extractLsb' 8 8) (g.minWalk.extractLsb' 0 8)
        distance := halfOf (g.distance.extractLsb' 8 8) (g.distance.extractLsb' 0 8) } := rfl
  simp only [halfOf_bytes] at fields
  have spelled : requestOf 0x02 ([a, g.planId] ++ two g.cycle ++ two g.openAt ++ two g.endAt ++ two g.minWalk ++ [g.extension]
        ++ two g.distance ++ [g.normalSpeed, g.accessibleSpeed, g.buffer, g.dwell, g.countdown, g.locator,
          g.walkPattern, g.clearancePattern, g.acknowledge, g.walkClip]) = some (true, handleSetPlan a
        (planFieldsAt ([a, g.planId] ++ two g.cycle ++ two g.openAt ++ two g.endAt ++ two g.minWalk ++ [g.extension]
        ++ two g.distance ++ [g.normalSpeed, g.accessibleSpeed, g.buffer, g.dwell, g.countdown, g.locator,
          g.walkPattern, g.clearancePattern, g.acknowledge, g.walkClip]))) := rfl
  rw [spelled, fields]

/-- Table 12-6: the payload of a BIND STATION. -/
theorem bindStation_spelled (a b c : Byte) (h : BindFields) :
    let two (x : Half) : List Byte := [x.extractLsb' 8 8, x.extractLsb' 0 8]
    requestOf 0x08 ([a, b, c] ++ two h.margin ++ two h.floor ++ two h.dayCeiling ++ two h.nightCeiling
        ++ [h.holdThreshold, h.rampRate, h.locateClip, h.tactile]) = some (true, handleBindStation a b c h) := by
  intro two
  have fields : bindFieldsAt ([a, b, c] ++ two h.margin ++ two h.floor ++ two h.dayCeiling ++ two h.nightCeiling
        ++ [h.holdThreshold, h.rampRate, h.locateClip, h.tactile]) = { h with
        margin := halfOf (h.margin.extractLsb' 8 8) (h.margin.extractLsb' 0 8)
        floor := halfOf (h.floor.extractLsb' 8 8) (h.floor.extractLsb' 0 8)
        dayCeiling := halfOf (h.dayCeiling.extractLsb' 8 8) (h.dayCeiling.extractLsb' 0 8)
        nightCeiling := halfOf (h.nightCeiling.extractLsb' 8 8) (h.nightCeiling.extractLsb' 0 8) } := rfl
  simp only [halfOf_bytes] at fields
  have spelled : requestOf 0x08 ([a, b, c] ++ two h.margin ++ two h.floor ++ two h.dayCeiling ++ two h.nightCeiling
        ++ [h.holdThreshold, h.rampRate, h.locateClip, h.tactile]) = some (true, handleBindStation a b c
        (bindFieldsAt ([a, b, c] ++ two h.margin ++ two h.floor ++ two h.dayCeiling ++ two h.nightCeiling
        ++ [h.holdThreshold, h.rampRate, h.locateClip, h.tactile]))) := rfl
  rw [spelled, fields]

/-- Table 12-7: the payload of a SET PATTERN. -/
theorem setPattern_spelled (a b c d : Byte) (points : List PointFields) (few : points.length < 256) :
    requestOf 0x0D ([a, b, c, d, BitVec.ofNat 8 points.length] ++ points.flatMap fun q => [q.offset, q.level]) =
      some (true, handleSetPattern a b c d points) := by
  have spelled : requestOf 0x0D ([a, b, c, d, BitVec.ofNat 8 points.length] ++ points.flatMap fun q => [q.offset, q.level]) =
      some (([a, b, c, d, BitVec.ofNat 8 points.length] ++ points.flatMap fun q => [q.offset, q.level]).length
          == 5 + 2 * (BitVec.ofNat 8 points.length).toNat
        && 5 ≤ ([a, b, c, d, BitVec.ofNat 8 points.length] ++ points.flatMap fun q => [q.offset, q.level]).length,
        handleSetPattern a b c d (pointsAt (points.flatMap fun q => [q.offset, q.level]))) := rfl
  have count : (BitVec.ofNat 8 points.length).toNat = points.length := by
    rw [BitVec.toNat_ofNat]
    exact Nat.mod_eq_of_lt few
  have fits : (([a, b, c, d, BitVec.ofNat 8 points.length] ++ points.flatMap fun q => [q.offset, q.level]).length
        == 5 + 2 * points.length
      && 5 ≤ ([a, b, c, d, BitVec.ofNat 8 points.length] ++ points.flatMap fun q => [q.offset, q.level]).length) = true := by
    rw [List.length_append, pointBytes_length]
    simp
  rw [spelled, count, fits, pointsAt_points]

/-- Settles O49: the receiver's three states byte by byte, and the payload of each request kind. -/
theorem bytesSpellTheRequest : Obligations.BytesSpellTheRequest := by
  refine ⟨fun s l b kind tag got payload receiver length good => ?_, fun s l b got receiver length bad => ?_, fun s b => ?_,
    fun s tag a b c d e f points data g h => ?_⟩
  · rw [exec_byte, State.receiveByte_good receiver length good, exec_unknownKind]
  · have whole : l.toNat + 2 ≤ (got ++ [b]).length := by
      rw [List.length_append, List.length_singleton, length]
    rw [exec_byte, State.receiveByte_body receiver, if_pos whole, State.completeFrame]
    rw [if_neg bad]
    rfl
  · refine ⟨fun hunting => ?_, fun lengthNext => ?_, fun l got receiver short => ?_⟩
    · rw [exec_byte, State.receiveByte, hunting]
      dsimp only
      by_cases start : b = 0xA5
      · rw [if_pos start, if_pos start]
        rfl
      · rw [if_neg start, if_neg start]
        exact congrArg Host.Outcome.next (State.receiver_eta hunting)
    · rw [exec_byte, State.receiveByte, lengthNext]
      dsimp only
      by_cases fits : 4 ≤ b.toNat ∧ b.toNat ≤ 250
      · rw [if_pos fits, if_pos fits]
        rfl
      · rw [if_neg fits, if_neg fits]
        rfl
    · have more : ¬ l.toNat + 2 ≤ (got ++ [b]).length := by
        rw [List.length_append, List.length_singleton]
        omega
      rw [exec_byte, State.receiveByte_body receiver, if_neg more]
      rfl
  · intro spelled two
    have request {kind : Byte} {p : List Byte} {fits : Bool} {owner : State → Answer}
        (taken : requestOf kind p = some (fits, owner)) : spelled kind p = .next (s.takeRequest kind tag fits owner) :=
      congrArg Host.Outcome.next (State.takeFrame_request taken)
    refine ⟨rfl, request (setPlan_spelled a g), rfl, rfl, rfl, rfl, rfl, request (bindStation_spelled a b c h), rfl, rfl, rfl, rfl,
      fun few => request (setPattern_spelled a b c d points few), rfl, ?_, rfl, rfl, rfl, rfl, rfl, rfl, rfl⟩
    refine request (kind := 0x0F) (fits := dataFits data.length) ?_
    have length : ([a, b, c] ++ data).length - 3 = data.length := by simp
    change some (dataFits (([a, b, c] ++ data).length - 3), _) = _
    rw [length]
    rfl

end Sys2Proof.Machine
end

section
/-! SUPPORT. The ends of transactions (R100, R105 to R109): the outcome of a reply, what an end settles, and what it leaves alone. -/

namespace Sys2Proof.Machine

/-! ### The outcome of a reply (R100, R177) -/

/-- R177: a reply is good exactly when it is a message of its length, for its station and type, with its check. -/
theorem judge_ok_iff (a : StationId) (item : Item) (reply : KerbReply) : judge a item reply = .ok ↔
    ∃ rest : List Byte, reply = some (withCrc (BitVec.ofNat 8 (a.val + 1) :: item.code :: rest))
      ∧ rest.length + 4 = item.replyBytes := by
  have two (bs : List Byte) : (withCrc bs).length = bs.length + 2 := by simp [withCrc, half]
  cases reply with
  | none => simp [judge]
  | some bs =>
    unfold judge
    dsimp only
    constructor
    · intro h
      split at h
      · next good =>
        obtain ⟨length, check, address, code⟩ := good
        have long : 4 ≤ item.replyBytes := by cases item <;> simp [Item.replyBytes]
        obtain ⟨x, y, rest, e⟩ : ∃ x y rest, bs.take (item.replyBytes - 2) = x :: y :: rest := by
          match bs, length with
          | x :: y :: rest, _ =>
            obtain ⟨n, e⟩ := Nat.exists_eq_add_of_le long
            exact ⟨x, y, rest.take n, by rw [e, show 4 + n - 2 = n + 2 by omega]; rfl⟩
          | [x], e => simp at e; omega
          | [], e => simp at e; omega
        rw [e] at check
        rw [check] at address code length
        rw [two, List.length_cons, List.length_cons] at length
        obtain rfl : x = stationCode a := by simpa [withCrc] using address
        obtain rfl : y = item.code := by simpa [withCrc] using code
        exact ⟨rest, congrArg some check, by omega⟩
      · exact absurd h (by decide)
    · rintro ⟨rest, e, length⟩
      have e' := Option.some.inj e
      have size : bs.length = item.replyBytes := by rw [e', two, List.length_cons, List.length_cons]; omega
      have body : bs.take (item.replyBytes - 2) = BitVec.ofNat 8 (a.val + 1) :: item.code :: rest := by
        rw [e']
        exact List.take_left' (by simp only [List.length_cons]; omega)
      rw [if_pos]
      rw [body]
      exact ⟨size, e', by rw [e']; rfl, by rw [e']; rfl⟩

theorem judge_noReply_iff (a : StationId) (item : Item) (reply : KerbReply) : judge a item reply = .noReply ↔ reply = none := by
  cases reply with
  | none => simp [judge]
  | some bs =>
    unfold judge
    dsimp only
    split <;> simp

/-! ### The command that ends a transaction (log 10) -/

/-- R107: what the OK outcome of a transaction settles. -/
def Transaction.settle (x : Transaction) (reply : KerbReply) (s : State) : State :=
  match x.item with
  | .poll => s.pollOk x.station (pollReport reply)
  | .play p => s.playDelivered x.station p x.again
  | .ack => s.ackDelivered x.station x.again
  | .takeOver => s.settingDelivered x.station .takeOver x.again
  | .config => s.settingDelivered x.station .config x.again
  | .pattern k => s.settingDelivered x.station (.pattern k) x.again
  | .level => s.settingDelivered x.station .level x.again
  | .slotOpen => s.modJob x.station Job.opened
  | .block => s.modJob x.station Job.blockSent
  | .slotCommit => s.commitAnswer x.station (replyByte reply 2 == 0)

theorem Transaction.settle_setting (a : StationId) (x : Setting) (d again : Bool) (reply : KerbReply) (s : State) :
    Transaction.settle ⟨a, x.item, d, again⟩ reply s = s.settingDelivered a x again := by
  cases x <;> rfl

theorem State.onTransaction_of {s : State} {x : Transaction} {carries : Item → Bool} {f : Transaction → State}
    (h : s.link.activity = .transaction x) (c : carries x.item = true) : s.onTransaction carries f = f x := by
  simp only [State.onTransaction, h, c, if_true]

theorem exec_ending {s : State} {x : Transaction} (reply : KerbReply) (h : s.link.activity = .transaction x) :
    exec (x.item.ending reply) s = .next (s.endTransaction x reply (x.settle reply)) := by
  obtain ⟨a, item, d, again⟩ := x
  cases item <;> exact congrArg Host.Outcome.next (State.onTransaction_of h rfl)

/-- The line with nothing on it. -/
def State.idled (s : State) : State := s.modLink fun l => { l with activity := .idle }

section
variable {s t : State} {a b : StationId} {x : Transaction}

theorem exec_ending_ok {item : Item} {again : Bool} {reply : KerbReply} (h : s.Carries a item again) (ok : judge a item reply = .ok) :
    exec (item.ending reply) s =
      .next ((Transaction.settle ⟨a, item, false, again⟩ reply (s.idled.clearFailures a)).proceed ⟨a, item, false, again⟩) := by
  rw [exec_ending reply h, s.endTransaction_ok _ _ _ rfl ok]
  rfl

/-! ### Going on after a transaction changes the line only -/

@[simp] theorem State.proceed_station : (s.proceed x).station b = s.station b := by rw [s.proceed_eq]; rfl
@[simp] theorem State.proceed_street : (s.proceed x).street = s.street := by rw [s.proceed_eq]
@[simp] theorem State.proceed_crossing (n : CrossingId) : (s.proceed x).crossing n = s.crossing n := by rw [s.proceed_eq]; rfl

theorem State.BesideStation.proceed (h : s.BesideStation a t) : s.BesideStation a (t.proceed x) := by
  rw [t.proceed_eq]
  exact h

@[simp] theorem State.idled_station : s.idled.station b = s.station b := rfl
@[simp] theorem State.idled_street : s.idled.street = s.street := rfl
@[simp] theorem State.idled_crossing (n : CrossingId) : s.idled.crossing n = s.crossing n := rfl

/-- What changes stations and the Street Link from the idled line on is all that an end of a transaction does beside the line. -/
theorem State.StationsOnly.besideStation (h : s.idled.StationsOnly t) (others : ∀ b, b ≠ a → t.station b = s.station b) :
    s.BesideStation a t := ⟨h.besideStations, others, h.configured⟩

/-- The line once nothing is on it: marks on a transaction have nowhere to go. -/
theorem Link.SameButDiscard.idle {l m : Link} (h : l.SameButDiscard m) (idle : l.activity = .idle) : m = l := by
  obtain rfl | bad := h
  · rfl
  · rw [idle] at bad
    exact bad.elim

theorem Link.SameButAgain.idle {l m : Link} (h : l.SameButAgain m) (idle : l.activity = .idle) : m = l := by
  obtain rfl | bad := h
  · rfl
  · rw [idle] at bad
    exact bad.elim

theorem State.StationsOnly.idledLink (h : s.idled.StationsOnly t) : t.link = s.idled.link := h.discard.idle rfl

theorem State.StationsOnly.pointer (h : s.idled.StationsOnly t) :
    (t.proceed x).link.pointer = if x.item = .poll then s.link.pointer else x.station := by
  rw [t.proceed_pointer, h.idledLink]
  rfl

@[simp] theorem State.clearFailures_station : (s.clearFailures a).station b =
    if b = a then { s.station a with failures := 0 } else s.station b := by simp [State.clearFailures]

@[simp] theorem State.clearFailures_street : (s.clearFailures a).street = s.street := rfl

theorem State.countFailure_street : (s.countFailure a).street =
    if (s.station a).controlled = true ∧ 3 ≤ (s.station a).failures + 1 then s.street.queued ((s.station a).gone.notice a)
    else s.street := by
  have limit : Config.failureLimit = 3 := rfl
  unfold State.countFailure
  by_cases c : (s.station a).controlled = true
  · by_cases f : 3 ≤ (s.station a).failures + 1
    · rw [if_pos c, limit, if_pos f, if_pos ⟨c, f⟩, s.becomeLost_street]
    · rw [if_pos c, limit, if_neg f, if_neg (f ·.2), State.modStation_street]
  · rw [if_neg c, if_neg (c ·.1)]

end

/-- Settles O34: the outcome by the bytes that came back, then the failure counted at the station alone. -/
theorem failedTransactionCounts : Obligations.FailedTransactionCounts := by
  refine ⟨fun a item reply => ⟨judge_noReply_iff a item reply, (judge_ok_iff a item reply).trans ?_⟩,
    fun s a item again reply carries failed => ?_⟩
  · have size (n : Nat) : n + 4 = item.replyBytes ↔ n = if item = .poll then 8 else 2 := by
      cases item <;> simp [Item.replyBytes]
    exact exists_congr fun rest => and_congr_right fun _ => size rest.length
  · have counted : s.idled.StationsOnly (s.idled.countFailure a) := .countFailure (.refl _)
    have others (b : StationId) (e : b ≠ a) : (s.idled.countFailure a).station b = s.station b := by
      simp [State.countFailure_station, e]
    refine ⟨_, (exec_ending reply carries).trans (congrArg _ (s.endTransaction_failed _ _ _ rfl failed)),
      (counted.besideStation others).proceed, counted.pointer, fun held few => ?_, fun held third => ?_, fun free => ?_⟩
    all_goals rw [State.proceed_station, State.proceed_street]
    · have under : ¬ 3 ≤ (s.station a).failures + 1 := by omega
      exact ⟨by simp [State.countFailure_station, held, under], by simp [State.countFailure_street, under]⟩
    · have reached : 3 ≤ (s.station a).failures + 1 := by omega
      exact ⟨by simp [State.countFailure_station, held, reached], by simp [State.countFailure_street, held, reached]⟩
    · exact ⟨by simp [State.countFailure_station, free], by simp [State.countFailure_street, free]⟩

/-! ### Delivered PLAYs, ACKs and settings (R107, R109) -/

theorem laterThan_eq (g f : Byte) : laterThan g f = decide (1 ≤ (g - f).toNat ∧ (g - f).toNat ≤ 127) := by
  rw [Bool.decide_and]
  rfl

theorem urgentRemove_play (l : List Urgent) : urgentRemove l true = l.filter fun u => !u.isPlay := by
  simp [urgentRemove, bne]

theorem urgentRemove_ack (l : List Urgent) : urgentRemove l false = l.filter fun u => u.isPlay := by
  simp [urgentRemove, bne]

/-- Settles O35: both deliveries change their station alone. -/
theorem deliveredPlayAndAck : Obligations.DeliveredPlayAndAck := by
  refine fun s a again reply => ⟨fun p carries ok => ?_, fun carries ok => ?_⟩
  · have delivered : s.idled.StationsOnly ((s.idled.clearFailures a).playDelivered a p again) := by
      unfold State.playDelivered
      exact (State.StationsOnly.clearFailures (.refl _)).modStation
    refine ⟨_, exec_ending_ok carries ok, ?_, (delivered.besideStation fun b e => ?_).proceed, State.proceed_street, delivered.pointer⟩
    · have frame : (s.idled.clearFailures a).link.frame = s.link.frame := rfl
      simp [Transaction.settle, State.playDelivered, laterThan_eq, urgentRemove_play, frame]
    · simp [State.playDelivered, e]
  · have delivered : s.idled.StationsOnly ((s.idled.clearFailures a).ackDelivered a again) :=
      (State.StationsOnly.clearFailures (.refl _)).modStation
    refine ⟨_, exec_ending_ok carries ok, ?_, (delivered.besideStation fun b e => ?_).proceed, State.proceed_street, delivered.pointer⟩
    · simp [Transaction.settle, State.ackDelivered, urgentRemove_ack]
    · simp [State.ackDelivered, e]

theorem patternBit_getElem (k l : PatternId) : (patternBit k)[l.val] = decide (k = l) := by
  revert k l
  decide

/-- R104: an item removed is no longer in the set, and every other item stays. -/
theorem SettingsSet.remove_has (t : SettingsSet) (x y : Setting) : (t.remove x).has y = (t.has y && decide (x ≠ y)) := by
  cases x with
  | pattern k => cases y <;> simp [SettingsSet.remove, SettingsSet.has, patternBit_getElem]
  | _ => cases y <;> simp [SettingsSet.remove, SettingsSet.has]

/-- R104: an item added is in the set, and every other item is as before. -/
theorem SettingsSet.add_has (t : SettingsSet) (x y : Setting) : (t.add x).has y = (t.has y || decide (x = y)) := by
  cases x with
  | pattern k => cases y <;> simp [SettingsSet.add, SettingsSet.has, patternBit_getElem]
  | _ => cases y <;> simp [SettingsSet.add, SettingsSet.has]

theorem Setting.item_ne_poll (x : Setting) : x.item ≠ .poll := by cases x <;> simp [Setting.item]

/-- R107: a setting delivered that leaves its station as it owns it: the item is gone unless marked again. -/
theorem State.settingDelivered_stays {s : State} {a : StationId} {x : Setting} {again : Bool}
    (stays : again = true ∨ (s.station a).owner ≠ .taking ∨ (s.station a).settings.remove x ≠ {}) :
    s.settingDelivered a x again = if again then s else s.modStation a fun t => { t with settings := t.settings.remove x } := by
  cases again with
  | true => rfl
  | false =>
    simp only [Bool.false_eq_true, false_or] at stays
    simp only [State.settingDelivered, Bool.false_eq_true, if_false, State.modStation_station, if_true]
    exact if_neg fun ⟨taking, empty⟩ => stays.elim (· taking) (· empty)

/-- Settles O36. -/
theorem deliveredSettingLeavesTheSet : Obligations.DeliveredSettingLeavesTheSet := by
  refine ⟨fun t x y => ⟨t.remove_has x y, t.add_has x y⟩, fun s a x again reply carries ok stays => ?_⟩
  have settled : Transaction.settle ⟨a, x.item, false, again⟩ reply (s.idled.clearFailures a) =
      if again then s.idled.clearFailures a
      else (s.idled.clearFailures a).modStation a fun t => { t with settings := t.settings.remove x } := by
    rw [Transaction.settle_setting, State.settingDelivered_stays]
    simpa using stays
  have cleared : s.idled.StationsOnly (s.idled.clearFailures a) := .clearFailures (.refl _)
  rw [exec_ending_ok carries ok, settled]
  cases again with
  | true =>
    exact ⟨_, rfl, by simp, (cleared.besideStation fun b e => by simp [e]).proceed, by simp,
      cleared.pointer.trans (if_neg x.item_ne_poll)⟩
  | false =>
    rw [if_neg Bool.false_ne_true]
    exact ⟨_, rfl, by simp, (cleared.modStation.besideStation fun b e => by simp [e]).proceed, by simp,
      cleared.modStation.pointer.trans (if_neg x.item_ne_poll)⟩

end Sys2Proof.Machine
end

section
/-! SUPPORT. Requests and events about the stations and the line: what waits after a handled request, the STATION notices of
an event that reaches every station, and the take-overs, reversions and resets. -/

namespace Sys2Proof.Machine

/-! ### A handled request (R163) -/

/-- R163: the Street Link while an owning block handles a request. -/
def Street.handled (t : Street) : Street := { t with receiver := .hunt, busy := true }

theorem State.handling_street (s : State) : s.handling.street = s.street.handled := rfl

theorem Street.queued_handled (t : Street) (n : Notice) : t.handled.queued n = (t.queued n).handled := by
  unfold Street.queued Street.handled
  dsimp only
  split <;> rfl

theorem Street.foldl_queued_handled (l : List Notice) (t : Street) :
    l.foldl Street.queued t.handled = (l.foldl Street.queued t).handled := by
  induction l generalizing t with
  | nil => rfl
  | cons n l ih => rw [List.foldl_cons, List.foldl_cons, t.queued_handled, ih]

theorem done_replied (u : State) (kind tag : Byte) (h : kind ≠ kindRestart) : (done u).replied kind tag =
    { u with street := { u.street with reply := some ⟨.reply, replyFrame kind tag .ok []⟩ } } :=
  Answer.replied_eq _ _ _ h

/-- R163: the Street Link once an OK answer without fields waits. -/
theorem done_street {u : State} {v : Street} {kind : Byte} (tag : Byte) (h : kind ≠ kindRestart) (handled : u.street = v.handled) :
    ((done u).replied kind tag).street = v.answered .reply (replyFrame kind tag .ok []) := by
  rw [done_replied u kind tag h, handled]
  rfl

/-! ### Notices of an event that reaches every station (R130, log 36) -/

theorem forEach_street_of {P : State → Prop} {f : StationId → State → State} {p : Station → Bool}
    {n : StationId → Station → Notice} (keeps : ∀ a s, P s → P (f a s))
    (told : ∀ a s, (f a s).street = if p (s.station a) then s.street.queued (n a (s.station a)) else s.street)
    (other : ∀ a b s, b ≠ a → (f a s).station b = s.station b) :
    ∀ (l : List StationId) (s : State), l.Nodup → P s → (forEach l f s).street =
      ((l.filter fun a => p (s.station a)).map fun a => n a (s.station a)).foldl Street.queued s.street := by
  intro l
  induction l with
  | nil => intro s _ _; rfl
  | cons a l ih =>
    intro s distinct held
    obtain ⟨fresh, distinct'⟩ := List.nodup_cons.mp distinct
    have same (b : StationId) (mem : b ∈ l) : (f a s).station b = s.station b := other a b s fun e => fresh (e ▸ mem)
    have rest := ih (f a s) distinct' (keeps a s held)
    rw [List.filter_congr fun b mem => by rw [same b mem], List.map_congr_left fun b mem => by
      rw [same b (List.mem_of_mem_filter mem)], told a s] at rest
    have first : forEach (a :: l) f s = forEach l f (f a s) := rfl
    rw [first, rest]
    by_cases t : p (s.station a) = true
    · rw [List.filter_cons_of_pos (by exact t), List.map_cons, List.foldl_cons, if_pos t]
    · rw [List.filter_cons_of_neg (by exact t), if_neg t]

section
variable {s t : State} {a : StationId}

/-- R121, R130: the notices of a take-over that is told. -/
theorem State.takeOverBound_street (s : State) : (State.takeOverBound true s).street =
    (if s.configured = true ∧ s.link.line = .up ∧ s.link.quiet = 0 then s.takeOverNotices else []).foldl Street.queued s.street := by
  unfold State.takeOverBound
  by_cases ready : (s.configured && s.linkReady) = true
  · have ready' : s.configured = true ∧ s.link.line = .up ∧ s.link.quiet = 0 := by simpa [State.linkReady] using ready
    rw [if_pos ready, if_pos ready']
    exact forEach_street_of (P := fun _ => True) (p := fun t => t.owner == .local && t.binding.isSome && t.clipFault)
      (n := fun a t => .station a .taking t.speaker t.tactile t.mic false)
      (fun _ _ _ => trivial) (fun a u => by simp [State.takeOverAt_street, and_assoc])
      (fun a b u e => by simp [State.takeOverAt_station, e]) _ _ nodup_allStations trivial
  · rw [if_neg ready, if_neg]
    · rfl
    · rintro ⟨conf, up, quiet⟩
      exact ready (by simp [State.linkReady, conf, up, quiet])

/-- R121: a take-over at the host's request tells nothing. -/
theorem State.takeOverBound_silent (s : State) : (State.takeOverBound false s).street = s.street := by
  unfold State.takeOverBound
  split
  · exact forEach_keeps (fun u => u.street = s.street) _ (fun a u h => by rw [State.takeOverAt_street]; simpa using h) _ _ rfl
  · rfl

theorem State.lineFaultRevert_street (s : State) : s.lineFaultRevert.street =
    ((allStations.filter fun a => (s.station a).partHeld).map fun a => (s.station a).wentLocal.notice a).foldl
      Street.queued s.street := by
  unfold State.lineFaultRevert
  refine forEach_street_of (P := fun _ => True) (p := Station.partHeld) (n := fun a t => t.wentLocal.notice a)
    (fun _ _ _ => trivial) (fun a u => ?_) (fun a b u e => ?_) _ _ nodup_allStations trivial
  · split
    · rw [State.notifyStation_street]
      simp [Station.notice]
    · rfl
  · split
    · simp [e]
    · rfl

end

/-! ### Echoes, reversion, the end of the quiet period -/

theorem echoAgrees_iff (h : Heard) (sent : List Byte) : echoAgrees h sent = true ↔ [h.b0, h.b1, h.b2, h.b3] = sent.map some := by
  rw [echoAgrees, beq_iff_eq]

theorem State.afterBeacon_closed {s : State} (closed : s.link.closed = true) : s.afterBeacon = s.idled := if_pos closed

theorem State.afterBeacon_open {s : State} (closed : s.link.closed = false) : s.afterBeacon = s.periodicFrom 0 := by
  rw [State.afterBeacon, closed]
  rfl

theorem State.StationsOnly.link_idle {s t : State} (h : s.StationsOnly t) :
    { t.link with activity := Activity.idle } = { s.link with activity := Activity.idle } := by
  rw [h.link]

/-- Settles O32, by the activity of the line, the echo, and whether the frame carries more. -/
theorem beaconEchoSettlesTheLine : Obligations.BeaconEchoSettlesTheLine := by
  classical
  refine fun s h => ⟨fun beacon => ?_, fun beacon => ?_⟩
  · have judged : exec (.beaconCheck h) s = .next (s.judgeBeacon h) := by
      show Host.Outcome.next _ = _
      rw [beacon]
    rw [judged]
    refine ⟨fun bad => ?_, fun good more => ?_, fun good closed => ?_⟩
    · rw [State.judgeBeacon, if_neg (mt (echoAgrees_iff h _).mp bad)]
      rfl
    · rw [State.judgeBeacon, if_pos ((echoAgrees_iff h _).mpr good), more, if_neg Bool.false_ne_true, State.afterBeacon_open more]
    · have took : s.StationsOnly (State.takeOverBound true s) := .takeOverBound (.refl _)
      have closed' : (State.takeOverBound true s).link.closed = true := by rw [took.link]; exact closed
      rw [State.judgeBeacon, if_pos ((echoAgrees_iff h _).mpr good), if_pos closed, State.afterBeacon_closed closed']
      refine ⟨_, rfl, ?_, took.besideStations, took.configured, s.takeOverBound_street, fun a => ⟨fun takes => ?_, fun stays => ?_⟩⟩
      · exact took.link_idle
      · exact (s.takeOverBound_station true a).trans (if_pos takes)
      · exact (s.takeOverBound_station true a).trans (if_neg stays)
  · have judged : exec (.beaconRetry h) s = .next (s.judgeRetry h) := by
      show Host.Outcome.next _ = _
      rw [beacon]
    refine ⟨?_, ?_⟩
    · rw [judged]
      show Host.Outcome.next _ = _
      rw [beacon]
    rw [judged]
    refine ⟨fun bad => ?_, fun good => ?_⟩
    · rw [State.judgeRetry, if_neg (mt (echoAgrees_iff h _).mp bad)]
      rfl
    · let up := s.modLink fun l => { l with line := .up, faultAge := 0, retry := 0 }
      have took : up.StationsOnly (State.takeOverBound true up) := .takeOverBound (.refl _)
      have takes (a : StationId) : up.TakesOver a ↔ s.configured = true ∧ s.link.quiet = 0 ∧ (s.station a).owner = .local
          ∧ (s.station a).binding.isSome = true :=
        ⟨fun ⟨conf, _, quiet, at'⟩ => ⟨conf, quiet, at'⟩, fun ⟨conf, quiet, at'⟩ => ⟨conf, rfl, quiet, at'⟩⟩
      have ready : (up.configured = true ∧ up.link.line = .up ∧ up.link.quiet = 0) ↔ s.configured = true ∧ s.link.quiet = 0 :=
        ⟨fun ⟨conf, _, quiet⟩ => ⟨conf, quiet⟩, fun ⟨conf, quiet⟩ => ⟨conf, rfl, quiet⟩⟩
      have station (a : StationId) : (State.takeOverBound true up).station a =
          if s.configured = true ∧ s.link.quiet = 0 ∧ (s.station a).owner = .local ∧ (s.station a).binding.isSome = true
          then (s.station a).taken s.takeOverSet else s.station a := by
        rw [up.takeOverBound_station true a]
        simp only [takes a]
        rfl
      have street : (State.takeOverBound true up).street = (if s.configured = true ∧ s.link.quiet = 0 then s.takeOverNotices
          else []).foldl Street.queued s.street := by
        rw [up.takeOverBound_street]
        simp only [ready]
        rfl
      have line : { (State.takeOverBound true up).link with activity := .idle } =
          { s.link with line := .up, faultAge := 0, retry := 0, activity := .idle } := took.link_idle
      have same : (State.takeOverBound true up).link.closed = s.link.closed := by rw [took.link]; rfl
      rw [State.judgeRetry, if_pos ((echoAgrees_iff h _).mpr good)]
      by_cases closed : s.link.closed = true
      · rw [State.afterBeacon_closed (same.trans closed)]
        exact ⟨_, rfl, ⟨fun _ => line, fun more => absurd (closed.symm.trans more) (by decide)⟩, took.besideStations,
          took.configured, street, station⟩
      · rw [State.afterBeacon_open (same.trans (Bool.eq_false_iff.mpr closed))]
        have moved := (State.takeOverBound true up).periodicFrom_eq 0
        refine ⟨_, rfl, ⟨fun c => absurd c closed, fun _ => ⟨_, rfl, line⟩⟩, ?_, ?_, ?_, ?_⟩
        all_goals rw [moved]
        · exact took.besideStations
        · exact took.configured
        · exact street
        · exact station

/-- Settles O33. -/
theorem reversionAndQuietPeriodEnd : Obligations.ReversionAndQuietPeriodEnd := by
  classical
  refine ⟨fun s fault age => ?_, fun s quiet => ?_⟩
  · let aged := s.modLink fun l => { l with faultAge := 20 }
    have reverted : aged.StationsOnly aged.lineFaultRevert := .lineFaultRevert (.refl _)
    have run : exec .lineFaultReversion s = .next aged.lineFaultRevert :=
      congrArg Host.Outcome.next (if_pos ⟨fault, by rw [age]; rfl⟩)
    exact ⟨_, run, aged.lineFaultRevert_station, aged.lineFaultRevert_street, reverted.discard, reverted.besideStations,
      reverted.configured⟩
  · let still := s.modLink fun l => { l with quiet := 0 }
    have took : still.StationsOnly (State.takeOverBound true still) := .takeOverBound (.refl _)
    have run : exec .quietPeriodEnd s = .next (State.takeOverBound true still) := congrArg Host.Outcome.next (if_pos quiet)
    have takes (a : StationId) : still.TakesOver a ↔ s.configured = true ∧ s.link.line = .up ∧ (s.station a).owner = .local
        ∧ (s.station a).binding.isSome = true :=
      ⟨fun ⟨conf, line, _, at'⟩ => ⟨conf, line, at'⟩, fun ⟨conf, line, at'⟩ => ⟨conf, line, rfl, at'⟩⟩
    have ready : (still.configured = true ∧ still.link.line = .up ∧ still.link.quiet = 0) ↔
        s.configured = true ∧ s.link.line = .up :=
      ⟨fun ⟨conf, line, _⟩ => ⟨conf, line⟩, fun ⟨conf, line⟩ => ⟨conf, line, rfl⟩⟩
    refine ⟨_, run, fun a => ?_, ?_, took.discard, took.besideStations, took.configured⟩
    · rw [still.takeOverBound_station true a]
      simp only [takes a]
      rfl
    · rw [still.takeOverBound_street]
      simp only [ready]
      rfl

/-! ### UNBIND STATION, CONFIGURE, UNCONFIGURE (R120 to R123) -/

/-- R123: the patterns of a take-over's settings set are those defined. -/
theorem State.takeOverSet_patterns (s : State) (k : PatternId) :
    s.takeOverSet.patterns.getLsbD k.val = (s.patternOf (k.val + 1)).isSome := by
  have folded (l : List PatternId) (m : BitVec 16) :
      (l.foldl (fun m k => if (s.patterns[k]).isSome then m ||| patternBit k else m) m)[k.val] =
        (m[k.val] || (decide (k ∈ l) && (s.patterns[k]).isSome)) := by
    induction l generalizing m with
    | nil => simp
    | cons j l ih =>
      rw [List.foldl_cons, ih]
      by_cases e : k = j
      · subst e
        cases (s.patterns[k]).isSome <;> simp [patternBit_getElem]
      · cases (s.patterns[j]).isSome <;> simp [patternBit_getElem, e, Ne.symm e]
  have whole := folded allPatterns 0
  have held : s.patternOf (k.val + 1) = s.patterns[k] := by simp [State.patternOf]
  rw [held, BitVec.getLsbD_eq_getElem k.isLt]
  exact whole.trans (by simp [mem_allPatterns k])

theorem addressOf_eq_none {x : Byte} (h : x = 0 ∨ 24 < x.toNat) : addressOf x = none := numberOf_eq_none <| by
  rintro ⟨low, high⟩
  obtain rfl | high := h
  · exact absurd low (by decide)
  · omega

theorem exec_unbindStation {s : State} (takes : s.Takes) (tag x : Byte) :
    exec (.unbindStation tag x) s = .next ((handleUnbindStation x s.handling).replied 0x09 tag) :=
  congrArg Host.Outcome.next (s.takeRequest_takes _ _ _ takes)

/-- Settles O41. -/
theorem unbindConfigureUnconfigure : Obligations.UnbindConfigureUnconfigure := by
  classical
  refine ⟨fun s => ⟨rfl, rfl, rfl, s.takeOverSet_patterns⟩, fun s tag x takes => ⟨fun out => ?_, fun a address => ?_⟩,
    fun s tag takes => ?_, fun s tag takes => ?_⟩
  · rw [exec_unbindStation takes, handleUnbindStation, addressOf_eq_none out]
    exact congrArg _ (s.handling_refused _ _ _ (by decide))
  · have named : addressOf x = some a := numberOf_eq_some a address
    rw [exec_unbindStation takes, handleUnbindStation, named]
    refine ⟨fun unbound => ?_, fun bound => ?_⟩
    · have none' : (s.handling.station a).binding.isNone = true := by rw [Option.isNone_iff_eq_none]; exact unbound
      dsimp only
      rw [if_pos none']
      exact congrArg _ (s.handling_done _ _ (by decide))
    · have some' : ¬ (s.handling.station a).binding.isNone = true := by rw [Option.isNone_iff_eq_none]; exact bound
      have freed : s.handling.StationsOnly ((s.handling.clearWork a).setStation a {}) := .modStation (f := fun _ => {}) (.clearWork (.refl _))
      dsimp only
      rw [if_neg some']
      refine ⟨_, rfl, ?_, ⟨freed.besideStations, fun b e => ?_, freed.configured⟩, freed.discard, done_street tag (by decide) ?_⟩
      · rw [State.reset_station]
        exact (State.setStation_station _ _ _ _).trans (if_pos rfl)
      · refine (State.setStation_station _ _ _ _).trans ((if_neg e).trans ?_)
        simp [e]
        rfl
      · simp [State.handling_street]
  · let set := { s.handling with configured := true }
    have took : set.StationsOnly (State.takeOverBound false set) := .takeOverBound (.refl _)
    refine ⟨_, congrArg Host.Outcome.next (s.takeRequest_takes _ _ _ takes), took.configured, took.besideStations, took.discard,
      done_street tag (by decide) set.takeOverBound_silent, fun a => ?_⟩
    refine (set.takeOverBound_station false a).trans ?_
    have takes' : set.TakesOver a ↔ s.link.line = .up ∧ s.link.quiet = 0 ∧ (s.station a).owner = .local
        ∧ (s.station a).binding.isSome = true := ⟨fun ⟨_, at'⟩ => at', fun at' => ⟨rfl, at'⟩⟩
    simp only [takes']
    rfl
  · by_cases conf : s.configured = true
    · let cleared := { s.handling with configured := false }
      have reverted : cleared.StationsOnly (forEach allStations (fun a u => u.revert a) cleared) :=
        .forEach (.refl _) fun _ _ k => k.revert
      have street : (forEach allStations (fun a u => u.revert a) cleared).street = cleared.street :=
        forEach_keeps (fun u => u.street = cleared.street) _ (fun a u h => by rw [State.revert_street, h]) _ _ rfl
      have run : exec (.unconfigure tag) s =
          .next ((done (forEach allStations (fun a u => u.revert a) cleared)).replied 0x0B tag) :=
        (congrArg Host.Outcome.next (s.takeRequest_takes _ _ _ takes)).trans
          (congrArg (fun r : Answer => Host.Outcome.next (r.replied 0x0B tag)) (if_pos conf))
      have station (a : StationId) : (forEach allStations (fun a u => u.revert a) cleared).station a =
          if (s.station a).partHeld = true then (s.station a).wentLocal else s.station a := by
        refine (forEach_station _ (fun _ t => if t.partHeld = true then t.wentLocal else t) (fun a u => by simp)
          (fun a b u e => by simp [e]) _ _ a nodup_allStations).trans ?_
        rw [if_pos (mem_allStations a)]
        rfl
      generalize forEach allStations (fun a u => u.revert a) cleared = after at *
      refine ⟨_, run, reverted.configured, reverted.besideStations, reverted.discard,
        done_street (v := s.street) tag (by decide) street, fun a => (station a).trans ?_⟩
      simp only [conf, true_and]
    · have run : exec (.unconfigure tag) s = .next ((done s.handling).replied 0x0B tag) :=
        (congrArg Host.Outcome.next (s.takeRequest_takes _ _ _ takes)).trans
          (congrArg (fun r : Answer => Host.Outcome.next (r.replied 0x0B tag)) (if_neg conf))
      refine ⟨_, run, Bool.eq_false_iff.mpr conf, (State.StationsOnly.refl s).besideStations, .refl _, done_street tag (by decide) rfl,
        fun a => ?_⟩
      rw [if_neg fun held => conf held.1]
      rfl

end Sys2Proof.Machine
end

section
/-! SUPPORT. The kerb reset, and the serving of needs (R155, R156): a chosen slot, one station's needs, those of a list of stations. -/

namespace Sys2Proof.Machine

/-! ### The kerb reset (R112) -/

section
variable {s : State} {a : StationId}

/-- R108: a station's transaction in progress is discarded with its work. -/
theorem State.dropControl_link : (s.dropControl a).link = (s.discardOutcome a fun _ => true).link := rfl

theorem State.kerbResetAt_link : (s.kerbResetAt a).link = (s.discardOutcome a fun _ => true).link := by
  unfold State.kerbResetAt
  split <;> rfl

theorem State.discardOutcome_activity {x : Transaction} (h : s.link.activity = .transaction x) :
    (s.discardOutcome a fun _ => true).link.activity =
      .transaction { x with discard := x.discard || decide (x.station = a) } := by
  unfold State.discardOutcome
  rw [h]
  by_cases e : x.station = a
  · simp [e]
  · simp [e, h]

/-- R112: the transaction in progress is discarded, whichever bound or unbound station it is for. -/
theorem State.kerbResetAll_activity {x : Transaction} (l : List StationId) (s : State) (h : s.link.activity = .transaction x) :
    (forEach l (fun a s => s.kerbResetAt a) s).link.activity =
      .transaction { x with discard := x.discard || decide (x.station ∈ l) } := by
  induction l generalizing s x with
  | nil => simpa [forEach] using h
  | cons a l ih =>
    have first : (s.kerbResetAt a).link.activity = .transaction { x with discard := x.discard || decide (x.station = a) } := by
      rw [State.kerbResetAt_link, State.discardOutcome_activity h]
    refine (ih (s.kerbResetAt a) first).trans ?_
    simp [Bool.or_assoc]

end

/-- Settles O42: every station's own reset, the transaction in progress discarded, then the line's counters. -/
theorem kerbResetClearsTheLink : Obligations.KerbResetClearsTheLink := by
  intro s tag takes
  have only : s.handling.StationsOnly (forEach allStations (fun a u => u.kerbResetAt a) s.handling) :=
    .forEach (.refl _) fun _ _ k => k.kerbResetAt
  have silent : (forEach allStations (fun a u => u.kerbResetAt a) s.handling).street = s.street.handled :=
    forEach_keeps (fun u => u.street = s.street.handled) _ (fun a u h => by rw [State.kerbResetAt_street, h]) _ _ rfl
  have activity : (forEach allStations (fun a u => u.kerbResetAt a) s.handling).link.activity = match s.link.activity with
      | .transaction x => .transaction { x with discard := true }
      | x => x := by
    cases h : s.link.activity with
    | transaction x => simp [State.kerbResetAll_activity allStations s.handling h, mem_allStations]
    | _ =>
      obtain same | bad := only.discard
      · rw [same]
        exact h
      · rw [show s.handling.link.activity = _ from h] at bad
        exact bad.elim
  have station (a : StationId) : (forEach allStations (fun a u => u.kerbResetAt a) s.handling).station a =
      if (s.station a).binding.isSome then (s.station a).wentLocal else (s.station a).stripped := by
    have whole := s.handling.kerbReset_station a
    rw [State.kerbReset, State.modLink_station] at whole
    exact whole
  have run : exec (.resetKerbLink tag) s = .next ((done ((forEach allStations (fun a u => u.kerbResetAt a) s.handling).modLink
      fun l => { l with frame := 0, keepNumber := true, quiet := 20, pointer := 23, closed := true })).replied 0x0C tag) :=
    congrArg Host.Outcome.next (s.takeRequest_takes _ _ _ takes)
  generalize forEach allStations (fun a u => u.kerbResetAt a) s.handling = reset at *
  refine ⟨_, run, ?_, station, only.besideStations, only.configured, ?_⟩
  rotate_left
  · exact done_street (u := reset.modLink _) (v := s.street) tag (by decide) silent
  have line := only.link
  change { reset.link with frame := 0, keepNumber := true, quiet := 20, pointer := 23, closed := true } = _
  rw [line, activity]
  rfl

/-! ### The chosen slot (R156) -/

theorem find_allSlots_some (p : Fin 4 → Bool) (i : Fin 4) :
    allSlots.find? p = some i ↔ p i = true ∧ ∀ j : Fin 4, j < i → ¬ p j = true := by
  revert p i
  decide

theorem find_allSlots_none (p : Fin 4 → Bool) : allSlots.find? p = none ↔ ∀ j : Fin 4, ¬ p j = true := by
  revert p
  decide

theorem choose_isSome {p : Fin 4 → Bool} : (∃ i, allSlots.find? p = some i) ↔ ∃ j : Fin 4, p j = true := by
  rw [← not_iff_not, not_exists, not_exists, ← find_allSlots_none, Option.eq_none_iff_forall_ne_some]

/-- R156: the slot the model chooses is the one the rule names. -/
theorem Mirror.choose_iff (m : Mirror) (needs : List ClipId) (i : Fin 4) : m.choose needs = some i ↔ m.Chosen needs i := by
  have lowest (st : MirrorState) : (allSlots.find? fun j => m.slots[j].state == st) = some i ↔
      (m.slots[i]).state = st ∧ ∀ j : Fin 4, j < i → (m.slots[j]).state ≠ st := by
    rw [find_allSlots_some]
    simp only [beq_iff_eq, ne_eq]
  have some' (st : MirrorState) : (∃ i, (allSlots.find? fun j => m.slots[j].state == st) = some i) ↔
      ∃ j : Fin 4, (m.slots[j]).state = st := by
    rw [choose_isSome]
    simp only [beq_iff_eq]
  have first (st : MirrorState) (rest : Option (Fin 4)) :
      (match allSlots.find? fun j => m.slots[j].state == st with
        | some j => some j
        | none => rest) = some i ↔
      if ∃ j : Fin 4, (m.slots[j]).state = st then
        (m.slots[i]).state = st ∧ ∀ j : Fin 4, j < i → (m.slots[j]).state ≠ st
      else rest = some i := by
    rw [← lowest st]
    by_cases h : ∃ j : Fin 4, (m.slots[j]).state = st
    · obtain ⟨j, found⟩ := (some' st).mpr h
      rw [if_pos h, found]
    · rw [if_neg h]
      cases found : allSlots.find? fun j => m.slots[j].state == st with
      | none => rfl
      | some j => exact absurd ((some' st).mp ⟨j, found⟩) h
  have spare (j : Fin 4) : (m.slots[j].state == .resident && !needs.any fun k => clipNumber k == m.slots[j].clip) = true ↔
      (m.slots[j]).state = .resident ∧ ∀ k ∈ needs, (m.slots[j]).clip ≠ k.val + 1 := by
    rw [Bool.and_eq_true, beq_iff_eq, Bool.not_eq_true', List.any_eq_false]
    refine and_congr_right fun _ => forall₂_congr fun k _ => ?_
    rw [beq_iff_eq]
    exact ne_comm
  have ordered : (m.order.find? fun j => m.slots[j].state == .resident && !needs.any fun k => clipNumber k == m.slots[j].clip) =
      some i ↔ ∃ before after, m.order = before ++ i :: after
        ∧ ((m.slots[i]).state = .resident ∧ ∀ k ∈ needs, (m.slots[i]).clip ≠ k.val + 1)
        ∧ ∀ j ∈ before, ¬ ((m.slots[j]).state = .resident ∧ ∀ k ∈ needs, (m.slots[j]).clip ≠ k.val + 1) := by
    rw [List.find?_eq_some_iff_append, spare]
    refine ⟨fun ⟨own, before, after, e, others⟩ => ⟨before, after, e, own, fun j mem h => ?_⟩,
      fun ⟨before, after, e, own, others⟩ => ⟨own, before, after, e, fun j mem => ?_⟩⟩
    · have no := others j mem
      rw [(spare j).mpr h] at no
      exact absurd no (by decide)
    · exact Bool.not_eq_true' _ |>.mpr (Bool.eq_false_iff.mpr fun h => others j mem ((spare j).mp h))
  unfold Mirror.Chosen
  dsimp only
  rw [← ordered]
  refine (first .empty _).trans ?_
  by_cases empty : ∃ j : Fin 4, (m.slots[j]).state = .empty
  · rw [if_pos empty, if_pos empty]
  · rw [if_neg empty, if_neg empty]
    exact first .stale _

/-! ### One station's needs served -/

section
variable {s t u : State} {a : StationId}

/-- What the needs of a station and their serving read of the part. -/
structure State.SameFor (a : StationId) (s t : State) : Prop where
  crossings : t.crossings = s.crossings
  patterns : t.patterns = s.patterns
  clips : t.clips = s.clips
  binding : (t.station a).binding = (s.station a).binding
  barred : (t.station a).barred = (s.station a).barred

theorem State.SameFor.crossing (h : State.SameFor a s t) (n : CrossingId) : t.crossing n = s.crossing n :=
  congrArg (fun v : Vector Crossing 8 => v[n]) h.crossings

theorem State.SameFor.clip (h : State.SameFor a s t) (k : ClipId) : t.clip k = s.clip k :=
  congrArg (fun v : Vector Clip 64 => v[k]) h.clips

theorem State.planValues_congr {n : CrossingId} (crossing : t.crossing n = s.crossing n) (patterns : t.patterns = s.patterns) :
    t.planValues n = s.planValues n := by
  unfold State.planValues State.fallbackPattern State.patternOf
  rw [crossing, patterns]

theorem State.SameFor.needs (h : State.SameFor a s t) : t.needs a = s.needs a := by
  cases bound : (s.station a).binding with
  | none => rw [State.needs, State.needs, h.binding, bound]
  | some b =>
    have valid : t.clipValid = s.clipValid := funext fun k => by rw [State.clipValid, State.clipValid, h.clip]
    rw [s.needs_eq a bound, t.needs_eq a (h.binding.trans bound), h.barred, valid, State.named, State.named, h.crossing,
      State.planValues_congr (h.crossing _) h.patterns]

/-- R155, R156: the mirror and the job of a station after its needs are served. -/
def Station.serve (t : Station) (needs : List ClipId) (total : ClipId → Nat) : Station :=
  if t.job.isSome then t
  else match needs.find? fun k => !t.mirror.holds (clipNumber k) with
    | none => t
    | some k =>
      match t.mirror.choose needs with
      | none => t
      | some i => { t with
          mirror := t.mirror.put i (clipNumber k) .filling, job := some ⟨i, k, .opening, 0, total k, 1⟩ }

/-- R155: a station whose needs are served takes a job or stays, and nothing else changes. -/
theorem State.serveNeeds_eq (s : State) (a : StationId) : s.serveNeeds a =
    s.setStation a ((s.station a).serve (s.needs a) fun k => (s.clip k).blocks) := by
  have idle : s = s.setStation a (s.station a) := by
    refine congrArg (fun v : Vector Station 24 => { s with stations := v }) ?_
    exact (Vector.set_getElem_self a.isLt).symm
  unfold State.serveNeeds Station.serve
  dsimp only
  by_cases busy : (s.station a).job.isSome = true
  · rw [if_pos busy, if_pos busy]
    exact idle
  · rw [if_neg busy, if_neg busy]
    rcases (s.needs a).find? fun k => !(s.station a).mirror.holds (clipNumber k) with _ | k
    · exact idle
    · rcases (s.station a).mirror.choose (s.needs a) with _ | i
      · exact idle
      · rfl

theorem Station.serve_beside (t : Station) (needs : List ClipId) (total : ClipId → Nat) :
    { t.serve needs total with mirror := t.mirror, job := t.job } = t := by
  unfold Station.serve
  split
  · rfl
  · split
    · rfl
    · split <;> rfl

/-- R155, R156: what is served follows the rules. -/
theorem State.served_of {x : Station} (mirror : ((t.station a).mirror, (t.station a).job) =
      ((x.serve (t.needs a) fun k => (t.clip k).blocks).mirror, (x.serve (t.needs a) fun k => (t.clip k).blocks).job)) :
    t.Served a x := by
  obtain ⟨hm, hj⟩ := Prod.mk.inj mirror
  refine ⟨fun held => ?_, fun before k after idle named lacks held => ⟨fun i chosen => ?_, fun none' => ?_⟩⟩
  · have stays : x.serve (t.needs a) (fun k => (t.clip k).blocks) = x := by
      unfold Station.serve
      obtain busy | all := held
      · rw [if_pos (Option.isSome_iff_ne_none.mpr busy)]
      · rw [List.find?_eq_none.mpr fun k mem => by
          simp only [Bool.not_eq_true', Bool.not_eq_false]
          exact all k mem]
        exact ite_self _
    rw [hm, hj, stays]
    exact ⟨rfl, rfl⟩
  all_goals
    have found : (t.needs a).find? (fun k => !x.mirror.holds (clipNumber k)) = some k := by
      rw [List.find?_eq_some_iff_append]
      exact ⟨by simpa [clipNumber] using lacks, before, after, named, fun l mem => by simpa [clipNumber] using held l mem⟩
    have free : ¬ x.job.isSome = true := by simp [idle]
  · have chosen' := (x.mirror.choose_iff _ _).mpr chosen
    rw [hm, hj]
    simp only [Station.serve, if_neg free, found, chosen', and_true]
    rfl
  · have chosen' : x.mirror.choose (t.needs a) = none := by
      rw [Option.eq_none_iff_forall_ne_some]
      exact fun i h => none' i ((x.mirror.choose_iff _ _).mp h)
    rw [hm, hj]
    simp only [Station.serve, if_neg free, found, chosen']
    exact ⟨trivial, idle⟩

/-- R155: an unbound station has no needs. -/
theorem State.needs_unbound (h : (s.station a).binding = none) : s.needs a = [] := by rw [State.needs, h]

/-- R155: the needs of a station recomputed while its crossing's records are sound. -/
theorem State.recomputeNeeds_eq (sound : ∀ b, (s.station a).binding = some b → (s.crossing b.crossing).sound = true) :
    s.recomputeNeeds a = if (s.station a).owner = .owned then s.serveNeeds a else s := by
  unfold State.recomputeNeeds
  by_cases owned : (s.station a).owner = .owned
  · rw [if_pos owned, owned]
    cases bound : (s.station a).binding with
    | none =>
      rw [s.serveNeeds_eq, State.needs_unbound bound]
      have stays : (s.station a).serve [] (fun k => (s.clip k).blocks) = s.station a := by simp [Station.serve]
      rw [stays]
      exact congrArg (fun v : Vector Station 24 => { s with stations := v }) (Vector.set_getElem_self a.isLt).symm
    | some b =>
      obtain ⟨active, planned⟩ := check_sound b.crossing s (sound b bound)
      dsimp only
      rw [active, planned]
  · rw [if_neg owned]
    split
    · contradiction
    · rfl

/-! ### The needs of a list of stations -/

/-- Only the stations' mirrors and jobs differ. -/
structure State.CachesOnly (s t : State) : Prop where
  only : t = { s with stations := t.stations }
  beside : ∀ a, { t.station a with mirror := (s.station a).mirror, job := (s.station a).job } = s.station a

theorem State.CachesOnly.refl (s : State) : s.CachesOnly s := ⟨rfl, fun _ => rfl⟩

theorem State.CachesOnly.trans (h : s.CachesOnly t) (k : t.CachesOnly u) : s.CachesOnly u where
  only := by
    rw [k.only, h.only]
  beside := fun a => by
    have first := h.beside a
    rw [← k.beside a] at first
    exact first

theorem State.CachesOnly.crossing (h : s.CachesOnly t) (n : CrossingId) : t.crossing n = s.crossing n := by
  rw [h.only]
  rfl

theorem State.CachesOnly.clip (h : s.CachesOnly t) (k : ClipId) : t.clip k = s.clip k := by
  rw [h.only]
  rfl

theorem State.CachesOnly.owner (h : s.CachesOnly t) (a : StationId) : (t.station a).owner = (s.station a).owner := by
  have same := congrArg Station.owner (h.beside a)
  exact same

theorem State.CachesOnly.binding (h : s.CachesOnly t) (a : StationId) : (t.station a).binding = (s.station a).binding := by
  have same := congrArg Station.binding (h.beside a)
  exact same

theorem State.CachesOnly.sameFor (h : s.CachesOnly t) (a : StationId) : State.SameFor a s t where
  crossings := by rw [h.only]
  patterns := by rw [h.only]
  clips := by rw [h.only]
  binding := h.binding a
  barred := by
    have same := congrArg Station.barred (h.beside a)
    exact same

/-- R155, R156: a station once its needs are served. -/
def State.servedStation (s : State) (a : StationId) : Station :=
  (s.station a).serve (s.needs a) fun k => (s.clip k).blocks

theorem State.servedStation_unbound (h : (s.station a).binding = none) : s.servedStation a = s.station a := by
  rw [State.servedStation, State.needs_unbound h]
  simp [Station.serve]

theorem State.CachesOnly.servedStation (h : s.CachesOnly t) (same : t.station a = s.station a) :
    t.servedStation a = s.servedStation a := by
  have clips : t.clip = s.clip := funext h.clip
  rw [State.servedStation, State.servedStation, (h.sameFor a).needs, same, clips]

theorem State.CachesOnly.served (h : s.CachesOnly t) (own : t.station a = s.servedStation a) : t.Served a (s.station a) := by
  have clips : t.clip = s.clip := funext h.clip
  refine State.served_of ?_
  rw [(h.sameFor a).needs, clips, own]
  rfl

theorem State.serveNeeds_cachesOnly (s : State) (a : StationId) : s.CachesOnly (s.serveNeeds a) where
  only := by rw [s.serveNeeds_eq a]; rfl
  beside := fun b => by
    rw [s.serveNeeds_eq a, State.setStation_station]
    by_cases e : b = a
    · subst e
      rw [if_pos rfl]
      exact Station.serve_beside _ _ _
    · rw [if_neg e]

theorem State.serveNeeds_station (s : State) (a b : StationId) :
    (s.serveNeeds a).station b = if b = a then s.servedStation a else s.station b := by
  rw [s.serveNeeds_eq a, State.setStation_station]
  rfl

/-- R155: the recomputed needs of distinct stations of crossings whose records are sound. -/
theorem State.recomputeAll_sound (l : List StationId) (s : State) (distinct : l.Nodup)
    (sound : ∀ a ∈ l, ∀ b, (s.station a).binding = some b → (s.crossing b.crossing).sound = true) :
    s.CachesOnly (s.recomputeAll l) ∧ ∀ b, (s.recomputeAll l).station b =
      if b ∈ l ∧ (s.station b).owner = .owned then s.servedStation b else s.station b := by
  induction l generalizing s with
  | nil => exact ⟨.refl s, fun b => by simp [State.recomputeAll, forEach]⟩
  | cons a l ih =>
    obtain ⟨fresh, distinct'⟩ := List.nodup_cons.mp distinct
    have first : s.CachesOnly (s.recomputeNeeds a) ∧ ∀ b, (s.recomputeNeeds a).station b =
        if b = a ∧ (s.station a).owner = .owned then s.servedStation a else s.station b := by
      rw [State.recomputeNeeds_eq (sound a List.mem_cons_self)]
      by_cases owned : (s.station a).owner = .owned
      · rw [if_pos owned]
        exact ⟨s.serveNeeds_cachesOnly a, fun b => by simp [s.serveNeeds_station, owned]⟩
      · rw [if_neg owned]
        exact ⟨.refl s, fun b => by simp [owned]⟩
    obtain ⟨only, own⟩ := first
    obtain ⟨only', rest⟩ := ih (s.recomputeNeeds a) distinct' fun b mem x bound => by
      rw [only.crossing]
      exact sound b (List.mem_cons_of_mem a mem) x ((only.binding b).symm.trans bound)
    refine ⟨only.trans only', fun b => (rest b).trans ?_⟩
    rw [only.owner]
    by_cases e : b = a
    · subst e
      simp [fresh, own]
    · have same : (s.recomputeNeeds a).station b = s.station b := by simp [own, e]
      rw [only.servedStation same, same]
      simp [e]

theorem State.mem_ownedAt {n : CrossingId} : a ∈ s.ownedAt n ↔ (s.station a).owner = .owned ∧ (s.station a).atCrossing n = true := by
  simp [State.ownedAt, mem_allStations]

theorem State.nodup_ownedAt (s : State) (n : CrossingId) : (s.ownedAt n).Nodup := nodup_allStations.filter _

theorem Station.atCrossing_iff {x : Station} {n : CrossingId} : x.atCrossing n = true ↔ ∃ b, x.binding = some b ∧ b.crossing = n := by
  unfold Station.atCrossing
  cases x.binding <;> simp

theorem State.CachesOnly.ownedAt (h : s.CachesOnly t) (n : CrossingId) : t.ownedAt n = s.ownedAt n := by
  unfold State.ownedAt
  refine List.filter_congr fun a _ => ?_
  rw [h.owner, Station.atCrossing, Station.atCrossing, h.binding]

/-- R155: the needs of every OWNED station of some crossings, their records sound. -/
theorem State.recomputeCrossings_sound (l : List CrossingId) (s : State) (distinct : l.Nodup) (sound : s.PlansSound) :
    s.CachesOnly (forEach l (fun n u => u.recomputeAll (u.ownedAt n)) s)
      ∧ ∀ b, (forEach l (fun n u => u.recomputeAll (u.ownedAt n)) s).station b =
        if (s.station b).owner = .owned ∧ ∃ n ∈ l, (s.station b).atCrossing n = true then s.servedStation b else s.station b := by
  induction l generalizing s with
  | nil => exact ⟨.refl s, fun b => by simp [forEach]⟩
  | cons n l ih =>
    obtain ⟨fresh, distinct'⟩ := List.nodup_cons.mp distinct
    obtain ⟨only, own⟩ := State.recomputeAll_sound (s.ownedAt n) s (s.nodup_ownedAt n) fun a _ b _ => sound b.crossing
    obtain ⟨only', rest⟩ := ih (s.recomputeAll (s.ownedAt n)) distinct' fun m => by rw [only.crossing]; exact sound m
    refine ⟨only.trans only', fun b => (rest b).trans ?_⟩
    have at' (m : CrossingId) : ((s.recomputeAll (s.ownedAt n)).station b).atCrossing m = (s.station b).atCrossing m := by
      rw [Station.atCrossing, Station.atCrossing, only.binding]
    simp only [only.owner, at']
    simp only [State.mem_ownedAt] at own
    by_cases here : (s.station b).owner = .owned ∧ (s.station b).atCrossing n = true
    · have later : ¬ ∃ m ∈ l, (s.station b).atCrossing m = true := by
        rintro ⟨m, mem, there⟩
        obtain ⟨x, bound, rfl⟩ := Station.atCrossing_iff.mp here.2
        obtain ⟨y, bound', rfl⟩ := Station.atCrossing_iff.mp there
        obtain rfl : x = y := Option.some.inj (bound.symm.trans bound')
        exact fresh mem
      rw [if_neg (later ·.2), own, if_pos ⟨here, here.1⟩, if_pos ⟨here.1, n, List.mem_cons_self, here.2⟩]
    · have same : (s.recomputeAll (s.ownedAt n)).station b = s.station b := by
        rw [own, if_neg (here ·.1)]
      rw [only.servedStation same, same]
      by_cases owned : (s.station b).owner = .owned
      · have away : ¬ (s.station b).atCrossing n = true := fun at' => here ⟨owned, at'⟩
        simp [away]
      · simp [owned]

theorem Crossing.flawed_of_sound {c : Crossing} (h : c.sound = true) : c.flawed = false := by
  have planned := (c.sound_iff.mp h).2
  rw [Crossing.flawed, c.damaged_of_sound h, Bool.false_or]
  cases held : c.planned with
  | none => rfl
  | some r =>
    rw [Crossing.plannedSound, held] at planned
    have good : r.check = .sound := by simpa using planned
    simp [good]

/-- R155, R153: the needs of every OWNED station, every record sound. -/
theorem State.recomputeEvery_sound (s : State) (sound : s.PlansSound) : s.CachesOnly s.recomputeEvery
    ∧ ∀ b, s.recomputeEvery.station b = if (s.station b).owner = .owned then s.servedStation b else s.station b := by
  have loop : s.recomputeEvery = forEach allCrossings (fun n u => u.recomputeAll (u.ownedAt n)) s :=
    forCrossings_ascending _ _ s 0 fun m _ => Crossing.flawed_of_sound (sound m)
  obtain ⟨only, own⟩ := s.recomputeCrossings_sound allCrossings nodup_allCrossings sound
  rw [loop]
  refine ⟨only, fun b => (own b).trans ?_⟩
  by_cases owned : (s.station b).owner = .owned
  · cases bound : (s.station b).binding with
    | none => rw [State.servedStation_unbound bound, ite_self, ite_self]
    | some x =>
      rw [if_pos owned, if_pos ⟨owned, x.crossing, mem_allCrossings _, Station.atCrossing_iff.mpr ⟨x, bound, rfl⟩⟩]
  · rw [if_neg owned, if_neg (owned ·.1)]

end
end Sys2Proof.Machine
end

section
/-! SUPPORT. Stations whose needs are recomputed after an event: SET PLAN, the end of a job, entry to OWNED. -/

namespace Sys2Proof.Machine

/-! ### The needs by number (R155) -/

theorem distinct_map {α β : Type} [DecidableEq α] [DecidableEq β] {f : α → β} (inj : Function.Injective f) (l : List α) :
    (distinct l).map f = distinct (l.map f) := by
  induction l with
  | nil => rfl
  | cons x l ih =>
    rw [distinct, List.map_cons, List.map_cons, distinct, ← ih, List.filter_map]
    congr 2
    refine List.filter_congr fun y _ => ?_
    simp [inj.eq_iff]

theorem clipIndex_eq_some {m : Nat} {k : ClipId} : clipIndex m = some k ↔ m = k.val + 1 := by
  unfold clipIndex
  cases m with
  | zero => simp
  | succ i =>
    dsimp only
    split
    · simp [Fin.ext_iff]
    · next out => simp; omega

theorem clipNumbers_filter (q : ClipId → Bool) (p : Nat → Bool) (same : ∀ k : ClipId, p (k.val + 1) = q k)
    (other : ∀ m, clipIndex m = none → p m = false) (l : List Nat) :
    ((l.filterMap clipIndex).filter q).map (fun k => k.val + 1) = l.filter p := by
  induction l with
  | nil => rfl
  | cons m l ih =>
    cases found : clipIndex m with
    | none => rw [List.filterMap_cons_none found, ih, List.filter_cons_of_neg (by simp [other m found])]
    | some k =>
      obtain rfl := clipIndex_eq_some.mp found
      rw [List.filterMap_cons_some found]
      cases held : q k with
      | true => rw [List.filter_cons_of_pos held, List.map_cons, ih, List.filter_cons_of_pos ((same k).trans held)]
      | false => rw [List.filter_cons_of_neg (by simp [held]), ih, List.filter_cons_of_neg (by simp [same k, held])]

section
variable {s t u : State} {a : StationId}

/-! ### Needs recomputed after an event at a station -/

theorem State.recomputeNeeds_served (sound : ∀ b, (u.station a).binding = some b → (u.crossing b.crossing).sound = true) :
    u.CachesOnly (u.recomputeNeeds a) ∧ (u.recomputeNeeds a).ServedIfOwned a (u.station a)
      ∧ ∀ b, b ≠ a → (u.recomputeNeeds a).station b = u.station b := by
  rw [State.recomputeNeeds_eq sound]
  unfold State.ServedIfOwned
  by_cases owned : (u.station a).owner = .owned
  · rw [if_pos owned, if_pos owned]
    exact ⟨u.serveNeeds_cachesOnly a, (u.serveNeeds_cachesOnly a).served (by rw [u.serveNeeds_station, if_pos rfl]),
      fun b e => by rw [u.serveNeeds_station, if_neg e]⟩
  · rw [if_neg owned, if_neg owned]
    exact ⟨.refl u, ⟨rfl, rfl⟩, fun _ _ => rfl⟩

theorem State.CachesOnly.kept (h : s.CachesOnly t) : s.Kept t := by
  rw [h.only]
  exact ⟨rfl, rfl, rfl, rfl, rfl, rfl, rfl, rfl, rfl, rfl, id⟩

theorem State.CachesOnly.street (h : s.CachesOnly t) : t.street = s.street := by rw [h.only]

theorem State.CachesOnly.crossings (h : s.CachesOnly t) : t.crossings = s.crossings := by rw [h.only]

theorem State.CachesOnly.limit (h : s.CachesOnly t) : t.budgetLimit = s.budgetLimit := by rw [h.only]

theorem State.CachesOnly.link (h : s.CachesOnly t) : t.link = s.link := by rw [h.only]

/-- What the end of a transaction leaves alone where it changes its station only. -/
theorem State.Kept.besideStation (h : s.idled.Kept t) (crossings : t.crossings = s.crossings)
    (limit : t.budgetLimit = s.budgetLimit) (others : ∀ b, b ≠ a → t.station b = s.station b) : s.BesideStation a t :=
  ⟨⟨h.tb, crossings, limit, h.patterns, h.libraryEnabled, h.clips, h.startUp, h.draws, h.pending⟩, others, h.configured⟩

/-- The station whose job an end moves on. -/
theorem State.modJob_station {f : Job → Job} {j : Job} (job : (u.station a).job = some j) :
    (u.modJob a f).station a = { u.station a with job := some (f j) } := by
  simp [State.modJob, job]

theorem State.proceed_served {x : Transaction} {v : Station} (h : t.ServedIfOwned a v) : (t.proceed x).ServedIfOwned a v := by
  rw [t.proceed_eq]
  exact h

end

/-! ### SET PLAN (R23) -/

/-- Settles O16. -/
theorem setPlanFillsThePendingSlot : Obligations.SetPlanFillsThePendingSlot := by
  refine ⟨fun s a b bound => ?_, fun s n tag crossing f takes number ok sound => ?_⟩
  · have named : (s.named b) = [(s.planValues b.crossing).walkClip, (match (s.crossing b.crossing).planned with
        | some r => r.plan.walkClip
        | none => 0), b.settings.locateClip].filterMap clipIndex := by
      unfold State.named
      cases (s.crossing b.crossing).planned <;> rfl
    dsimp only
    rw [s.needs_eq a bound, distinct_map (fun k l e => Fin.ext (Nat.succ.inj e)), named]
    congr 1
    refine clipNumbers_filter _ _ (fun k => ?_) (fun m none' => ?_) _
    · have one : (∃ l : ClipId, k.val + 1 = l.val + 1 ∧ (s.clip l).state = .valid ∧ l ∉ (s.station a).barred) ↔
          (s.clip k).state = .valid ∧ k ∉ (s.station a).barred :=
        ⟨fun ⟨l, e, h⟩ => Fin.ext (Nat.succ.inj e) ▸ h, fun h => ⟨k, rfl, h⟩⟩
      simp only [one]
      rw [State.clipValid, Bool.eq_iff_iff]
      simp
    · refine decide_eq_false ?_
      rintro ⟨l, e, -⟩
      rw [clipIndex_eq_some.mpr e] at none'
      cases none'
  · have run : exec (.setPlan tag crossing f) s = .next ((done (s.handling.planned n (recordOf f))).replied 0x02 tag) := by
      refine (congrArg Host.Outcome.next (s.takeRequest_takes _ _ _ takes)).trans ?_
      obtain ⟨bad, -⟩ | ⟨-, m, number', handled⟩ := handleSetPlan_cases s.handling crossing f
      · exact absurd ok bad
      · obtain rfl : m = n := Fin.ext (by omega)
        rw [handled]
    let filled := s.handling.modCrossing n fun c => { c with planned := some ⟨recordOf f, .sound⟩ }
    have own : filled.crossing n = { s.crossing n with planned := some ⟨recordOf f, .sound⟩ } :=
      (s.handling.modCrossing_crossing n n _).trans (if_pos rfl)
    have sound' : (filled.crossing n).sound = true := by
      rw [own, Crossing.sound_iff]
      exact ⟨((s.crossing n).sound_iff.mp sound).1, rfl⟩
    obtain ⟨only, station⟩ := State.recomputeAll_sound (filled.ownedAt n) filled (filled.nodup_ownedAt n)
      fun a mem b bound => by
        obtain ⟨x, bound', rfl⟩ := Station.atCrossing_iff.mp (State.mem_ownedAt.mp mem).2
        obtain rfl : b = x := Option.some.inj (bound.symm.trans bound')
        exact sound'
    have other (m : CrossingId) (e : m ≠ n) : filled.crossing m = s.crossing m :=
      (s.handling.modCrossing_crossing n m _).trans (if_neg e)
    have planned : s.handling.planned n (recordOf f) = filled.recomputeAll (filled.ownedAt n) := rfl
    rw [planned] at run
    generalize filled.recomputeAll (filled.ownedAt n) = after at *
    have kept := only.kept
    refine ⟨_, run, ⟨(only.crossing n).trans own, fun m e => (only.crossing m).trans (other m e), only.limit,
        kept.tb, kept.configured, .inl only.link, kept.patterns, kept.libraryEnabled, kept.clips, kept.startUp, kept.draws,
        kept.pending⟩, done_street (u := after) (v := s.street) tag (by decide) only.street, fun a owned at' => ?_,
      fun a free => ?_, only.beside⟩
    · rw [done_replied _ _ _ (by decide)]
      have held : after.station a = filled.servedStation a :=
        (station a).trans (if_pos ⟨State.mem_ownedAt.mpr ⟨owned, at'⟩, owned⟩)
      exact only.served held
    · exact (station a).trans (if_neg fun held => free (State.mem_ownedAt.mp held.1))

/-! ### Transfer jobs (R105, R157) -/

/-- Settles O38: each end of a job's transaction, and the needs after the last. -/
theorem jobMovesOnByItsTransactions : Obligations.JobMovesOnByItsTransactions := by
  intro s a again reply j job
  let w := s.idled.clearFailures a
  have own : w.station a = { s.station a with failures := 0 } := State.clearFailures_station.trans (if_pos rfl)
  have others (b : StationId) (e : b ≠ a) : w.station b = s.station b := State.clearFailures_station.trans (if_neg e)
  have only : s.idled.StationsOnly w := .clearFailures (.refl _)
  have job' : (w.station a).job = some j := by rw [own]; exact job
  have moved (f : Job → Job) : s.BesideStation a (w.modJob a f) :=
    only.modStation.besideStation fun b e => (State.modStation_station _ _ _ _).trans ((if_neg e).trans (others b e))
  refine ⟨fun carries ok => ?_, fun carries ok => ?_, fun carries ok sound => ?_⟩
  · refine ⟨_, exec_ending_ok carries ok, (moved _).proceed, State.proceed_street, State.proceed_pointer _ _, ?_⟩
    rw [State.proceed_station]
    refine (State.modJob_station job').trans ?_
    rw [own]
    rfl
  · refine ⟨_, exec_ending_ok carries ok, (moved _).proceed, State.proceed_street, State.proceed_pointer _ _, ?_⟩
    rw [State.proceed_station]
    refine (State.modJob_station job').trans ?_
    rw [own]
    rfl
  · have run : exec (.slotCommitTransaction reply) s =
        .next ((w.commitAnswer a (replyByte reply 2 == 0)).proceed ⟨a, .slotCommit, false, again⟩) := exec_ending_ok carries ok
    rw [run]
    have ended (u : State) (v : Station) (same : u.station a = v) (job : v.job = none)
        (kept : s.idled.Kept u) (crossings : u.crossings = s.crossings) (limit : u.budgetLimit = s.budgetLimit)
        (bound : v.binding = (s.station a).binding) (rest : ∀ b, b ≠ a → u.station b = s.station b) :
        s.BesideStation a (u.recomputeNeeds a) ∧ (u.recomputeNeeds a).street = u.street
          ∧ (u.recomputeNeeds a).ServedIfOwned a v
          ∧ { (u.recomputeNeeds a).station a with mirror := v.mirror, job := none } = v := by
      subst same
      obtain ⟨caches, served, away⟩ := State.recomputeNeeds_served (u := u) (a := a) fun b h => by
        have at' : u.crossing b.crossing = s.crossing b.crossing := congrArg (fun v : Vector Crossing 8 => v[b.crossing]) crossings
        rw [at']
        exact sound b (bound.symm.trans h)
      have beside := caches.beside a
      rw [job] at beside
      exact ⟨(kept.trans caches.kept).besideStation (caches.crossings.trans crossings) (caches.limit.trans limit)
        fun b e => (away b e).trans (rest b e), caches.street, served, beside⟩
    unfold State.commitAnswer
    rw [job']
    dsimp only
    by_cases good : replyByte reply 2 = 0
    · rw [if_pos (by simpa using good)]
      obtain ⟨beside, street, served, station⟩ := ended (w.modStation a fun t => { t with
          job := none, mirror := t.mirror.commit j.slot (clipNumber j.clip) })
        { s.station a with
          failures := 0, job := none
          mirror := { slots := (s.station a).mirror.slots.set j.slot ⟨j.clip.val + 1, .resident⟩,
                      order := ((s.station a).mirror.order.filter fun i => i ≠ j.slot) ++ [j.slot] } }
        (by rw [State.modStation_station, if_pos rfl, own]; rfl) rfl only.modStation.toKept rfl rfl rfl
        fun b e => (State.modStation_station _ _ _ _).trans ((if_neg e).trans (others b e))
      refine ⟨_, rfl, beside.proceed, State.proceed_pointer _ _, fun _ => ⟨State.proceed_street.trans street,
        State.proceed_served served, ?_⟩, fun bad => absurd good bad, fun bad => absurd good bad⟩
      rw [State.proceed_station]
      exact station
    · rw [if_neg (by simpa using good)]
      by_cases first : j.attempt = 1
      · rw [if_pos first]
        refine ⟨_, rfl, (only.modStation.besideStation fun b e =>
          (State.modStation_station _ _ _ _).trans ((if_neg e).trans (others b e))).proceed, State.proceed_pointer _ _,
          fun g => absurd g good, fun _ _ => ⟨State.proceed_street, ?_⟩, fun _ n => absurd first n⟩
        rw [State.proceed_station, State.modStation_station, if_pos rfl, own]
      · rw [if_neg first]
        let emptied := w.modStation a fun t => { t with
          job := none, mirror := t.mirror.put j.slot 0 .empty
          barred := if t.barred.contains j.clip then t.barred else t.barred ++ [j.clip] }
        have emptiedOnly : s.idled.StationsOnly emptied := only.modStation
        have barred : ((w.station a).barred.isEmpty = true) ↔ (s.station a).barred = [] := by rw [own, List.isEmpty_iff]
        let told := if (w.station a).barred.isEmpty then
          (emptied.modStation a fun t => { t with clipFault := true }).notifyStation a else emptied
        have emptiedOwn : emptied.station a = { s.station a with
            failures := 0, job := none
            barred := if j.clip ∈ (s.station a).barred then (s.station a).barred else (s.station a).barred ++ [j.clip]
            mirror := { slots := (s.station a).mirror.slots.set j.slot ⟨0, .empty⟩,
                        order := (s.station a).mirror.order.filter fun i => i ≠ j.slot } } := by
          simp only [emptied, State.modStation_station, if_true, own, List.contains_iff_mem]
          rfl
        have toldOnly : s.idled.StationsOnly told := by
          change s.idled.StationsOnly (if _ then _ else _)
          split
          · exact emptiedOnly.modStation.notifyStation
          · exact emptiedOnly
        have toldOwn : told.station a = { emptied.station a with
            clipFault := if (s.station a).barred = [] then true else (s.station a).clipFault } := by
          by_cases fresh : (s.station a).barred = []
          · simp [told, barred, fresh]
          · simp [told, barred, fresh, emptiedOwn]
        have toldOthers (b : StationId) (e : b ≠ a) : told.station b = s.station b := by
          by_cases fresh : (s.station a).barred = [] <;> simp [told, barred, fresh, e, emptied, others b e]
        have toldStreet : told.street = if (s.station a).barred = [] then
            s.street.queued ({ s.station a with clipFault := true }.notice a) else s.street := by
          by_cases fresh : (s.station a).barred = []
          · rw [if_pos fresh]
            simp only [told, barred, fresh, if_true, State.notifyStation_street, State.modStation_station, emptiedOwn]
            rfl
          · simp only [told, barred, fresh, if_false]
            rfl
        rw [emptiedOwn] at toldOwn
        obtain ⟨beside, street, served, station⟩ := ended told _ toldOwn rfl toldOnly.toKept
          toldOnly.crossings toldOnly.limit rfl toldOthers
        refine ⟨_, rfl, beside.proceed, State.proceed_pointer _ _, fun g => absurd g good, fun _ f => absurd f first,
          fun _ _ => ⟨State.proceed_street.trans (street.trans toldStreet), State.proceed_served served, ?_⟩⟩
        rw [State.proceed_station]
        exact station

/-! ### Entry to OWNED (R124) -/

/-- Settles O37. -/
theorem lastSettingMakesTheStationOwned : Obligations.LastSettingMakesTheStationOwned := by
  intro s a x reply b carries ok taking emptied bound sound
  let w := s.idled.clearFailures a
  let v := ((w.modStation a fun t => { t with settings := t.settings.remove x }).modStation a
    fun t => { t with owner := .owned }).notifyStation a
  have own : v.station a = { s.station a with owner := .owned, failures := 0, settings := {} } := by
    simp [v, w, emptied]
  have others (c : StationId) (e : c ≠ a) : v.station c = s.station c := by simp [v, w, e]
  have settled : w.settingDelivered a x false = (v.queuePlayTo a).recomputeNeeds a := by
    have last : ((w.modStation a fun t => { t with settings := t.settings.remove x }).station a).owner = .taking
        ∧ ((w.modStation a fun t => { t with settings := t.settings.remove x }).station a).settings = {} := by
      simp [w, taking, emptied]
    have bound' : (v.station a).binding = some b := by rw [own]; exact bound
    have read : checkActive b.crossing v = v := (check_sound b.crossing v sound).1
    rw [State.settingDelivered, if_neg Bool.false_ne_true]
    dsimp only
    rw [if_pos last, State.becomeOwned]
    change (match (v.station a).binding with
      | none => v
      | some b =>
        (if ((checkActive b.crossing v).crossing b.crossing).state = (v.crossing b.crossing).state
          then (checkActive b.crossing v).queuePlayTo a else checkActive b.crossing v).recomputeNeeds a) = _
    rw [bound']
    dsimp only
    rw [read, if_pos rfl]
  have kept : s.idled.Kept (v.queuePlayTo a) :=
    ((State.Kept.refl s.idled).modStation.modStation.modStation.notifyStation).queuePlayTo
  have played : (v.queuePlayTo a).station a = { s.station a with
      owner := .owned, failures := 0, settings := {}
      urgent := urgentAdd (s.station a).urgent (.play (s.playFor a b (s.crossing b.crossing).state))
      level := s.targetLevel a } := by
    have target : v.targetLevel a = s.targetLevel a := by
      rw [State.targetLevel_eq (b := b) v a (by rw [own]; exact bound), State.targetLevel_eq (b := b) s a bound, own]
      rfl
    have content : v.playFor a b (v.crossing b.crossing).state = s.playFor a b (s.crossing b.crossing).state := by
      unfold State.playFor
      rw [target, own]
      rfl
    have level : (s.playFor a b (s.crossing b.crossing).state).level = s.targetLevel a := by
      unfold State.playFor
      cases (s.crossing b.crossing).state <;> rfl
    have bound' : (v.station a).binding = some b := by rw [own]; exact bound
    rw [State.queuePlayTo_station, if_pos rfl, bound']
    dsimp only
    rw [content, Station.played, level, own]
  obtain ⟨caches, served, away⟩ := State.recomputeNeeds_served (u := v.queuePlayTo a) (a := a) fun y h => by
    rw [played] at h
    obtain rfl : b = y := Option.some.inj (bound.symm.trans h)
    have same : (v.queuePlayTo a).crossing b.crossing = s.crossing b.crossing := by
      rw [State.crossing, State.queuePlayTo_crossings]
      rfl
    rw [same]
    exact sound
  rw [exec_ending_ok carries ok, Transaction.settle_setting, settled]
  refine ⟨_, rfl, ?_, ?_, State.BesideStation.proceed ((kept.trans caches.kept).besideStation
      (caches.crossings.trans (State.queuePlayTo_crossings v a)) (caches.limit.trans (State.queuePlayTo_budgetLimit v a))
      fun c e => (away c e).trans ?_),
    (State.proceed_pointer _ _).trans (if_neg x.item_ne_poll), ?_⟩
  · rw [State.proceed_station]
    have beside := caches.beside a
    rw [played] at beside
    exact beside
  · rw [State.proceed_street, caches.street, State.queuePlayTo_street]
    change (State.notifyStation _ a).street = _
    rw [State.notifyStation_street]
    simp [w, Station.notice]
  · rw [State.queuePlayTo_station, if_neg e]
    exact others c e
  · have after := State.proceed_served (x := ⟨a, x.item, false, false⟩) served
    rw [State.ServedIfOwned, played, if_pos rfl] at after
    exact after

end Sys2Proof.Machine
end

section
/-! SUPPORT. BIND STATION (R118, R119): the fields in range, and what each binding makes of the station. -/

namespace Sys2Proof.Machine

/-! ### The fields of a BIND STATION -/

theorem approachOf_code (ap : Approach) : approachOf (approachCode ap) = some ap := by cases ap <;> rfl

theorem approachOf_eq_none {b : Byte} (h : 1 < b.toNat) : approachOf b = none := by
  have zero : b ≠ 0 := by rintro rfl; exact absurd h (by decide)
  have one : b ≠ 1 := by rintro rfl; exact absurd h (by decide)
  rw [approachOf, if_neg zero, if_neg one]

/-- R117: the settings of a BIND STATION are in range. -/
def settingsInRange (f : BindFields) : Prop :=
  f.margin.toNat ≤ 300 ∧ 300 ≤ f.floor.toNat ∧ f.floor.toNat ≤ 1000
  ∧ f.floor.toNat ≤ f.dayCeiling.toNat ∧ f.dayCeiling.toNat ≤ 1000
  ∧ f.floor.toNat ≤ f.nightCeiling.toNat ∧ f.nightCeiling.toNat ≤ 1000
  ∧ 2 ≤ f.holdThreshold.toNat ∧ f.holdThreshold.toNat ≤ 100 ∧ 1 ≤ f.rampRate.toNat ∧ f.rampRate.toNat ≤ 100
  ∧ f.locateClip.toNat ≤ 64 ∧ f.tactile.toNat ≤ 1

theorem settingsOf_inRange {f : BindFields} (h : settingsInRange f) : settingsOf f = some (settingsFrom f) := by
  obtain ⟨margin, floor, floor', day, day', night, night', hold, hold', ramp, ramp', clip, tactile⟩ := h
  rw [settingsOf, yesNoOf_eq, if_pos tactile]
  dsimp only
  rw [if_pos]
  · rfl
  · simp only [Settings.inRange, Bool.and_eq_true, decide_eq_true_eq]
    exact ⟨⟨⟨⟨⟨⟨margin, floor, floor'⟩, day, day'⟩, night, night'⟩, hold, hold'⟩, ramp, ramp'⟩, clip⟩

theorem settingsOf_outOfRange {f : BindFields} (h : ¬ settingsInRange f) : settingsOf f = none := by
  rw [settingsOf, yesNoOf_eq]
  by_cases tactile : f.tactile.toNat ≤ 1
  · rw [if_pos tactile]
    dsimp only
    rw [if_neg]
    simp only [Settings.inRange, Bool.and_eq_true, decide_eq_true_eq]
    rintro ⟨⟨⟨⟨⟨⟨margin, floor, floor'⟩, day, day'⟩, night, night'⟩, hold, hold'⟩, ramp, ramp'⟩, clip⟩
    exact h ⟨margin, floor, floor', day, day', night, night', hold, hold', ramp, ramp', clip, tactile⟩
  · rw [if_neg tactile]

theorem handleBindStation_badField {address crossing approach : Byte} {f : BindFields} (s : State)
    (h : ¬ bindInRange address crossing approach f) : handleBindStation address crossing approach f s = refuse s .badField := by
  unfold handleBindStation
  by_cases addressFits : 1 ≤ address.toNat ∧ address.toNat ≤ 24
  · have none' : bindingOf crossing approach f = none := by
      unfold bindingOf
      by_cases crossingFits : 1 ≤ crossing.toNat ∧ crossing.toNat ≤ 8
      · by_cases approachFits : approach.toNat ≤ 1
        · have out : ¬ settingsInRange f := fun settings =>
            h ⟨addressFits.1, addressFits.2, crossingFits.1, crossingFits.2, approachFits, settings⟩
          rw [settingsOf_outOfRange out]
          split
          · next none' => cases none'
          · rfl
        · rw [approachOf_eq_none (by omega)]
          split
          · next none' _ => cases none'
          · rfl
      · rw [crossingOf, numberOf_eq_none crossingFits]
    rw [none']
    split
    · next none'' => cases none''
    · rfl
  · rw [addressOf, numberOf_eq_none addressFits]

theorem bindInRange.binding {address crossing approach : Byte} {f : BindFields} {n : CrossingId} {ap : Approach}
    (h : bindInRange address crossing approach f) (number : crossing.toNat = n.val + 1) (code : approach = approachCode ap) :
    bindingOf crossing approach f = some ⟨n, ap, settingsFrom f⟩ := by
  obtain ⟨-, -, -, -, -, settings⟩ := h
  rw [bindingOf, show crossingOf crossing = some n from numberOf_eq_some n number, code, approachOf_code, settingsOf_inRange settings]

/-! ### Placing a station (R118, R119, R123) -/

section
variable {s : State} {a : StationId}

theorem State.approachFull_iff (s : State) (a : StationId) (b : Binding) : s.approachFull a b = true ↔
    2 ≤ (allStations.filter fun x => x ≠ a && (s.station x).serves b.crossing b.approach).length := by
  rw [State.approachFull, decide_eq_true_eq]

theorem State.ready_iff (s : State) : (s.configured && s.linkReady) = true ↔
    s.configured = true ∧ s.link.line = .up ∧ s.link.quiet = 0 := by
  simp [State.linkReady]

theorem Station.startedAt_eq {x : Station} {b : Binding} {d : DayNight} {settings : SettingsSet} {ready : Prop} [Decidable ready]
    {flag : Bool} (same : flag = true ↔ ready) : x.startedAt b d flag settings =
      if ready then { x with binding := some b, level := b.settings.target x.ambient d }.taken settings
      else { x with binding := some b, level := b.settings.target x.ambient d, owner := .local } := by
  unfold Station.startedAt
  dsimp only
  by_cases h : ready
  · rw [if_pos (same.mpr h), if_pos h]
  · rw [if_neg (mt same.mp h), if_neg h]

/-- R119: new settings at the same approach, up to the needs. -/
def State.resettled (s : State) (a : StationId) (b : Binding) : State :=
  let bound := s.modStation a fun t => { t with binding := some b }
  (if (bound.station a).controlled then bound.addSetting a .config else bound).reevaluateLevel a

theorem State.bindSame_eq (s : State) (a : StationId) (b : Binding) : s.bindSame a b = (s.resettled a b).recomputeNeeds a := rfl

theorem State.resettled_kept (s : State) (a : StationId) (b : Binding) : s.Kept (s.resettled a b) := by
  unfold State.resettled
  dsimp only
  refine State.Kept.reevaluateLevel ?_
  split
  · exact (State.Kept.refl s).modStation.addSetting
  · exact (State.Kept.refl s).modStation

theorem State.resettled_beside (s : State) (a : StationId) (b : Binding) : (s.resettled a b).crossings = s.crossings
    ∧ (s.resettled a b).budgetLimit = s.budgetLimit ∧ (s.resettled a b).street = s.street
    ∧ s.link.SameButAgain (s.resettled a b).link := by
  unfold State.resettled
  dsimp only
  split
  · exact ⟨by simp, by simp, by simp,
      (State.addSetting_link (s.modStation a fun t => { t with binding := some b }) a .config).trans
        (State.reevaluateLevel_link _ _)⟩
  · exact ⟨by simp, by simp, by simp, State.reevaluateLevel_link (s.modStation a fun t => { t with binding := some b }) a⟩

end

/-- R119, R145: a controlled station's settings once bound again, in one record. -/
theorem Station.relevelled_rebound (x : Station) (b : Binding) (d : DayNight) :
    ({ x with
      binding := some b
      settings := if x.controlled then x.settings.add .config else x.settings } : Station).relevelled d = { x with
      binding := some b
      level := if x.level + 20 ≤ b.settings.target x.ambient d ∨ b.settings.target x.ambient d + 20 ≤ x.level
        ∨ b.settings.ceiling d < x.level ∨ x.level < b.settings.floor then b.settings.target x.ambient d else x.level
      settings := if x.controlled then { x.settings with
          config := true
          level := x.settings.level || decide ((x.level + 20 ≤ b.settings.target x.ambient d
            ∨ b.settings.target x.ambient d + 20 ≤ x.level ∨ b.settings.ceiling d < x.level ∨ x.level < b.settings.floor)
            ∧ b.settings.target x.ambient d ≠ x.level) }
        else x.settings } := by
  unfold Station.relevelled Binding.moves
  dsimp only
  generalize hm : decide (x.level + 20 ≤ b.settings.target x.ambient d ∨ b.settings.target x.ambient d + 20 ≤ x.level
    ∨ b.settings.ceiling d < x.level ∨ x.level < b.settings.floor) = m
  have level : (if m = true then b.settings.target x.ambient d else x.level) =
      if x.level + 20 ≤ b.settings.target x.ambient d ∨ b.settings.target x.ambient d + 20 ≤ x.level
        ∨ b.settings.ceiling d < x.level ∨ x.level < b.settings.floor then b.settings.target x.ambient d else x.level := by
    rw [← hm]
    simp only [decide_eq_true_eq]
  rw [level, Bool.decide_and, hm]
  have held : ({ x with
      binding := some b
      settings := if x.controlled then x.settings.add .config else x.settings } : Station).controlled = x.controlled := rfl
  rw [held]
  cases x.controlled with
  | false => simp
  | true => cases m <;> by_cases e : b.settings.target x.ambient d = x.level <;> simp [e]

/-- Settles O40: refused, a first binding, a move, or new settings. -/
theorem bindStationBindsTheAddress : Obligations.BindStationBindsTheAddress := by
  intro s tag address crossing approach f takes
  have run : exec (.bindStation tag address crossing approach f) s =
      .next ((handleBindStation address crossing approach f s.handling).replied 0x08 tag) :=
    congrArg Host.Outcome.next (s.takeRequest_takes _ _ _ takes)
  rw [run]
  refine ⟨fun out => ?_, fun a n ap fits number number' code => ?_⟩
  · rw [handleBindStation_badField _ out]
    exact congrArg _ (s.handling_refused _ _ _ (by decide))
  · have address' : addressOf address = some a := numberOf_eq_some a number
    rw [handleBindStation, address', fits.binding number' code]
    dsimp only
    let b : Binding := ⟨n, ap, settingsFrom f⟩
    have full : s.handling.approachFull a b = true ↔
      2 ≤ (allStations.filter fun x => x ≠ a && (s.station x).serves n ap).length := s.handling.approachFull_iff a b
    refine ⟨fun many => ?_, fun room sound => ?_⟩
    · rw [if_pos (full.mpr many)]
      exact congrArg _ (s.handling_refused _ _ _ (by decide))
    rw [if_neg (mt full.mp (by omega))]
    have ready := s.ready_iff
    cases bound : (s.station a).binding with
    | none =>
      have bound' : (s.handling.station a).binding = none := bound
      rw [bound']
      dsimp only
      have only : s.handling.StationsOnly (s.handling.bindFresh a b) := .bindFresh (.refl _)
      have station := s.handling.bindFresh_station (a := a) b
      have street : (s.handling.bindFresh a b).street = s.street.handled := by
        unfold State.bindFresh State.takeOrLeave
        dsimp only
        split <;> simp [State.handling_street]
      generalize s.handling.bindFresh a b = after at *
      refine ⟨_, rfl, ⟨only.besideStations, fun c e => (station c).trans (if_neg e), only.configured⟩,
        done_street (u := after) tag (by decide) street, .inl only.discard, fun _ => ?_, fun _ h => (nomatch h), fun _ h => (nomatch h)⟩
      refine (station a).trans ((if_pos rfl).trans ?_)
      exact (Station.startedAt_eq ready).trans rfl
    | some old =>
      have bound' : (s.handling.station a).binding = some old := bound
      rw [bound']
      dsimp only
      by_cases same : old.crossing = n ∧ old.approach = ap
      · rw [if_pos same, State.bindSame_eq]
        have station := s.handling.bindSame_levels (a := a) b
        obtain ⟨crossings, limit, street, line⟩ := s.handling.resettled_beside a b
        have kept := s.handling.resettled_kept a b
        have own : (s.handling.resettled a b).station a = _ := (station a).trans (if_pos rfl)
        have others (c : StationId) (e : c ≠ a) : (s.handling.resettled a b).station c = s.station c := (station c).trans (if_neg e)
        rw [Station.relevelled_rebound] at own
        generalize s.handling.resettled a b = set at *
        obtain ⟨caches, served, away⟩ := State.recomputeNeeds_served (u := set) (a := a) fun y h => by
          rw [own] at h
          obtain rfl : b = y := Option.some.inj h
          have at' : set.crossing n = s.crossing n := congrArg (fun v : Vector Crossing 8 => v[n]) crossings
          exact at' ▸ sound
        have kept' := kept.trans caches.kept
        have line' := caches.link
        have crossings' := caches.crossings.trans crossings
        have limit' := caches.limit.trans limit
        have street' := caches.street.trans street
        have beside := caches.beside a
        rw [own] at served beside
        generalize set.recomputeNeeds a = after at *
        refine ⟨_, rfl, ⟨⟨kept'.tb, crossings', limit', kept'.patterns, kept'.libraryEnabled, kept'.clips, kept'.startUp,
            kept'.draws, kept'.pending⟩, fun c e => (away c e).trans (others c e), kept'.configured⟩,
          done_street (u := after) (v := s.street) tag (by decide) street', .inr ?_, fun h => (nomatch h),
          fun _ h differ => ?_, fun _ h _ _ => ⟨?_, beside⟩⟩
        · show s.link.SameButAgain after.link
          rw [line']
          exact line
        · obtain rfl := Option.some.inj h
          exact absurd same (by tauto)
        · rw [done_replied _ _ _ (by decide)]
          exact served
      · rw [if_neg same]
        have only : s.handling.StationsOnly (s.handling.bindElsewhere a b) := .bindElsewhere (.refl _)
        have station := s.handling.bindElsewhere_station (a := a) b
        have street : (s.handling.bindElsewhere a b).street = s.street.handled := by
          unfold State.bindElsewhere State.takeOrLeave
          dsimp only
          split <;> split <;> simp [State.handling_street]
        generalize s.handling.bindElsewhere a b = after at *
        refine ⟨_, rfl, ⟨only.besideStations, fun c e => (station c).trans (if_neg e), only.configured⟩,
          done_street (u := after) tag (by decide) street, .inl only.discard, fun h => (nomatch h), fun _ h _ => ?_,
          fun _ h x y => ?_⟩
        · refine (station a).trans ((if_pos rfl).trans ((Station.startedAt_eq ready).trans ?_))
          have started : (s.handling.station a).movedTo b = if (s.station a).partHeld then
              { (s.station a).stripped with
                failures := 0, binding := some b, ambient := 600, speaker := false, tactile := false, mic := false
                clipFault := false, barred := [] }
              else { s.station a with
                binding := some b, ambient := 600, speaker := false, tactile := false, mic := false
                clipFault := false, barred := [] } := by
            unfold Station.movedTo
            by_cases held : (s.station a).partHeld = true
            · have held' : (s.handling.station a).partHeld = true := held
              simp only [held, held', if_true]
              rfl
            · have held' : ¬ (s.handling.station a).partHeld = true := held
              simp only [held, held']
              rfl
          rw [started]
          cases (s.station a).partHeld <;> rfl
        · obtain rfl := Option.some.inj h
          exact absurd ⟨x, y⟩ same

end Sys2Proof.Machine
end

section
/-! SUPPORT. SET PATTERN (R134, R135). -/

namespace Sys2Proof.Machine

/-! ### The fields of a SET PATTERN -/

theorem pointsOf_eq (points : List PointFields) : pointsOf points =
    if ∀ q ∈ points, q.level.toNat ≤ 1 then some (points.map fun q => (q.offset.toNat, q.level == 1)) else none := by
  induction points with
  | nil => simp [pointsOf]
  | cons q points ih =>
    rw [pointsOf, ih, yesNoOf_eq]
    simp only [List.forall_mem_cons, List.map_cons]
    by_cases own : q.level.toNat ≤ 1
    · by_cases rest : ∀ q ∈ points, q.level.toNat ≤ 1
      · rw [if_pos own, if_pos rest, if_pos ⟨own, rest⟩]
      · rw [if_pos own, if_neg rest, if_neg (rest ·.2)]
    · simp [own]

theorem increasing_iff (points : List (Nat × Bool)) : increasing points = true ↔ (points.map Prod.fst).Pairwise (· < ·) := by
  rw [← List.isChain_iff_pairwise]
  induction points with
  | nil => simp [increasing]
  | cons p points ih =>
    cases points with
    | nil => simp [increasing]
    | cons q rest => simpa [increasing] using fun _ => ih

/-- R134, R135 check 1: the fields beside the number are in range. -/
def patternFits (period cadence initial : Byte) (points : List PointFields) : Prop :=
  5 ≤ period.toNat ∧ period.toNat ≤ 200 ∧ cadence.toNat ≤ 1 ∧ initial.toNat ≤ 1 ∧ points.length ≤ 8
  ∧ (∀ q ∈ points, q.level.toNat ≤ 1 ∧ q.offset.toNat < period.toNat)
  ∧ (points.map fun q => q.offset.toNat).Pairwise (· < ·)

/-- The record that the fields spell (Table 12-6). -/
def patternFrom (period cadence initial : Byte) (points : List PointFields) : Pattern :=
  ⟨period.toNat, cadence == 1, initial == 1, points.map fun q => (q.offset.toNat, q.level == 1)⟩

section
variable {period cadence initial : Byte} {points : List PointFields}

theorem patternFields_some (h : patternFits period cadence initial points) :
    patternFieldsOf period cadence initial points = some (patternFrom period cadence initial points) := by
  obtain ⟨low, high, cadence', initial', few, each, rising⟩ := h
  rw [patternFieldsOf, yesNoOf_eq, yesNoOf_eq, pointsOf_eq, if_pos cadence', if_pos initial', if_pos fun q mem => (each q mem).1]
  dsimp only
  rw [if_pos]
  · rfl
  · refine ⟨low, high, by simpa using few, ?_, ?_⟩
    · simpa using fun q mem => (each q mem).2
    · rw [increasing_iff, List.map_map]
      exact rising

theorem patternFields_none (h : ¬ patternFits period cadence initial points) :
    patternFieldsOf period cadence initial points = none := by
  rw [patternFieldsOf, yesNoOf_eq, yesNoOf_eq, pointsOf_eq]
  by_cases cadence' : cadence.toNat ≤ 1
  · by_cases initial' : initial.toNat ≤ 1
    · by_cases levels : ∀ q ∈ points, q.level.toNat ≤ 1
      · rw [if_pos cadence', if_pos initial', if_pos levels]
        dsimp only
        rw [if_neg]
        rintro ⟨low, high, few, each, rising⟩
        rw [increasing_iff, List.map_map] at rising
        exact h ⟨low, high, cadence', initial', by simpa using few, fun q mem => ⟨levels q mem, by
          simpa using List.all_eq_true.mp each _ (List.mem_map_of_mem mem)⟩, rising⟩
      · rw [if_neg levels, if_pos cadence', if_pos initial']
    · rw [if_neg initial', if_pos cadence']
  · rw [if_neg cadence']

end

/-! ### The record written (R135) -/

section
variable {s : State} {k : PatternId}

theorem State.patternOf_set (p : Option Pattern) (l : Nat) :
    ({ s with patterns := s.patterns.set k p } : State).patternOf l = if l = k.val + 1 then p else s.patternOf l := by
  unfold State.patternOf
  cases l with
  | zero => simp
  | succ i =>
    dsimp only
    by_cases e : i = k.val
    · subst e
      simp
    · rw [Vector.getElem?_set_ne k.isLt (Ne.symm e), if_neg (by omega)]

/-- R103, R135: what sending a pattern to every station under control leaves alone. -/
theorem State.setPatternRecord_beside (p : Option Pattern) :
    let base := { s with patterns := s.patterns.set k p }
    let t := s.setPatternRecord k p
    (base.Kept t ∧ t.crossings = s.crossings ∧ t.street = s.street ∧ s.link.SameButAgain t.link)
      ∧ ∀ a, t.station a = if (s.station a).controlled = true then
          { s.station a with settings := (s.station a).settings.add (.pattern k) } else s.station a := by
  intro base t
  refine ⟨forEach_keeps (fun u => base.Kept u ∧ u.crossings = s.crossings ∧ u.street = s.street ∧ s.link.SameButAgain u.link)
    _ (fun a u ⟨kept, crossings, street, link⟩ => ?_) _ base ⟨.refl _, rfl, rfl, .refl _⟩, fun a => ?_⟩
  · split
    · exact ⟨kept.addSetting, by simpa using crossings, by simpa using street, link.trans (State.addSetting_link _ _ _)⟩
    · exact ⟨kept, crossings, street, link⟩
  · refine (forEach_station _ (fun _ x => if x.controlled = true then { x with settings := x.settings.add (.pattern k) } else x)
      (fun a u => by split <;> simp) (fun a b u e => by split <;> simp [e]) _ _ a nodup_allStations).trans ?_
    rw [if_pos (mem_allStations a)]
    rfl

/-- R135 check 2. -/
theorem State.patternNamed_iff (s : State) (k : Nat) : s.patternNamed k = true ↔
    ∃ n, ((s.crossing n).unusable = true ∧ (s.crossing n).active ≠ none)
      ∨ ∃ r, ((s.crossing n).active = some r ∨ (s.crossing n).planned = some r) ∧ r.plan.names k = true := by
  have one (c : Crossing) : ((c.active.isSome && c.unusable) || c.active.any (fun r => r.plan.names k)
      || c.planned.any (fun r => r.plan.names k)) = true ↔
      (c.unusable = true ∧ c.active ≠ none) ∨ ∃ r, (c.active = some r ∨ c.planned = some r) ∧ r.plan.names k = true := by
    cases ha : c.active <;> cases hp : c.planned <;> simp [or_and_right, exists_or, or_assoc]
  rw [State.patternNamed, List.any_eq_true]
  constructor
  · rintro ⟨c, mem, named⟩
    obtain ⟨n, rfl⟩ := State.mem_crossings mem
    exact ⟨n, (one _).mp named⟩
  · rintro ⟨n, named⟩
    exact ⟨s.crossing n, by simp [State.crossing], (one _).mpr named⟩

/-- R27: reading sound records changes nothing. -/
theorem State.readAllPlans_sound (sound : s.PlansSound) : s.readAllPlans = s := by
  refine (forCrossings_ascending _ _ s 0 fun m _ => Crossing.flawed_of_sound (sound m)).trans ?_
  refine forEach_keeps (· = s) _ (fun n u same => ?_) _ s rfl
  subst same
  obtain ⟨active, planned⟩ := check_sound n u (sound n)
  rw [active, planned]

end

/-- Settles O43. -/
theorem setPatternWritesTheRecord : Obligations.SetPatternWritesTheRecord := by
  intro s tag pattern period cadence initial points takes
  have run : exec (.setPattern tag pattern period cadence initial points) s =
      .next ((handleSetPattern pattern period cadence initial points s.handling).replied 0x0D tag) :=
    congrArg Host.Outcome.next (s.takeRequest_takes _ _ _ takes)
  intro command fits
  have fits' : fits ↔ (1 ≤ pattern.toNat ∧ pattern.toNat ≤ 16) ∧ patternFits period cadence initial points := by
    simp only [fits, patternFits]
    tauto
  change (¬ fits → exec (.setPattern tag pattern period cadence initial points) s = _) ∧ _
  refine ⟨fun out => ?_, fun k ok number => ?_⟩
  · have refused : handleSetPattern pattern period cadence initial points s.handling = refuse s.handling .badField := by
      unfold handleSetPattern
      by_cases number : 1 ≤ pattern.toNat ∧ pattern.toNat ≤ 16
      · rw [patternFields_none fun h => out (fits'.mpr ⟨number, h⟩)]
        split
        · next none' => cases none'
        · rfl
      · rw [patternNumberOf, numberOf_eq_none number]
    rw [run, refused]
    exact congrArg _ (s.handling_refused _ _ _ (by decide))
  · have fields := patternFields_some (fits'.mp ok).2
    have number' : patternNumberOf pattern = some k := numberOf_eq_some k number
    have written (record : Option Pattern)
        (handled : handleSetPattern pattern period cadence initial points s.handling = done (s.handling.setPatternRecord k record)) :
        ∃ t, exec command s = .next t
          ∧ t.patternOf (k.val + 1) = record ∧ (∀ l, l ≠ k.val + 1 → t.patternOf l = s.patternOf l)
          ∧ (∀ a, t.station a = if (s.station a).controlled = true then
              { s.station a with settings := (s.station a).settings.add (.pattern k) } else s.station a)
          ∧ t.tb = s.tb ∧ t.crossings = s.crossings ∧ t.configured = s.configured ∧ t.clips = s.clips
          ∧ s.link.SameButAgain t.link ∧ t.startUp = s.startUp ∧ t.pending = s.pending
          ∧ t.street = s.street.answered .reply (replyFrame 0x0D tag .ok []) := by
      obtain ⟨⟨kept, crossings, street, link⟩, station⟩ := s.handling.setPatternRecord_beside (k := k) record
      rw [show exec command s = _ from run, handled]
      generalize s.handling.setPatternRecord k record = after at *
      have patternOf (l : Nat) : after.patternOf l = if l = k.val + 1 then record else s.patternOf l := by
        have same : after.patternOf l = ({ s with patterns := s.patterns.set k record } : State).patternOf l := by
          unfold State.patternOf
          rw [kept.patterns]
          rfl
        rw [same, State.patternOf_set]
      exact ⟨_, rfl, (patternOf _).trans (if_pos rfl), fun l e => (patternOf l).trans (if_neg e), station, kept.tb, crossings,
        kept.configured, kept.clips, link, kept.startUp, kept.pending, done_street (u := after) (v := s.street) tag (by decide) street⟩
    refine ⟨fun some' => written _ ?_, fun none' sound => ⟨fun named => ?_, fun free => written none ?_⟩⟩
    · rw [handleSetPattern, number', fields]
      dsimp only
      rw [if_neg (by simpa using some')]
      rfl
    all_goals
      have read : s.handling.readAllPlans = s.handling := State.readAllPlans_sound (s := s.handling) sound
      have isNamed := s.handling.patternNamed_iff (k.val + 1)
    · have refused : handleSetPattern pattern period cadence initial points s.handling = refuse s.handling .badState := by
        rw [handleSetPattern, number', fields]
        dsimp only
        rw [if_pos (by simpa using none'), read, if_pos (isNamed.mpr named)]
      rw [show exec command s = _ from run, refused]
      exact congrArg _ (s.handling_refused _ _ _ (by decide))
    · rw [handleSetPattern, number', fields]
      dsimp only
      rw [if_pos (by simpa using none'), read, if_neg (mt isNamed.mp free)]

end Sys2Proof.Machine
end

section
/-! SUPPORT. The clip requests (R149 to R153): a clip that leaves VALID, a clip that becomes VALID. -/

namespace Sys2Proof.Machine

section
variable {s t u : State} {a : StationId} {k : ClipId}

theorem State.setClip_handling (s : State) (k : ClipId) (c : Clip) (kind tag : Byte) (status : Status) (h : kind ≠ kindRestart) :
    ({ state := s.handling.setClip k c, status := status } : Answer).replied kind tag = (s.setClip k c).answered kind tag status [] :=
  Answer.replied_eq _ _ _ h

theorem clipOf_none {b : Byte} (h : b = 0 ∨ 64 < b.toNat) : clipOf b = none := numberOf_eq_none <| by
  rintro ⟨low, high⟩
  obtain rfl | above := h
  · exact absurd low (by decide)
  · omega

/-! ### A clip leaves VALID (R153) -/

@[simp] theorem State.clipLeavesAt_street : (s.clipLeavesAt k a).street = s.street := by
  unfold State.clipLeavesAt State.abandonJob
  dsimp only
  split
  · split <;> simp
  · simp

/-- R153, R155: what a clip that left VALID changes: the stations' caches, and marks on the line. -/
theorem State.clipLeftValid_effect (u : State) (k : ClipId) (sound : u.PlansSound) :
    (u.Kept (u.clipLeftValid k) ∧ (u.clipLeftValid k).crossings = u.crossings ∧ (u.clipLeftValid k).street = u.street
        ∧ u.link.SameButDiscard (u.clipLeftValid k).link)
      ∧ u.ClipLeft k (u.clipLeftValid k) := by
  have loop : u.clipLeftValid k = (forEach allStations (fun a s => s.clipLeavesAt k a) u).recomputeEvery := rfl
  have only : u.StationsOnly (forEach allStations (fun a s => s.clipLeavesAt k a) u) := .forEach (.refl u) fun _ _ h => h.clipLeavesAt
  have street : (forEach allStations (fun a s => s.clipLeavesAt k a) u).street = u.street :=
    forEach_keeps (fun v => v.street = u.street) _ (fun a v h => by rw [State.clipLeavesAt_street, h]) _ _ rfl
  have station := u.clipLeftEverywhere_station k
  rw [loop]
  generalize forEach allStations (fun a s => s.clipLeavesAt k a) u = left at *
  have sound' : left.PlansSound := fun n => by rw [only.crossing]; exact sound n
  obtain ⟨caches, own⟩ := left.recomputeEvery_sound sound'
  refine ⟨⟨only.toKept.trans caches.kept, caches.crossings.trans only.crossings, caches.street.trans street,
    caches.link ▸ only.discard⟩, fun a => ⟨?_, ?_⟩⟩
  · obtain ⟨m, j, same, -⟩ := (u.station a).unclipped_same k
    have beside := caches.beside a
    rw [station a, same] at beside
    have whole := congrArg (fun x : Station => { x with mirror := (u.station a).mirror, job := (u.station a).job }) beside
    exact whole
  · rw [← station a, State.ServedIfOwned]
    split
    · next owned => exact caches.served ((own a).trans (if_pos owned))
    · next free => rw [own a, if_neg free]; exact ⟨rfl, rfl⟩

/-- The reply to the request adds nothing to what the clip's leaving changed. -/
theorem State.ClipLeft.replied (h : s.ClipLeft k t) (kind tag : Byte) (r : kind ≠ kindRestart) :
    s.ClipLeft k ((done t).replied kind tag) := by
  rw [done_replied t kind tag r]
  exact h

/-- R153: a VALID clip takes another record, with the reply. -/
theorem State.clipLeft_answered (s : State) (k : ClipId) (c : Clip) (kind tag : Byte) (r : kind ≠ kindRestart) (sound : s.PlansSound) :
    let t := (done ((s.handling.setClip k c).clipLeftValid k)).replied kind tag
    t.clips = (s.setClip k c).clips ∧ s.ClipLeft k t ∧ t.tb = s.tb ∧ t.crossings = s.crossings
      ∧ t.configured = s.configured ∧ s.link.SameButDiscard t.link ∧ t.patterns = s.patterns
      ∧ t.street = s.street.answered .reply (replyFrame kind tag .ok []) := by
  obtain ⟨⟨kept, crossings, street, link⟩, left⟩ := (s.handling.setClip k c).clipLeftValid_effect k sound
  generalize (s.handling.setClip k c).clipLeftValid k = after at *
  exact ⟨kept.clips, State.ClipLeft.replied left kind tag r, kept.tb, crossings, kept.configured, link, kept.patterns,
    done_street (u := after) (v := s.street) tag r street⟩

/-! ### A clip becomes VALID (R153) -/

/-- R153: a clip is the only member of a station's barred set. -/
def Station.freedBy (t : Station) (k : ClipId) : Bool := t.barred.contains k && (t.barred.filter (· ≠ k)).isEmpty

/-- R153: a station that a clip that became VALID frees. -/
def Station.unbarred (t : Station) (k : ClipId) : Station :=
  { t with barred := t.barred.filter (· ≠ k), clipFault := if t.freedBy k then false else t.clipFault }

theorem Station.unbarred_absent {x : Station} (h : ¬ x.barred.contains k = true) : x.unbarred k = x := by
  have stays : x.barred.filter (fun l => decide (l ≠ k)) = x.barred :=
    List.filter_eq_self.mpr fun l mem => decide_eq_true fun e => h (by simpa [e] using mem)
  have free : x.freedBy k = false := by rw [Station.freedBy, Bool.eq_false_iff.mpr h]; rfl
  rw [Station.unbarred, stays, free]
  rfl

theorem State.unbar_station (b : StationId) : (s.unbar k a).station b = if b = a then (s.station a).unbarred k else s.station b := by
  unfold State.unbar
  dsimp only
  by_cases e : b = a
  · subst e
    rw [if_pos rfl]
    by_cases barred : (s.station b).barred.contains k = true
    · rw [if_pos barred]
      by_cases empty : ((s.station b).barred.filter (· ≠ k)).isEmpty = true
      · have freed : (s.station b).freedBy k = true := by rw [Station.freedBy, barred, empty]; rfl
        rw [if_pos empty]
        simp [Station.unbarred, freed]
      · have held : (s.station b).freedBy k = false := by rw [Station.freedBy, barred, Bool.eq_false_iff.mpr empty]; rfl
        rw [if_neg empty]
        simp [Station.unbarred, held]
    · rw [if_neg barred, Station.unbarred_absent barred]
  · rw [if_neg e]
    split
    · split <;> simp [e]
    · rfl

theorem State.unbar_street : (s.unbar k a).street =
    if (s.station a).freedBy k = true then s.street.queued (((s.station a).unbarred k).notice a) else s.street := by
  unfold State.unbar
  dsimp only
  by_cases barred : (s.station a).barred.contains k = true
  · rw [if_pos barred]
    by_cases empty : ((s.station a).barred.filter (· ≠ k)).isEmpty = true
    · have freed : (s.station a).freedBy k = true := by rw [Station.freedBy, barred, empty]; rfl
      rw [if_pos empty, if_pos freed, State.notifyStation_street]
      simp [Station.notice, Station.unbarred, freed]
    · rw [if_neg empty, if_neg (by rw [Station.freedBy, Bool.eq_false_iff.mpr empty]; simp), State.modStation_street]
  · rw [if_neg barred, if_neg (by rw [Station.freedBy, Bool.eq_false_iff.mpr barred]; simp)]

theorem State.unbar_beside {a : StationId} : (u.Kept t ∧ t.crossings = u.crossings ∧ t.link = u.link) →
    u.Kept (t.unbar k a) ∧ (t.unbar k a).crossings = u.crossings ∧ (t.unbar k a).link = u.link := by
  rintro ⟨kept, crossings, link⟩
  unfold State.unbar
  dsimp only
  split
  · split
    · exact ⟨kept.modStation.modStation.notifyStation, crossings, link⟩
    · exact ⟨kept.modStation, crossings, link⟩
  · exact ⟨kept, crossings, link⟩

/-- R153, R155: what a clip that became VALID changes. -/
theorem State.clipBecameValid_effect (u : State) (k : ClipId) (sound : u.PlansSound) :
    (u.Kept (u.clipBecameValid k) ∧ (u.clipBecameValid k).crossings = u.crossings ∧ (u.clipBecameValid k).link = u.link)
      ∧ (u.clipBecameValid k).street = ((allStations.filter fun a => (u.station a).freedBy k).map fun a =>
          ((u.station a).unbarred k).notice a).foldl Street.queued u.street
      ∧ ∀ a, { (u.clipBecameValid k).station a with mirror := (u.station a).mirror, job := (u.station a).job } =
          (u.station a).unbarred k ∧ (u.clipBecameValid k).ServedIfOwned a (u.station a) := by
  have loop : u.clipBecameValid k = (forEach allStations (fun a s => s.unbar k a) u).recomputeEvery := rfl
  obtain ⟨kept, crossings, link⟩ := forEach_keeps (fun v => u.Kept v ∧ v.crossings = u.crossings ∧ v.link = u.link) _ (fun _ _ => State.unbar_beside)
    allStations u ⟨.refl u, rfl, rfl⟩
  have street := forEach_street_of (P := fun _ => True) (p := fun t => t.freedBy k)
    (n := fun a t => (t.unbarred k).notice a) (fun _ _ _ => trivial) (fun a v => v.unbar_street)
    (fun a b v e => (State.unbar_station b).trans (if_neg e)) allStations u nodup_allStations trivial
  have station (a : StationId) : (forEach allStations (fun a s => s.unbar k a) u).station a = (u.station a).unbarred k := by
    refine (forEach_station _ (fun _ t => t.unbarred k) (fun a v => (State.unbar_station a).trans (if_pos rfl))
      (fun a b v e => (State.unbar_station b).trans (if_neg e)) _ _ a nodup_allStations).trans ?_
    exact if_pos (mem_allStations a)
  rw [loop]
  generalize forEach allStations (fun a s => s.unbar k a) u = freed at *
  have sound' : freed.PlansSound := fun n => by
    rw [show freed.crossing n = u.crossing n from congrArg (fun v : Vector Crossing 8 => v[n]) crossings]
    exact sound n
  obtain ⟨caches, own⟩ := freed.recomputeEvery_sound sound'
  refine ⟨⟨kept.trans caches.kept, caches.crossings.trans crossings, caches.link.trans link⟩, caches.street.trans street,
    fun a => ⟨?_, ?_⟩⟩
  · have beside := caches.beside a
    rw [station a] at beside
    exact beside
  · have served : freed.recomputeEvery.ServedIfOwned a (freed.station a) := by
      rw [State.ServedIfOwned]
      split
      · next owned => exact caches.served ((own a).trans (if_pos owned))
      · next free => rw [own a, if_neg free]; exact ⟨rfl, rfl⟩
    rw [station a] at served
    exact served

theorem Station.freedBy_iff (x : Station) (k : ClipId) : x.freedBy k = true ↔ k ∈ x.barred ∧ ∀ l ∈ x.barred, l = k := by
  simp [Station.freedBy]

theorem Clip.verifies_iff (c : Clip) : c.verifies = true ↔ c.data[0]? = some 0x5A ∧ c.data[1]? = some 0xC3 ∧ crc16 c.data = c.check := by
  simp [Clip.verifies, and_assoc]

end

/-- Settles O44. -/
theorem clipOpenAndData : Obligations.ClipOpenAndData := by
  refine ⟨fun s tag clip length check takes => ?_, fun s tag clip offset data takes some' few => ?_⟩
  · have run : exec (.clipOpen tag clip length check) s = .next ((handleClipOpen clip length check s.handling).replied 0x0E tag) :=
      congrArg Host.Outcome.next (s.takeRequest_takes _ _ _ takes)
    have refused (status : Status) (h : handleClipOpen clip length check s.handling = refuse s.handling status) :
        exec (.clipOpen tag clip length check) s = .next (s.answered 0x0E tag status []) := by
      rw [run, h]
      exact congrArg _ (s.handling_refused _ _ _ (by decide))
    refine ⟨fun off => refused _ (if_pos off), fun on out => refused _ ?_, fun k on number long => ?_⟩
    · rw [handleClipOpen, if_neg (by rw [show s.handling.libraryEnabled = _ from on]; decide)]
      by_cases named : clip = 0 ∨ 64 < clip.toNat
      · rw [clipOf_none named]
      · cases clipOf clip with
        | none => rfl
        | some k => exact if_pos (by tauto)
    · have handled : handleClipOpen clip length check s.handling =
          let blocks := ceilDiv length.toNat 128
          if 4096 - s.blocksHeld + (if (s.clip k).state = .empty then 0 else (s.clip k).blocks) < blocks
          then refuse s.handling .noSpace
          else
            let loading := s.handling.setClip k ⟨.loading, length.toNat, blocks, check, 0, []⟩
            done (if (s.clip k).state = .valid then loading.clipLeftValid k else loading) := by
        rw [handleClipOpen, if_neg (by rw [show s.handling.libraryEnabled = _ from on]; decide),
          show clipOf clip = some k from numberOf_eq_some k number]
        exact if_neg (by omega)
      have blocks : ceilDiv length.toNat 128 = (length.toNat + 127) / 128 := rfl
      rw [blocks] at handled
      refine ⟨fun few => refused _ (handled.trans (if_pos few)), fun enough sound => ?_⟩
      have loaded := handled.trans (if_neg (Nat.not_lt.mpr enough))
      refine ⟨fun other => ?_, fun valid => ?_⟩
      · rw [run, loaded]
        dsimp only
        rw [if_neg other]
        exact congrArg _ (s.setClip_handling _ _ _ _ _ (by decide))
      · rw [run, loaded]
        dsimp only
        rw [if_pos valid]
        exact ⟨_, rfl, s.clipLeft_answered k _ _ tag (by decide) sound⟩
  · have fits : (decide (1 ≤ data.length) && decide (data.length ≤ 240)) = true := by simp [some', few]
    have run : exec (.clipData tag clip offset data) s = .next ((handleClipData clip offset data s.handling).replied 0x0F tag) := by
      change Host.Outcome.next (s.takeRequest 0x0F tag (decide (1 ≤ data.length) && decide (data.length ≤ 240)) _) = _
      rw [fits, s.takeRequest_takes _ _ _ takes]
    have refused (status : Status) (h : handleClipData clip offset data s.handling = refuse s.handling status) :
        exec (.clipData tag clip offset data) s = .next (s.answered 0x0F tag status []) := by
      rw [run, h]
      exact congrArg _ (s.handling_refused _ _ _ (by decide))
    refine ⟨fun out => refused _ ?_, fun k number => ?_⟩
    · rw [handleClipData, clipOf_none out]
    · have named : clipOf clip = some k := numberOf_eq_some k number
      refine ⟨fun bad => refused _ ?_, fun loading next => ?_⟩
      · rw [handleClipData, named]
        exact if_pos bad
      · have own : ¬ ((s.clip k).state ≠ .loading ∨ offset.toNat ≠ (s.clip k).received) := by tauto
        by_cases long : (s.clip k).length < offset.toNat + data.length
        · rw [if_pos long]
          refine refused _ ?_
          rw [handleClipData, named]
          exact (if_neg own).trans (if_pos long)
        · rw [if_neg long, run, handleClipData, named]
          refine (congrArg (fun r : Answer => Host.Outcome.next (r.replied 0x0F tag)) ((if_neg own).trans (if_neg long))).trans ?_
          exact congrArg _ (s.setClip_handling _ _ _ _ _ (by decide))

/-- Settles O45. -/
theorem clipCloseAndErase : Obligations.ClipCloseAndErase := by
  have close (s : State) (tag clip : Byte) (takes : s.Takes) :
      exec (.clipClose tag clip) s = .next ((handleClipClose clip s.handling).replied 0x10 tag) :=
    congrArg Host.Outcome.next (s.takeRequest_takes _ _ _ takes)
  have erase (s : State) (tag clip : Byte) (takes : s.Takes) :
      exec (.clipErase tag clip) s = .next ((handleClipErase clip s.handling).replied 0x11 tag) :=
    congrArg Host.Outcome.next (s.takeRequest_takes _ _ _ takes)
  refine ⟨fun s tag clip takes out => ?_, fun s k tag clip takes number => ?_⟩
  · rw [close s tag clip takes, erase s tag clip takes, handleClipClose, handleClipErase, clipOf_none out]
    exact ⟨congrArg _ (s.handling_refused _ _ _ (by decide)), congrArg _ (s.handling_refused _ _ _ (by decide))⟩
  rw [close s tag clip takes, erase s tag clip takes, handleClipClose, handleClipErase,
    show clipOf clip = some k from numberOf_eq_some k number]
  intro c whole freed
  have verifies : c.verifies = true ↔ whole := c.verifies_iff
  have closed {x : Answer} (h : (if c.state ≠ .loading ∨ c.received < c.length then refuse s.handling .badState
      else if c.verifies then done ((s.handling.setClip k { c with state := .valid }).clipBecameValid k)
      else { state := s.handling.setClip k {}, status := .checkFailed }) = x) :
      (match some k with
        | none => refuse s.handling .badField
        | some k =>
          let c := s.handling.clip k
          if c.state ≠ .loading ∨ c.received < c.length then refuse s.handling .badState
          else if c.verifies then done ((s.handling.setClip k { c with state := .valid }).clipBecameValid k)
          else { state := s.handling.setClip k {}, status := .checkFailed }) = x := h
  refine ⟨fun bad => ?_, fun loading all other => ?_, fun loading all good sound => ?_, fun empty => ?_, fun loading => ?_,
    fun valid sound => ?_⟩
  · refine (congrArg (fun r : Answer => Host.Outcome.next (r.replied 0x10 tag)) (closed (if_pos bad))).trans ?_
    exact congrArg _ (s.handling_refused _ _ _ (by decide))
  · have own : ¬ (c.state ≠ .loading ∨ c.received < c.length) := by simp [loading, all]
    refine (congrArg (fun r : Answer => Host.Outcome.next (r.replied 0x10 tag))
      (closed ((if_neg own).trans (if_neg (mt verifies.mp other))))).trans ?_
    exact congrArg _ (s.setClip_handling _ _ _ _ _ (by decide))
  · have own : ¬ (c.state ≠ .loading ∨ c.received < c.length) := by simp [loading, all]
    obtain ⟨⟨kept, crossings, link⟩, street, station⟩ := (s.handling.setClip k { c with state := .valid }).clipBecameValid_effect k sound
    have run := congrArg (fun r : Answer => Host.Outcome.next (φ := Fault) (ρ := Refusal) (r.replied 0x10 tag))
      (closed ((if_neg own).trans (if_pos (verifies.mpr good))))
    generalize (s.handling.setClip k { c with state := .valid }).clipBecameValid k = after at *
    have isFreed (a : StationId) : (s.station a).freedBy k = true ↔ freed a := (s.station a).freedBy_iff k
    refine ⟨_, run, kept.clips, kept.tb, crossings, kept.configured, link, fun a => ?_, fun a => ?_, ?_⟩
    · refine (station a).1.trans ?_
      have flag : (if (s.station a).freedBy k = true then false else (s.station a).clipFault) =
          if freed a then false else (s.station a).clipFault := if_congr (isFreed a) rfl rfl
      rw [← flag]
      rfl
    · rw [done_replied _ _ _ (by decide)]
      exact (station a).2
    · have notices : ((allStations.filter fun a => (s.station a).freedBy k).map fun a => ((s.station a).unbarred k).notice a) =
          (allStations.filter fun a => freed a).map fun a => { s.station a with clipFault := false }.notice a := by
        rw [List.filter_congr fun a _ => show (s.station a).freedBy k = decide (freed a) by
          rw [Bool.eq_iff_iff, isFreed, decide_eq_true_iff]]
        refine List.map_congr_left fun a mem => ?_
        have own : (s.station a).freedBy k = true := (isFreed a).mpr (of_decide_eq_true (List.mem_filter.mp mem).2)
        simp [Station.notice, Station.unbarred, own]
      refine done_street (u := after) tag (by decide) (street.trans ?_)
      change List.foldl Street.queued s.street.handled _ = _
      rw [Street.foldl_queued_handled]
      exact congrArg (fun l : List Notice => (l.foldl Street.queued s.street).handled) notices
  · have held : (s.handling.clip k).state = .empty := empty
    dsimp only
    rw [held]
    exact congrArg _ (s.handling_done _ _ (by decide))
  · have held : (s.handling.clip k).state = .loading := loading
    dsimp only
    rw [held]
    exact congrArg _ (s.setClip_handling _ _ _ _ _ (by decide))
  · have held : (s.handling.clip k).state = .valid := valid
    dsimp only
    rw [held]
    exact ⟨_, rfl, s.clipLeft_answered k _ _ tag (by decide) sound⟩

end Sys2Proof.Machine
end

section
/-! SUPPORT. The content of a PLAY (R136, R137), the reports of the queries (R165), and a SYNC refused (R4). -/

namespace Sys2Proof.Machine

/-! ### PLAYs -/

theorem urgentAdd_tail {l : List Urgent} {u : Urgent} (h : ¬ (l.any fun v => v.isPlay == u.isPlay) = true) :
    urgentAdd l u = l ++ [u] := if_neg h

theorem urgentAdd_replace {l : List Urgent} {u : Urgent} (h : (l.any fun v => v.isPlay == u.isPlay) = true) :
    urgentAdd l u = l.map fun v => if v.isPlay == u.isPlay then u else v := if_pos h

/-- R103: an entry keeps its place or joins the tail. -/
theorem urgentAdd_kinds (l : List Urgent) (p : Play) (i : Nat) :
    ((urgentAdd l (.play p))[i]?.map Urgent.isPlay) = (l[i]?.map Urgent.isPlay) ∨ (i = l.length ∧ l.any Urgent.isPlay = false) := by
  have any : (l.any fun v => v.isPlay == (Urgent.play p).isPlay) = l.any Urgent.isPlay := by
    congr 1
    funext v
    exact beq_true _
  by_cases held : l.any Urgent.isPlay = true
  · left
    rw [urgentAdd_replace (any.trans held), List.getElem?_map, Option.map_map]
    congr 1
    funext v
    cases v <;> rfl
  · rw [urgentAdd_tail (any ▸ held)]
    by_cases e : i = l.length
    · exact .inr ⟨e, Bool.eq_false_iff.mpr held⟩
    · left
      by_cases inside : i < l.length
      · rw [List.getElem?_append_left inside]
      · rw [List.getElem?_eq_none (by simp; omega), List.getElem?_eq_none (by omega)]

/-- Settles O46. -/
theorem playFollowsTheInterval : Obligations.PlayFollowsTheInterval := by
  refine ⟨?_, fun l p law => ⟨law.add _, ?_, ?_, fun free => ?_, urgentAdd_kinds l p⟩⟩
  · intro s a b v c level clip bound
    have target : s.targetLevel a = level := s.targetLevel_eq a bound
    have now (st : IntervalState) (other : st ≠ .starting) : s.launchFor b.crossing st = s.link.frame := by
      unfold State.launchFor
      cases st <;> first | rfl | contradiction
    refine ⟨?_, fun st waits => ?_, fun w walk => ?_, ?_, ?_, ?_⟩
    · simp only [State.playFor, now .dark (by decide), target]
    · obtain rfl | rfl | rfl := waits
      · simp only [State.playFor, now .rest (by decide), target, v, c]
      · simp only [State.playFor, now .hold (by decide), target, v, c]
      · simp only [State.playFor, now .fault (by decide), target, v, c]
    · have lead : s.launchFor b.crossing .starting = s.link.frame + BitVec.ofNat 8 w.count := by
        have walk' : (s.crossing b.crossing).walk = some w := walk
        simp only [State.launchFor, walk']
        rfl
      simp only [State.playFor, lead, target, v, clip]
    · simp only [State.playFor, now .walk (by decide), target, v]
    · have sound : (s.planValues b.crossing).clearance = match c.usablePlan with
          | some p => if p.clearancePattern = 0 then p.locator else p.clearancePattern
          | none => if s.patternOf 4 = none then 0 else 4 := by
        unfold State.planValues
        change (match c.usablePlan with | some p => _ | none => _ : PlanValues).clearance = _
        cases c.usablePlan with
        | some p => rfl
        | none =>
          change s.fallbackPattern 4 = _
          unfold State.fallbackPattern
          cases s.patternOf 4 <;> rfl
      simp only [State.playFor, now .clearance (by decide), target, sound] <;> rfl
    · simp only [State.playFor, now .buffer (by decide), target, v]
  · have same := urgentAdd_filter_same l (.play p) law
    refine Eq.trans (List.filter_congr fun u _ => ?_) same
    exact (beq_true _).symm
  · have other := urgentAdd_filter_other l (.play p) (b := false) Bool.true_eq_false.mp
    simpa using other
  · refine urgentAdd_tail ?_
    rw [show (l.any fun v => v.isPlay == (Urgent.play p).isPlay) = l.any Urgent.isPlay from by
      congr 1; funext v; exact beq_true _, free]
    decide

/-! ### Reports (R165, Tables 12-19 and 12-20) -/

theorem crossingOf_none {b : Byte} (h : b = 0 ∨ 8 < b.toNat) : crossingOf b = none := numberOf_eq_none <| by
  rintro ⟨low, high⟩
  obtain rfl | above := h
  · exact absurd low (by decide)
  · omega

theorem byte_of_toNat {x : Byte} {n : Nat} (h : x.toNat = n) : byte n = x := by
  rw [byte, ← h, BitVec.ofNat_toNat, BitVec.setWidth_eq]

theorem callBytes_length (c : Option Call) : (callBytes c).length = 5 := by
  cases c <;> simp [callBytes, half]

theorem channelBytes_length (c : Channel) : (channelBytes c).length = 13 := by simp [channelBytes, half]

theorem walkBytes_length (w : Option Walk) : (walkBytes w).length = 14 := by
  cases w <;> simp [walkBytes, half]

theorem bindingBytes_length (b : Option Binding) : (bindingBytes b).length = 15 := by
  cases b <;> simp [bindingBytes, half]

theorem mirrorBytes_length (m : Mirror) : (mirrorBytes m).length = 12 := by simp [mirrorBytes, allSlots]

theorem jobBytes_length (j : Option Job) : (jobBytes j).length = 9 := by
  cases j <;> simp [jobBytes, half]

theorem heldBytes_length (p : Option Play) : (heldBytes p).length = 7 := by
  cases p <;> simp [heldBytes, half]

/-- Table 12-19: the report of a crossing, the eight items of its head apart. -/
theorem State.crossingReport_eq (s : State) (n : CrossingId) : ∃ head body : List Byte, body.length = 24 ∧ head =
      [crossingCode n, (s.crossing n).mode.code, (s.crossing n).state.code, (s.crossing n).causes.code,
        bits [(s.crossing n).served, (s.crossing n).inWindow, s.outOfPlan n, (s.crossing n).unusable, s.hasDemand n,
          s.demandAccessible n, (s.crossing n).walk.isSome],
        planIdOf (s.crossing n).active, planIdOf (s.crossing n).planned, byte (consumedCount (s.crossing n).walk)]
    ∧ s.crossingReport n = (head ++ body) ++ countdownCode (s.crossing n).countdown
        :: (channelBytes (s.crossing n).walkLamp ++ channelBytes (s.crossing n).dontLamp) := by
  refine ⟨_, callBytes (s.crossing n).placeA ++ callBytes (s.crossing n).placeB ++ walkBytes (s.crossing n).walk, ?_, rfl, ?_⟩
  · simp [callBytes_length, walkBytes_length]
  · simp [State.crossingReport]

/-- Settles O47. -/
theorem queriesReportTheState : Obligations.QueriesReportTheState := by
  intro s tag x takes
  have crossing : exec (.queryCrossing tag x) s = .next ((handleQueryCrossing x s.handling).replied 0x12 tag) :=
    congrArg Host.Outcome.next (s.takeRequest_takes _ _ _ takes)
  have station : exec (.queryStation tag x) s = .next ((handleQueryStation x s.handling).replied 0x13 tag) :=
    congrArg Host.Outcome.next (s.takeRequest_takes _ _ _ takes)
  have clip : exec (.queryClip tag x) s = .next ((handleQueryClip x s.handling).replied 0x14 tag) :=
    congrArg Host.Outcome.next (s.takeRequest_takes _ _ _ takes)
  refine ⟨fun n number sound => ?_, fun out => ?_, fun a number => ?_, fun out => ?_, fun k number => ?_, fun out => ?_,
    fun o u started => ⟨?_, ?_⟩⟩
  · obtain ⟨active, planned⟩ := check_sound n s.handling sound
    have code : crossingCode n = x := byte_of_toNat number
    have handled : handleQueryCrossing x s.handling = { state := s.handling, status := .ok, fields := s.crossingReport n } := by
      rw [handleQueryCrossing, show crossingOf x = some n from numberOf_eq_some n number]
      dsimp only
      rw [active, planned]
      rfl
    obtain ⟨head, body, length, rfl, whole⟩ := s.crossingReport_eq n
    dsimp only
    rw [crossing, handled, whole]
    refine ⟨congrArg _ (Answer.replied_eq _ _ _ (by decide)), ?_, by rw [code]; rfl, rfl, rfl, rfl, fun p held => ?_, fun p held => ?_,
      fun none' => ?_, fun none' => ?_, ?_, ?_⟩
    · simp [length, channelBytes_length]
    · change some (planIdOf (s.crossing n).active) = _
      rw [held]
      rfl
    · change some (planIdOf (s.crossing n).planned) = _
      rw [held]
      rfl
    · change some (planIdOf (s.crossing n).active) = _
      rw [none']
      rfl
    · change some (planIdOf (s.crossing n).planned) = _
      rw [none']
      rfl
    · rw [List.getElem?_append_right (by simp [length])]
      simp [length]
    · rw [List.drop_append, List.drop_eq_nil_of_le (by simp [length])]
      simp [length]
  · rw [crossing, handleQueryCrossing, crossingOf_none out]
    exact congrArg _ (s.handling_refused _ _ _ (by decide))
  · have code : stationCode a = x := byte_of_toNat number
    have named : addressOf x = some a := numberOf_eq_some a number
    rw [station, handleQueryStation, named]
    refine ⟨congrArg _ (Answer.replied_eq _ _ _ (by decide)), ?_, ?_, ?_, ?_, ?_, ?_⟩
    · simp [State.stationReport, bindingBytes_length, mirrorBytes_length, jobBytes_length, heldBytes_length, half]
    · rw [← code]
      rfl
    · simp [State.stationReport, bindingBytes_length]
    · simp [State.stationReport, List.getElem?_append, bindingBytes_length]
    · simp [State.stationReport, List.getElem?_append, bindingBytes_length, half]
    · have before (l : List Byte) (n : Nat) (h : l.length ≤ n) : l.drop n = [] := List.drop_eq_nil_of_le h
      simp [State.stationReport, List.drop_append, bindingBytes_length, mirrorBytes_length, jobBytes_length, half, before]
  · rw [station, handleQueryStation, addressOf_eq_none out]
    exact congrArg _ (s.handling_refused _ _ _ (by decide))
  · rw [clip, handleQueryClip, show clipOf x = some k from numberOf_eq_some k number]
    exact congrArg _ (Answer.replied_eq _ _ _ (by decide))
  · rw [clip, handleQueryClip, clipOf_none out]
    exact congrArg _ (s.handling_refused _ _ _ (by decide))
  · subst started
    have free : s.street.busy = false := takes.1
    have handled : ({ s with startUp := { s.startUp with operating := o } } : State).takeRequest kindQueryStartUp tag true handleQueryStartUp =
        (handleQueryStartUp ({ s with startUp := { s.startUp with operating := o } } : State).handling).replied kindQueryStartUp tag := by
      simp [State.takeRequest, State.received, State.modStreet, free, State.handles, State.handling]
    exact congrArg Host.Outcome.next (handled.trans (Answer.replied_eq _ _ _ (by decide)))
  · subst started
    have free : s.street.busy = false := takes.1
    have handled : ({ s with startUp := { s.startUp with operating := o } } : State).takeRequest kindRestart tag true handleRestart =
        (handleRestart ({ s with startUp := { s.startUp with operating := o } } : State).handling).replied kindRestart tag := by
      simp [State.takeRequest, State.received, State.modStreet, free, State.handles, State.handling]
    exact congrArg Host.Outcome.next (handled.trans rfl)

/-! ### SYNC refused (R4) -/

theorem dayNightOf_none {b : Byte} (h : b ≠ 0 ∧ b ≠ 1) : dayNightOf b = none := by
  rw [dayNightOf, if_neg h.1, if_neg h.2]

theorem exec_sync {s : State} (takes : s.Takes) (tag : Byte) (cycle position : Half) (mask dn : Byte) :
    exec (.sync tag cycle position mask dn) s = .next ((handleSync cycle position mask dn s.handling).replied 0x01 tag) :=
  congrArg Host.Outcome.next (s.takeRequest_takes _ _ _ takes)

/-- R5: a SYNC in range is accepted. -/
theorem handleSync_accepted {cycle position : Half} {dn : Byte} {d : DayNight} (mask : Byte) (s : State)
    (low : 300 ≤ cycle.toNat) (high : cycle.toNat ≤ 2400) (inside : position.toNat < cycle.toNat) (flag : dayNightOf dn = some d) :
    handleSync cycle position mask dn s =
      let t := s.acceptSync cycle.toNat position.toNat mask d
      { state := t.modStreet fun u => { u with lost := false }, status := .ok, fields := t.report } := by
  rw [handleSync, flag]
  exact if_pos ⟨low, high, inside⟩

/-- Settles O11. -/
theorem syncOutOfRangeIsRefused : Obligations.SyncOutOfRangeIsRefused := by
  refine ⟨fun s tag mask dn cycle position takes => ⟨fun out => ?_, fun fits => ?_⟩, fun s tag mask dn cycle position free off => ?_,
    fun s tag payload free length => ?_⟩
  · have refused : handleSync cycle position mask dn s.handling = refuse s.handling .badField := by
      unfold handleSync
      by_cases flag : dn ≠ 0 ∧ dn ≠ 1
      · rw [dayNightOf_none flag]
      · split
        · rfl
        · refine if_neg ?_
          rintro ⟨low, high, inside⟩
          obtain h | h | h | h := out
          · omega
          · omega
          · omega
          · exact flag h
    rw [exec_sync takes, refused]
    exact congrArg _ (s.handling_refused _ _ _ (by decide))
  · obtain ⟨low, high, inside, flag⟩ : 300 ≤ cycle.toNat ∧ cycle.toNat ≤ 2400 ∧ position.toNat < cycle.toNat ∧ (dn = 0 ∨ dn = 1) := by
      simp only [not_or, not_and_or, not_not, Nat.not_lt, Nat.not_le] at fits
      exact fits
    obtain ⟨d, day⟩ : ∃ d, dayNightOf dn = some d := by
      obtain rfl | rfl := flag
      · exact ⟨.day, rfl⟩
      · exact ⟨.night, rfl⟩
    refine ⟨_, (s.handling.acceptSync cycle.toNat position.toNat mask d).report,
      (exec_sync takes tag cycle position mask dn).trans (congrArg (fun r : Answer => Host.Outcome.next (r.replied 0x01 tag))
        (handleSync_accepted mask s.handling low high inside day)), ?_⟩
    rw [Answer.replied_eq _ _ _ (by decide)]
  · exact congrArg Host.Outcome.next (s.takeRequest_badState _ _ _ free off (by decide) (by decide))
  · rw [exec_unknownKind]
    have fits : (payload.length == 6) = false := by simpa using length
    obtain ⟨owner, spelled⟩ : ∃ owner, requestOf 0x01 payload = some (payload.length == 6, owner) := ⟨_, rfl⟩
    rw [fits] at spelled
    rw [State.takeFrame_request spelled]
    exact congrArg _ (s.takeRequest_badLength _ _ _ free)

end Sys2Proof.Machine
end

section
/-! SUPPORT. The values of a plan (R18, R19, R26, R30). -/

namespace Sys2Proof.Machine

/-! ### Arithmetic of the cycle and of clearances -/

theorem cycleSub_of_lt_lt {a b c : Nat} (ha : a < c) (hb : b < c) : cycleSub a b c = if b ≤ a then a - b else a + c - b := by
  rw [cycleSub_of_lt a hb]
  split
  · next h => rw [show a + c - b = a - b + c by omega, Nat.add_mod_right, Nat.mod_eq_of_lt (by omega)]
  · next h => exact Nat.mod_eq_of_lt (by omega)

theorem add_mod_of_lt_twice {x y c : Nat} (h : x + y < 2 * c) : (x + y) % c = if x + y < c then x + y else x + y - c := by
  split
  · next below => exact Nat.mod_eq_of_lt below
  · next above => rw [Nat.mod_eq_sub_mod (by omega), Nat.mod_eq_of_lt (by omega)]

/-- 00_scope.md 1.6: the quotient rounded up is the least that covers the dividend. -/
theorem ceilDiv_bounds {a b : Nat} (hb : 0 < b) (ha : 0 < a) : a ≤ b * ceilDiv a b ∧ b * (ceilDiv a b - 1) < a := by
  have quotient := Nat.div_add_mod (a + b - 1) b
  have rest := Nat.mod_lt (a + b - 1) hb
  have same : b * (ceilDiv a b - 1) = b * ceilDiv a b - b := by rw [Nat.mul_sub, Nat.mul_one]
  rw [same]
  unfold ceilDiv
  omega

theorem ceilDiv_range {a b low high least most : Nat} (hb : 0 < b) (ha : 0 < a) (few : b ≤ high) (many : low ≤ b)
    (below : high * least < a + high) (above : a ≤ low * most) : least ≤ ceilDiv a b ∧ ceilDiv a b ≤ most := by
  obtain ⟨covers, tight⟩ := ceilDiv_bounds hb ha
  constructor
  · by_contra short
    have bound : high * (ceilDiv a b + 1) ≤ high * least := Nat.mul_le_mul_left high (by omega)
    have wide : b * ceilDiv a b ≤ high * ceilDiv a b := Nat.mul_le_mul_right _ few
    rw [Nat.mul_succ] at bound
    omega
  · by_contra long
    have bound : low * most ≤ low * (ceilDiv a b - 1) := Nat.mul_le_mul_left low (by omega)
    have wide : low * (ceilDiv a b - 1) ≤ b * (ceilDiv a b - 1) := Nat.mul_le_mul_right _ many
    omega

theorem ceilDiv_anti {a b c : Nat} (hb : 0 < b) (ha : 0 < a) (h : b ≤ c) : ceilDiv a c ≤ ceilDiv a b := by
  by_contra more
  obtain ⟨covers, -⟩ := ceilDiv_bounds hb ha
  obtain ⟨-, tight⟩ := ceilDiv_bounds (Nat.lt_of_lt_of_le hb h) ha
  have wide : c * ceilDiv a b ≤ c * (ceilDiv a c - 1) := Nat.mul_le_mul_left c (by omega)
  have same : b * ceilDiv a b ≤ c * ceilDiv a b := Nat.mul_le_mul_right _ h
  omega

/-! ### A plan in range -/

/-- R17: what the ranges say of the fields that windows and clearances are made of. -/
theorem Plan.inRange_fields {p : Plan} (h : p.inRange = true) : p.openAt < p.cycle ∧ p.endAt < p.cycle
    ∧ (300 ≤ p.distance ∧ p.distance ≤ 4000) ∧ (100 ≤ p.normalSpeed ∧ p.normalSpeed ≤ 150)
    ∧ (60 ≤ p.accessibleSpeed ∧ p.accessibleSpeed ≤ 110) := by
  simp only [Plan.inRange, Bool.and_eq_true, decide_eq_true_eq] at h
  obtain ⟨⟨⟨⟨⟨⟨⟨⟨⟨⟨⟨⟨⟨⟨-, -⟩, opens⟩, ends⟩, -⟩, -⟩, distance⟩, normal⟩, accessible⟩, -⟩, -⟩, -⟩, -⟩, -⟩, -⟩ := h
  exact ⟨opens, ends, distance, normal, accessible⟩

theorem State.planInForce_usable {s : State} {n : CrossingId} {r : SlotRecord} (active : (s.crossing n).active = some r)
    (usable : (s.crossing n).unusable = false) :
    s.planInForce n = if r.plan.cycle = s.tb.cycle then some r.plan else none := by
  rw [State.planInForce, Crossing.usablePlan, usable, active]
  simp [Option.filter]

theorem Crossing.usablePlan_none {c : Crossing} (h : c.active = none ∨ c.unusable = true) : c.usablePlan = none := by
  unfold Crossing.usablePlan
  obtain none' | marked := h
  · rw [none']
    exact ite_self _
  · rw [marked]
    rfl

/-- Settles O14. -/
theorem planValuesFollowTheRecord : Obligations.PlanValuesFollowTheRecord := by
  refine ⟨fun p range differ slower => ?_, fun s n out => ?_, fun s n => ⟨fun r active usable => ?_, fun absent => ?_⟩⟩
  · obtain ⟨opens, ends, ⟨near, far⟩, ⟨fast, fast'⟩, ⟨slow, slow'⟩⟩ := p.inRange_fields range
    have window : p.windowLength = if p.openAt ≤ p.endAt then p.endAt - p.openAt else p.endAt + p.cycle - p.openAt :=
      cycleSub_of_lt_lt ends opens
    have since (x : Nat) (h : x < p.cycle) : cycleSub x p.openAt p.cycle =
        if p.openAt ≤ x then x - p.openAt else x + p.cycle - p.openAt := cycleSub_of_lt_lt h opens
    have left (x : Nat) (h : x < p.cycle) : p.remaining x = if x ≤ p.endAt then p.endAt - x else p.endAt + p.cycle - x :=
      cycleSub_of_lt_lt ends h
    have member (x : Nat) : p.inWindow x = true ↔ cycleSub x p.openAt p.cycle < p.windowLength := by
      rw [Plan.inWindow, decide_eq_true_iff]
    refine ⟨⟨?_, ?_, ?_⟩, ceilDiv_bounds (by omega) (by omega), ceilDiv_bounds (by omega) (by omega), ?_, ?_, ?_, ?_, ?_,
      fun x h => ?_, fun x h inside => ?_, ?_, ?_, ?_⟩
    · rw [window]
      split <;> omega
    · rw [window]
      split <;> omega
    · rw [window]
      split
      · rw [add_mod_of_lt_twice (by omega)]
        split <;> omega
      · rw [add_mod_of_lt_twice (by omega)]
        split <;> omega
    · exact (ceilDiv_range (low := 100) (high := 150) (least := 20) (most := 400) (by omega) (by omega) fast' fast (by omega) (by omega)).1
    · exact (ceilDiv_range (low := 100) (high := 150) (least := 20) (most := 400) (by omega) (by omega) fast' fast (by omega) (by omega)).2
    · exact (ceilDiv_range (low := 60) (high := 110) (least := 28) (most := 667) (by omega) (by omega) slow' slow (by omega) (by omega)).1
    · exact (ceilDiv_range (low := 60) (high := 110) (least := 28) (most := 667) (by omega) (by omega) slow' slow (by omega) (by omega)).2
    · exact ceilDiv_anti (by omega) (by omega) slower
    · rw [member, cycleSub_of_lt x opens]
    · rw [member, since x h, window] at inside
      rw [left x h, window]
      have before : x + (if x ≤ p.endAt then p.endAt - x else p.endAt + p.cycle - x) < 2 * p.cycle := by split <;> omega
      rw [add_mod_of_lt_twice before]
      split at inside <;> split at inside <;> split <;> split <;> omega
    · rw [member, since _ opens, window, if_pos (Nat.le_refl _)]
      split <;> omega
    · rw [left _ opens, window]
    · rw [Bool.eq_false_iff, ne_eq, member, since _ ends, window]
      exact Nat.lt_irrefl _
  · rw [State.outOfPlan, Option.isNone_iff_eq_none] at out
    rw [State.positionInWindow, out]
  · refine ⟨?_, ?_⟩
    · rw [State.planValues, Crossing.usablePlan, usable, active]
      rfl
    · rw [State.outOfPlan, State.planInForce_usable active usable]
      by_cases same : r.plan.cycle = s.tb.cycle <;> simp [same]
  · have none' := (s.crossing n).usablePlan_none absent
    have substitute (k : Nat) : s.fallbackPattern k = if s.patternOf k = none then 0 else k := by
      unfold State.fallbackPattern
      cases s.patternOf k <;> rfl
    refine ⟨?_, ?_⟩
    · rw [State.planValues, none']
      simp only [substitute]
    · rw [State.outOfPlan, State.planInForce, none']
      rfl

end Sys2Proof.Machine
end

section
/-! SUPPORT. The self-test: a completed check (O4), the pulses of HEAD_DRIVERS (O5). -/

namespace Sys2Proof.Machine

/-! ### What a check finds -/

/-- Channels 1 to 16 are the WALK and the DONT channel of each crossing in turn. -/
theorem channelIndex_surj (i : Fin 16) : ∃ n x, channelIndex n x = i := by
  rcases Nat.mod_two_eq_zero_or_one i.val with even | odd
  · exact ⟨⟨i.val / 2, by omega⟩, .walk, Fin.ext (by simp only [channelIndex]; omega)⟩
  · exact ⟨⟨i.val / 2, by omega⟩, .dont, Fin.ext (by simp only [channelIndex]; omega)⟩

theorem channelIndex_inj {n m : CrossingId} {x y : Aspect} :
    (channelIndex n x).val = (channelIndex m y).val ↔ n = m ∧ x = y := by
  cases x <;> cases y <;> simp [channelIndex, Fin.ext_iff] <;> omega

theorem pulsesFail_iff (v : Vector Pulse 16) :
    pulsesFail v = true ↔ ∃ n x, pulseFails v[channelIndex n x] = true := by
  rw [pulsesFail, List.any_eq_true]
  constructor
  · rintro ⟨p, mem, bad⟩
    obtain ⟨i, bound, rfl⟩ := Vector.mem_iff_getElem.mp (Vector.mem_toList_iff.mp mem)
    obtain ⟨n, x, at_i⟩ := channelIndex_surj ⟨i, bound⟩
    obtain rfl : (channelIndex n x).val = i := congrArg Fin.val at_i
    exact ⟨n, x, bad⟩
  · rintro ⟨n, x, bad⟩
    exact ⟨_, Vector.mem_toList_iff.mpr (Vector.getElem_mem _), bad⟩

theorem Check.passes_iff (c : Check) (found : CheckInputs) : c.passes found = true ↔ checkPasses found c := by
  cases c with
  | headDrivers =>
    change (!pulsesFail found.pulses) = true ↔ _
    rw [Bool.not_eq_true', ← Bool.not_eq_true, pulsesFail_iff]
    simp only [not_exists, Bool.not_eq_true]
    rfl
  | kerbLine =>
    refine (echoAgrees_iff _ _).trans ?_
    have sent : testBeacon = [0, 0, 0, 0xFF] := by decide
    change _ ↔ found.heard = _
    rw [sent, Heard.mk.injEq]
    simp
  | _ => exact Iff.rfl

/-! ### The pulses -/

/-- R172: the part after the pulses of some channels have been found bad, and every other pulse good. -/
structure State.PulsedTo (s : State) (bad : CrossingId → Aspect → Bool) (t : State) : Prop where
  rest : t = { s with
    crossings := t.crossings, budgetLimit := t.budgetLimit
    startUp := { s.startUp with failedChannels := t.startUp.failedChannels } }
  channel : ∀ n x, { t.channel n x with applied := 0 } =
    { (if bad n x then { s.channel n x with enabled := false, inUse := false, actual := 0, applied := 0 }
        else s.channel n x) with applied := 0 }
  listed : ∀ n x, t.startUp.failedChannels[channelIndex n x] =
    (bad n x || s.startUp.failedChannels[channelIndex n x])
  core : ∀ n, (t.crossing n).core = { s.crossing n with
    causes := { (s.crossing n).causes with
      walkLamp := (s.crossing n).causes.walkLamp || bad n .walk
      dontLamp := (s.crossing n).causes.dontLamp || bad n .dont } }.core
  budget : (∃ n x, bad n x = true) → t.BudgetLaw

section
variable {s t : State} {bad : CrossingId → Aspect → Bool}

theorem State.PulsedTo.refl (s : State) : s.PulsedTo (fun _ _ => false) s where
  rest := rfl
  channel _ _ := rfl
  listed _ _ := rfl
  core n := by
    simp only [Bool.or_false]
  budget := fun ⟨_, _, h⟩ => absurd h (by decide)

/-- The core of a crossing to which a cause has been added. -/
theorem Crossing.core_causes {c d : Crossing} (same : c.core = d.core) (k : Cause) :
    { c with causes := c.causes.add k }.core = { d with causes := d.causes.add k }.core := by
  have causes := congrArg Crossing.causes same
  change c.causes = d.causes at causes
  change { c.core with causes := c.causes.add k } = { d.core with causes := d.causes.add k }
  rw [same, causes]

theorem State.pulseFailed_crossing (s : State) (n m : CrossingId) (x : Aspect) :
    (s.pulseFailed n x).crossing m =
      if m = n then { (s.disableChannel n x).crossing m with
        causes := ((s.disableChannel n x).crossing m).causes.add (lampCause x) }
      else (s.disableChannel n x).crossing m := by
  refine ((s.disableChannel n x).modCrossing_crossing n m fun c =>
    { c with causes := c.causes.add (lampCause x) }).trans ?_
  split
  next same => subst same; rfl
  next => rfl

theorem State.pulseFailed_channel (s : State) (n m : CrossingId) (x y : Aspect) :
    (s.pulseFailed n x).channel m y = (s.disableChannel n x).channel m y := by
  have at_m := congrArg (fun c : Crossing => c.channel y) (s.pulseFailed_crossing n m x)
  refine Eq.trans at_m ?_
  split
  · cases y <;> rfl
  · rfl

/-- R172: one more bad pulse. -/
theorem State.PulsedTo.pulseFailed (h : s.PulsedTo bad t) (n : CrossingId) (x : Aspect) :
    s.PulsedTo (fun m y => bad m y || decide (m = n ∧ y = x)) (t.pulseFailed n x) := by
  refine ⟨?_, fun m y => ?_, fun m y => ?_, fun m => ?_, fun _ => ?_⟩
  · conv_lhs => rw [State.pulseFailed, State.disableChannel_eq]
    conv_lhs => rw [h.rest]
    rfl
  · have now := t.disableChannel_channel n m x y 0
    rw [State.pulseFailed_channel]
    refine now.trans ?_
    have before := h.channel m y
    by_cases e : m = n ∧ y = x
    · obtain ⟨rfl, rfl⟩ := e
      simp only [and_self, if_true, decide_true, Bool.or_true]
      cases b : bad m y <;> rw [b] at before <;>
        exact congrArg (fun ch : Channel => { ch with enabled := false, inUse := false, actual := 0, applied := 0 }) before
    · simp only [e, if_false, decide_false, Bool.or_false]
      exact before
  · have set := Vector.getElem_set (xs := t.startUp.failedChannels) (i := (channelIndex n x).val) (x := true)
      (j := (channelIndex m y).val) (channelIndex n x).isLt (channelIndex m y).isLt
    refine set.trans ?_
    have before := h.listed m y
    by_cases e : m = n ∧ y = x
    · obtain ⟨rfl, rfl⟩ := e
      simp
    · rw [if_neg fun same => e ((channelIndex_inj.mp same).imp Eq.symm Eq.symm)]
      simp only [e, decide_false, Bool.or_false]
      exact before
  · rw [State.pulseFailed_crossing]
    have before := (t.disableChannel_core n m x).trans (h.core m)
    split
    next e =>
      subst e
      rw [Crossing.core_causes before]
      cases x <;> simp [CauseSet.add, lampCause]
    next e =>
      rw [before]
      simp [e]
  · have law : (t.disableChannel n x).BudgetLaw := State.rebudget_budgetLaw _
    refine law.congr rfl fun m y => ?_
    rw [State.pulseFailed_channel]
    exact ⟨rfl, rfl, rfl⟩

/-- R172: the pulses of the channels in turn. -/
theorem State.pulseAll_pulsedTo (s : State) (v : Vector Pulse 16) :
    s.PulsedTo (fun n x => pulseFails v[channelIndex n x]) (s.pulseAll v) := by
  have same {b b' : CrossingId → Aspect → Bool} {t : State} (h : s.PulsedTo b t) (e : ∀ n x, b n x = b' n x) :
      s.PulsedTo b' t := by
    obtain rfl : b = b' := funext fun n => funext (e n)
    exact h
  have one {b : CrossingId → Aspect → Bool} {t : State} (h : s.PulsedTo b t) (n : CrossingId) (x : Aspect) :
      s.PulsedTo (fun m y => b m y || (decide (m = n ∧ y = x) && pulseFails v[channelIndex m y]))
        (if pulseFails v[channelIndex n x] then t.pulseFailed n x else t) := by
    split
    next bad =>
      refine same (h.pulseFailed n x) fun m y => ?_
      by_cases e : m = n ∧ y = x
      · obtain ⟨rfl, rfl⟩ := e
        change (b m y || _) = (b m y || (_ && pulseFails v[channelIndex m y]))
        rw [bad, Bool.and_true]
      · simp [e]
    next good =>
      refine same h fun m y => ?_
      by_cases e : m = n ∧ y = x
      · obtain ⟨rfl, rfl⟩ := e
        change b m y = (b m y || (_ && pulseFails v[channelIndex m y]))
        rw [eq_false_of_ne_true good, Bool.and_false, Bool.or_false]
      · simp [e]
  have all (l : List CrossingId) : ∀ {b : CrossingId → Aspect → Bool} {t : State}, s.PulsedTo b t →
      s.PulsedTo (fun m y => b m y || (decide (m ∈ l) && pulseFails v[channelIndex m y]))
        (forEach l (fun n s =>
          let s := if pulseFails v[channelIndex n .walk] then s.pulseFailed n .walk else s
          if pulseFails v[channelIndex n .dont] then s.pulseFailed n .dont else s) t) := by
    induction l with
    | nil => intro b t h; exact same h fun m y => by simp
    | cons n l ih =>
      intro b t h
      refine same (ih (one (one h n .walk) n .dont)) fun m y => ?_
      by_cases e : m = n
      · subst e
        cases y <;> simp [Bool.or_assoc] <;> cases b m _ <;> simp
      · simp [e]
  exact same (all allCrossings (State.PulsedTo.refl s)) fun m y => by simp [mem_allCrossings]

end

/-! ### A completed check -/

/-- R172, R173: the part with a check's name in the sets, the next check begun, and the check's effect taken. -/
def State.tested (s : State) (c : Check) (found : CheckInputs) : State :=
  (s.modStartUp fun u => { u with
    done := u.done.add c
    failed := if c.passes found then u.failed else u.failed.add c
    check := c.next }).checkEffect c found

/-- R173: the state a completed check ends the self-test in, if it ends it. -/
def Check.endsIn (c : Check) (found : CheckInputs) : Option OperatingState :=
  match c with
  | .configRom | .workMemory => if c.passes found then none else some .halted
  | .streetLine => some .running
  | _ => none

theorem State.completeCheck_eq (s : State) (c : Check) (found : CheckInputs) :
    s.completeCheck c found =
      match c.endsIn found with
      | none => s.tested c found
      | some o => (s.tested c found).endSelfTest o := by
  cases c with
  | configRom =>
    by_cases pass : Check.configRom.passes found = true
    · rw [show Check.endsIn .configRom found = none from if_pos pass]
      exact if_pos pass
    · rw [show Check.endsIn .configRom found = some .halted from if_neg pass]
      exact if_neg pass
  | workMemory =>
    by_cases pass : Check.workMemory.passes found = true
    · rw [show Check.endsIn .workMemory found = none from if_pos pass]
      exact if_pos pass
    · rw [show Check.endsIn .workMemory found = some .halted from if_neg pass]
      exact if_neg pass
  | _ => rfl

theorem Check.endsIn_none {c : Check} {found : CheckInputs} (going : c ≠ .streetLine)
    (passed : c = .configRom ∨ c = .workMemory → checkPasses found c) : c.endsIn found = none := by
  cases c with
  | configRom => exact if_pos ((Check.passes_iff _ _).mpr (passed (.inl rfl)))
  | workMemory => exact if_pos ((Check.passes_iff _ _).mpr (passed (.inr rfl)))
  | streetLine => exact absurd rfl going
  | _ => rfl

theorem Check.endsIn_halted {c : Check} {found : CheckInputs} (early : c = .configRom ∨ c = .workMemory)
    (bad : ¬ checkPasses found c) : c.endsIn found = some .halted := by
  have bad' : ¬ c.passes found = true := fun good => bad ((Check.passes_iff _ _).mp good)
  obtain rfl | rfl := early <;> exact if_neg bad'

theorem Check.endsIn_some {c : Check} {found : CheckInputs} {o : OperatingState} (h : c.endsIn found = some o) :
    (c = .streetLine ∧ o = .running) ∨ ((c = .configRom ∨ c = .workMemory) ∧ ¬ checkPasses found c ∧ o = .halted) := by
  by_cases last : c = .streetLine
  · subst last
    exact .inl ⟨rfl, (Option.some.inj h).symm⟩
  · by_cases early : c = .configRom ∨ c = .workMemory
    · by_cases pass : checkPasses found c
      · exact absurd ((Check.endsIn_none last fun _ => pass).symm.trans h) nofun
      · exact .inr ⟨early, pass, (Option.some.inj ((Check.endsIn_halted early pass).symm.trans h)).symm⟩
    · exact absurd ((Check.endsIn_none last fun h => absurd h early).symm.trans h) nofun

/-- R172: what no check's effect touches, the list of failed channels apart. -/
theorem State.tested_rest (s : State) (c : Check) (found : CheckInputs) :
    let t := s.tested c found
    t.startUp = { s.startUp with
      done := s.startUp.done.add c
      failed := if c.passes found then s.startUp.failed else s.startUp.failed.add c
      check := c.next
      failedChannels := t.startUp.failedChannels }
    ∧ t.street = s.street ∧ t.tb = s.tb ∧ t.stations = s.stations ∧ t.configured = s.configured
    ∧ t.patterns = s.patterns ∧ t.draws = s.draws ∧ t.pending = s.pending := by
  unfold State.tested State.checkEffect
  cases c with
  | headDrivers =>
    intro t
    have rest : t = _ := (State.pulseAll_pulsedTo (s.modStartUp _) found.pulses).rest
    have startUp := congrArg State.startUp rest
    have street := congrArg State.street rest
    have tb := congrArg State.tb rest
    have stations := congrArg State.stations rest
    have configured := congrArg State.configured rest
    have patterns := congrArg State.patterns rest
    have draws := congrArg State.draws rest
    have pending := congrArg State.pending rest
    exact ⟨startUp, street, tb, stations, configured, patterns, draws, pending⟩
  | clipMemory => dsimp only; split <;> exact ⟨rfl, rfl, rfl, rfl, rfl, rfl, rfl, rfl⟩
  | kerbLine => dsimp only; split <;> exact ⟨rfl, rfl, rfl, rfl, rfl, rfl, rfl, rfl⟩
  | _ => exact ⟨rfl, rfl, rfl, rfl, rfl, rfl, rfl, rfl⟩

/-- R172: what a check other than HEAD_DRIVERS leaves of the crossings, the clips, the line and the list of channels. -/
theorem State.tested_keeps (s : State) (c : Check) (found : CheckInputs) :
    let t := s.tested c found
    (c ≠ .headDrivers → t.startUp.failedChannels = s.startUp.failedChannels)
    ∧ (c ≠ .planMemory → c ≠ .headDrivers → t.crossings = s.crossings ∧ t.budgetLimit = s.budgetLimit)
    ∧ (c ≠ .clipMemory → t.clips = s.clips ∧ t.libraryEnabled = s.libraryEnabled)
    ∧ (c ≠ .kerbLine → t.link = s.link) := by
  unfold State.tested State.checkEffect
  cases c with
  | headDrivers =>
    intro t
    have rest : t = _ := (State.pulseAll_pulsedTo (s.modStartUp _) found.pulses).rest
    have clips := congrArg State.clips rest
    have enabled := congrArg State.libraryEnabled rest
    have link := congrArg State.link rest
    exact ⟨fun other => absurd rfl other, fun _ other => absurd rfl other, fun _ => ⟨clips, enabled⟩, fun _ => link⟩
  | clipMemory =>
    dsimp only
    split <;> exact ⟨fun _ => rfl, fun _ _ => ⟨rfl, rfl⟩, fun other => absurd rfl other, fun _ => rfl⟩
  | kerbLine =>
    dsimp only
    split <;> exact ⟨fun _ => rfl, fun _ _ => ⟨rfl, rfl⟩, fun _ => ⟨rfl, rfl⟩, fun other => absurd rfl other⟩
  | planMemory => exact ⟨fun _ => rfl, fun other => absurd rfl other, fun _ => ⟨rfl, rfl⟩, fun _ => rfl⟩
  | _ => exact ⟨fun _ => rfl, fun _ _ => ⟨rfl, rfl⟩, fun _ => ⟨rfl, rfl⟩, fun _ => rfl⟩

theorem State.tested_planMemory (s : State) (found : CheckInputs) (n : CrossingId) :
    (s.tested .planMemory found).crossing n =
      { s.crossing n with active := none, planned := none, unusable := false } :=
  tableMap_getElem _ _ _ _

theorem State.tested_clipMemory (s : State) (found : CheckInputs) :
    (s.tested .clipMemory found).libraryEnabled = found.good ∧ ∀ k, (s.tested .clipMemory found).clip k =
      if found.good = true ∧ ((s.clip k).state = .valid → (s.clip k).verifies = true) then s.clip k else {} := by
  unfold State.tested State.checkEffect
  dsimp only
  split
  next good =>
    refine ⟨good.symm, fun k => (tableMap_getElem _ _ _ _).trans ?_⟩
    change (s.clip k).reverified = _
    unfold Clip.reverified
    by_cases valid : (s.clip k).state = .valid <;> cases sound : (s.clip k).verifies <;> simp [good, valid]
  next bad =>
    refine ⟨(eq_false_of_ne_true bad).symm, fun k => (tableMap_getElem _ _ _ _).trans ?_⟩
    rw [if_neg fun h => bad h.1]

theorem State.tested_kerbLine (s : State) (found : CheckInputs) :
    (s.tested .kerbLine found).link = if found.heard = ⟨some 0, some 0, some 0, some 0xFF⟩ then s.link
      else { s.link with line := .fault, faultAge := 0, retry := 0 } := by
  unfold State.tested State.checkEffect
  dsimp only
  have passes : Check.kerbLine.passes found = true ↔ found.heard = ⟨some 0, some 0, some 0, some 0xFF⟩ :=
    Check.passes_iff .kerbLine found
  by_cases pass : found.heard = ⟨some 0, some 0, some 0, some 0xFF⟩
  · rw [if_pos pass, if_pos (passes.mpr pass)]
    rfl
  · rw [if_neg pass, if_neg fun good => pass (passes.mp good)]
    rfl

/-- R173: the end of a self-test changes the operating state, the check, the first frame's mark and the notices. -/
theorem State.endSelfTest_eq (s : State) (o : OperatingState) :
    s.endSelfTest o = { s with
      startUp := { s.startUp with operating := o, check := none }
      link := if o = .running then { s.link with keepNumber := true } else s.link
      street := s.street.queued (.startUp s.startUp.done s.startUp.failed o) } := by
  unfold State.endSelfTest
  split <;> rfl

/-- Settles O4. -/
theorem selfTestCheckCompletes : Obligations.SelfTestCheckCompletes := by
  unfold Obligations.SelfTestCheckCompletes
  refine ⟨fun s found other => ?_, fun s c found testing inHand named number => ?_⟩
  · change Host.Outcome.next (if s.startUp.awaits found = true then _ else s) = _
    rw [if_neg]
    intro awaits
    obtain ⟨operating, number, check⟩ := (StartUp.awaits_iff _ _).mp awaits
    exact other.elim (· operating) (·.elim (· number) (· check))
  subst named
  have awaits := (StartUp.awaits_iff s.startUp found).mpr ⟨testing, number.symm, inHand⟩
  refine ⟨s.completeCheck found.check found, congrArg Host.Outcome.next (if_pos awaits), ?_⟩
  obtain ⟨startUp, street, tb, stations, configured, patterns, draws, pending⟩ := s.tested_rest found.check found
  obtain ⟨channels, crossings, clips, link⟩ := s.tested_keeps found.check found
  have plans (is : found.check = .planMemory) := is ▸ s.tested_planMemory found
  have library (is : found.check = .clipMemory) := is ▸ s.tested_clipMemory found
  have line (is : found.check = .kerbLine) := is ▸ s.tested_kerbLine found
  have passes := Check.passes_iff found.check found
  have number' := congrArg StartUp.number startUp
  have done := congrArg StartUp.done startUp
  have failed := congrArg StartUp.failed startUp
  have operating := congrArg StartUp.operating startUp
  have next := congrArg StartUp.check startUp
  have failedGood (good : checkPasses found found.check) := failed.trans (if_pos (passes.mpr good))
  have failedBad (bad : ¬ checkPasses found found.check) := failed.trans (if_neg fun good => bad (passes.mp good))
  rw [s.completeCheck_eq]
  generalize s.tested found.check found = u at *
  cases ends : found.check.endsIn found with
  | none =>
    have going : found.check ≠ .streetLine := fun is => by rw [is] at ends; exact absurd ends nofun
    have passed (early : found.check = .configRom ∨ found.check = .workMemory) : checkPasses found found.check :=
      Classical.byContradiction fun bad => by
        rw [Check.endsIn_halted early bad] at ends
        exact absurd ends nofun
    have testing' : u.startUp.operating = .selfTest := operating.trans testing
    refine ⟨number', channels, done, failedGood, failedBad, fun is => absurd is going,
      fun early bad => absurd (passed early) bad, fun _ _ => ⟨testing', street, ?_⟩,
      fun ended => absurd testing' ended, plans, crossings, library, clips, line, fun other _ => link other,
      tb, stations, configured, patterns, draws, pending⟩
    rw [next]
    change (found.check, found.check.next) ∈ _
    generalize found.check = c at going
    cases c with
    | streetLine => exact absurd rfl going
    | _ => decide
  | some o =>
    dsimp only
    rw [u.endSelfTest_eq]
    have told (ended : o ≠ .selfTest) : u.street.queued (.startUp u.startUp.done u.startUp.failed o) =
        s.street.queued (.startUp u.startUp.done u.startUp.failed o) := by rw [street]
    obtain ⟨last, rfl⟩ | ⟨early, bad, rfl⟩ := Check.endsIn_some ends
    · have not_early (early : found.check = .configRom ∨ found.check = .workMemory) : False := by
        rw [last] at early
        exact early.elim nofun nofun
      exact ⟨number', channels, done, failedGood, failedBad, fun _ => ⟨rfl, rfl⟩, fun early => (not_early early).elim,
        fun other => absurd last other, told, plans, crossings, library, clips,
        fun is => absurd (last.symm.trans is) nofun, fun _ other => absurd last other, tb, stations, configured, patterns,
        draws, pending⟩
    · exact ⟨number', channels, done, failedGood, failedBad, fun is => by rw [is] at early; exact (early.elim nofun nofun),
        fun _ _ => ⟨rfl, rfl⟩, fun _ good => absurd (good early) bad, told, plans, crossings, library, clips,
        fun is => by rw [is] at early; exact (early.elim nofun nofun), fun other _ => link other, tb, stations, configured,
        patterns, draws, pending⟩

/-- Settles O5. -/
theorem headDriversDisablesFailedChannels : Obligations.HeadDriversDisablesFailedChannels := by
  unfold Obligations.HeadDriversDisablesFailedChannels
  refine ⟨fun n => ⟨by simp only [channelIndex]; omega, by simp only [channelIndex]; omega⟩,
    fun s found testing inHand named number => ?_⟩
  have awaits := (StartUp.awaits_iff s.startUp found).mpr ⟨testing, number.symm, named ▸ inHand⟩
  refine ⟨s.completeCheck found.check found, congrArg Host.Outcome.next (if_pos awaits), ?_⟩
  rw [named]
  have done := State.pulseAll_pulsedTo (s.modStartUp fun u => { u with
    done := u.done.add .headDrivers
    failed := if Check.headDrivers.passes found then u.failed else u.failed.add .headDrivers
    check := Check.headDrivers.next }) found.pulses
  have same : s.completeCheck .headDrivers found = State.pulseAll _ found.pulses := rfl
  rw [same]
  generalize State.pulseAll _ found.pulses = t at done ⊢
  have street := congrArg State.street done.rest
  have channel : ∀ n x, { t.channel n x with applied := 0 } =
      { (if pulseBad found n x then
          { s.channel n x with enabled := false, inUse := false, actual := 0, applied := 0 }
        else s.channel n x) with applied := 0 } := done.channel
  have listed : ∀ n x, t.startUp.failedChannels[channelIndex n x] =
    (pulseBad found n x || s.startUp.failedChannels[channelIndex n x]) := done.listed
  refine ⟨fun n x bad => ⟨?_, by rw [listed, bad, Bool.true_or]⟩, fun n x good => ⟨?_, by rw [listed, good, Bool.false_or]⟩,
    done.core, done.budget, street⟩
  · have now := channel n x
    rw [if_pos bad] at now
    have off := congrArg Channel.inUse now
    have applied := ((done.budget ⟨n, x, bad⟩).2 n x).trans (if_neg (ne_true_of_eq_false off))
    refine Eq.trans ?_ now
    exact congrArg (fun a => { t.channel n x with applied := a }) applied
  · have now := channel n x
    rw [if_neg (ne_true_of_eq_false good)] at now
    exact congrArg (fun ch : Channel => { ch with applied := (s.channel n x).applied }) now

end Sys2Proof.Machine
end

section
/-! SUPPORT. The frame's order (O39): polls, visits, what a visit offers, and what the end of a transaction begins. -/

namespace Sys2Proof.Machine

/-! ### The settings set in its fixed order (R104) -/

theorem SettingsSet.first_eq (t : SettingsSet) : t.first = serviceOrder.find? t.has := by
  have order : serviceOrder = .takeOver :: .config :: (allPatterns.map .pattern ++ [.level]) := rfl
  have patterns : (allPatterns.map Setting.pattern).find? t.has =
      (allPatterns.find? fun k => t.patterns.getLsbD k.val).map .pattern := List.find?_map
  rw [order, List.find?_cons, List.find?_cons, List.find?_append, patterns]
  unfold SettingsSet.first
  cases over' : t.takeOver with
  | true => simp [SettingsSet.has, over']
  | false =>
    cases config : t.config with
    | true => simp [SettingsSet.has, over', config]
    | false =>
      simp only [SettingsSet.has, over', config]
      cases allPatterns.find? fun k => t.patterns.getLsbD k.val with
      | some k => rfl
      | none => cases level : t.level <;> simp [SettingsSet.has, level]

theorem mem_serviceOrder (x : Setting) : x ∈ serviceOrder := by
  cases x with
  | pattern k => simp [serviceOrder, mem_allPatterns]
  | _ => simp [serviceOrder]

theorem SettingsSet.eq_empty_of {t : SettingsSet} (clear : ∀ x, t.has x = false) : t = {} := by
  obtain ⟨takeOver, config, patterns, level⟩ := t
  obtain rfl : takeOver = false := clear .takeOver
  obtain rfl : config = false := clear .config
  obtain rfl : level = false := clear .level
  obtain rfl : patterns = 0 := BitVec.eq_of_getLsbD_eq fun i bound => by
    exact (clear (.pattern ⟨i, bound⟩)).trans BitVec.getLsbD_zero.symm
  rfl

theorem SettingsSet.first_none {t : SettingsSet} (h : t.first = none) : t = {} := by
  rw [t.first_eq, List.find?_eq_none] at h
  exact SettingsSet.eq_empty_of fun x => eq_false_of_ne_true (h x (mem_serviceOrder x))

theorem SettingsSet.first_of {t : SettingsSet} {before after : List Setting} {x : Setting}
    (order : serviceOrder = before ++ x :: after) (has : t.has x = true) (free : ∀ y ∈ before, t.has y = false) :
    t.first = some x := by
  rw [t.first_eq, order, List.find?_append, List.find?_eq_none.mpr fun y mem => ne_true_of_eq_false (free y mem),
    Option.none_or, List.find?_cons_of_pos has]

/-! ### The order of polls and visits (R101, R106) -/

/-- The first member of a list that meets a test is the one that comes before every other that does. -/
theorem find_of_first {α : Type} {p : α → Bool} {r : α → α → Prop} (asymm : ∀ x y, r x y → ¬ r y x) {a : α} :
    ∀ {l : List α}, l.Pairwise r → a ∈ l → p a = true → (∀ b ∈ l, p b = true → b ≠ a → r a b) → l.find? p = some a
  | x :: l, sorted, mem, good, first => by
    obtain ⟨head, tail⟩ := List.pairwise_cons.mp sorted
    by_cases same : x = a
    · subst same
      exact List.find?_cons_of_pos good
    · have inTail : a ∈ l := (List.mem_cons.mp mem).resolve_left fun e => same e.symm
      have bad : ¬ p x = true := fun px =>
        asymm _ _ (head a inTail) (first x List.mem_cons_self px same)
      rw [List.find?_cons_of_neg bad]
      exact find_of_first asymm tail inTail good fun b mem => first b (List.mem_cons_of_mem _ mem)

theorem sorted_allStations : allStations.Pairwise (· < ·) := by decide

/-- R106: the place of an address in a visit order that begins after the pointer. -/
def turnOf (pointer a : StationId) : Nat := (a.val + 23 - pointer.val) % 24

theorem turnOf_inj {p a b : StationId} (h : turnOf p a = turnOf p b) : a = b := by
  unfold turnOf at h
  exact Fin.ext (by omega)

theorem sorted_visitOrder (p : StationId) : (visitOrder p).Pairwise fun a b => turnOf p a < turnOf p b := by
  have part (q : StationId → Bool) (same : ∀ a b, q a = true → q b = true → a < b → turnOf p a < turnOf p b) :
      (allStations.filter q).Pairwise fun a b => turnOf p a < turnOf p b := by
    refine (sorted_allStations.filter q).imp_of_mem fun inA inB less => ?_
    exact same _ _ (List.mem_filter.mp inA).2 (List.mem_filter.mp inB).2 less
  refine List.pairwise_append.mpr ⟨part _ fun a b ha hb less => ?_, part _ fun a b ha hb less => ?_,
    fun a inA b inB => ?_⟩
  · simp only [decide_eq_true_eq, Fin.lt_def] at ha hb less
    unfold turnOf; omega
  · simp only [decide_eq_true_eq, Fin.le_def, Fin.lt_def] at ha hb less
    unfold turnOf; omega
  · have ha := (List.mem_filter.mp inA).2
    have hb := (List.mem_filter.mp inB).2
    simp only [decide_eq_true_eq, Fin.le_def, Fin.lt_def] at ha hb
    unfold turnOf; omega

theorem mem_visitOrder (p a : StationId) : a ∈ visitOrder p := by
  rw [visitOrder, List.mem_append, List.mem_filter, List.mem_filter]
  by_cases later : p < a
  · exact .inl ⟨mem_allStations a, by simpa using later⟩
  · exact .inr ⟨mem_allStations a, by simpa using later⟩

/-- R101: the next poll is the lowest address polled from the place reached. -/
theorem State.periodicFrom_poll {s : State} {i : Nat} {a : StationId} (reached : i ≤ a.val)
    (polled : (s.station a).polledIn a s.link.frame = true)
    (lowest : ∀ b : StationId, i ≤ b.val → b < a → (s.station b).polledIn b s.link.frame = false) :
    s.periodicFrom i = s.begin (.transaction ⟨a, .poll, false, false⟩) (pollBytes a s.link.frame)
      (durationOf (pollBytes a s.link.frame).length 12) := by
  have found : allStations.find? (fun a => i ≤ a.val && (s.station a).polledIn a s.link.frame) = some a := by
    refine find_of_first (fun _ _ => Fin.lt_asymm) sorted_allStations (mem_allStations a) (by simp [reached, polled]) ?_
    intro b _ good other
    simp only [Bool.and_eq_true, decide_eq_true_eq] at good
    obtain ⟨place, ofB⟩ := good
    refine lt_of_le_of_ne (Fin.not_lt.mp fun less => ?_) other.symm
    exact absurd ofB (ne_true_of_eq_false (lowest b place less))
  unfold State.periodicFrom
  rw [found]

theorem State.periodicFrom_done {s : State} {i : Nat}
    (clear : ∀ a : StationId, i ≤ a.val → (s.station a).polledIn a s.link.frame = false) :
    s.periodicFrom i = s.asynchronous := by
  have found : allStations.find? (fun a => i ≤ a.val && (s.station a).polledIn a s.link.frame) = none := by
    refine List.find?_eq_none.mpr fun a _ good => ?_
    simp only [Bool.and_eq_true, decide_eq_true_eq] at good
    exact absurd good.2 (ne_true_of_eq_false (clear a good.1))
  unfold State.periodicFrom
  rw [found]

/-- R106: the station with work that comes first after the pointer. -/
theorem State.visit_found {s : State} {a : StationId} (work : (s.station a).hasWork = true)
    (first : ∀ b, (s.station b).hasWork = true → turnOf s.link.pointer a ≤ turnOf s.link.pointer b) :
    (visitOrder s.link.pointer).find? (fun a => (s.station a).hasWork) = some a := by
  refine find_of_first (fun _ _ => Nat.lt_asymm) (sorted_visitOrder _) (mem_visitOrder _ a) work fun b _ ofB other => ?_
  exact lt_of_le_of_ne (first b ofB) fun same => other (turnOf_inj same).symm

/-- R103, R106: a station with work is offered a transaction. -/
theorem State.offer_of_work {s : State} {a : StationId} (work : (s.station a).hasWork = true) :
    ∃ item bytes, s.offer a = some (item, bytes) := by
  have some_of {x : Item × List Byte} : ∃ item bytes, some x = some (item, bytes) := ⟨x.1, x.2, rfl⟩
  unfold State.offer
  dsimp only
  cases urgent : (s.station a).urgent with
  | cons u rest => cases u <;> exact some_of
  | nil =>
    dsimp only
    cases first : (s.station a).settings.first with
    | some x => exact some_of
    | none =>
      dsimp only
      have empty := SettingsSet.first_none first
      cases job : (s.station a).job with
      | some j => exact some_of
      | none => simp [Station.hasWork, urgent, empty, job] at work

theorem State.asynchronous_none {s : State} (clear : ∀ a, (s.station a).hasWork = false) : s.asynchronous = s.idled := by
  have found : (visitOrder s.link.pointer).find? (fun a => (s.station a).hasWork) = none :=
    List.find?_eq_none.mpr fun a _ => ne_true_of_eq_false (clear a)
  unfold State.asynchronous
  rw [found]
  rfl

theorem State.asynchronous_visit {s : State} {a : StationId} {item : Item} {bytes : List Byte}
    (found : (visitOrder s.link.pointer).find? (fun a => (s.station a).hasWork) = some a)
    (offer : s.offer a = some (item, bytes)) :
    s.asynchronous = if s.link.used + durationOf bytes.length item.replyBytes + 2000 ≤ 100000
      then s.begin (.transaction ⟨a, item, false, false⟩) bytes (durationOf bytes.length item.replyBytes)
      else s.idled := by
  unfold State.asynchronous
  rw [found]
  dsimp only
  rw [offer]
  dsimp only
  by_cases fits : s.link.used + durationOf bytes.length item.replyBytes + 2000 ≤ 100000
  · rw [if_pos fits, if_pos]
    exact decide_eq_true fits
  · rw [if_neg fits, if_neg]
    · rfl
    · exact fun time => fits (of_decide_eq_true time)

/-! ### The line stays idle while the end of a transaction is settled -/

/-- A line with nothing on it is left as it is. -/
def State.IdleKept (s t : State) : Prop := s.link.activity = .idle → t.link = s.link

section
variable {s t u : State} {a : StationId}

theorem State.IdleKept.refl (s : State) : s.IdleKept s := fun _ => rfl

theorem State.IdleKept.trans (h : s.IdleKept t) (k : t.IdleKept u) : s.IdleKept u := fun idle =>
  have first := h idle
  (k (first ▸ idle)).trans first

theorem State.SteadyBut.idleKept {but : CrossingId → Prop} (h : State.SteadyBut but s t) : s.IdleKept t := h.line.idle

theorem State.StationsOnly.idleKept (h : s.StationsOnly t) : s.IdleKept t := h.discard.idle

theorem State.pressAndSample_idle (r : PollReport) (owned : (s.station a).owner = .owned) :
    s.IdleKept (s.pressAndSample a r) := by
  have press (u : State) (owned : (u.station a).owner = .owned) : u.Steady (u.decodePress a r.press) :=
    (State.Steady.refl u).decodePress owned
  have sample (u : State) : u.Steady (u.sampleFrom a r) := by
    unfold State.sampleFrom
    split
    · exact (State.Steady.refl u).takeSample
    · exact .refl u
  obtain ⟨d, -, same | same⟩ := s.pressAndSample_cases a r
  · rw [same]
    exact ((press { s with draws := d } owned).trans (sample _)).idleKept
  · rw [same]
    have sampled := sample { s with draws := d }
    exact (sampled.trans (press _ ((sampled.owner a).trans owned))).idleKept

theorem State.pollOk_idle (r : PollReport) : s.IdleKept (s.pollOk a r) := by
  have cleared := (State.StationsOnly.refl s).clearFailures (a := a)
  unfold State.pollOk
  dsimp only
  split
  next owned _ =>
    have reported := cleared.takeReport (a := a) (r := r)
    refine reported.idleKept.trans (State.pressAndSample_idle r ?_)
    rw [State.takeReport_station, if_pos rfl]
    exact owned
  · exact cleared.modStation.enterTaking.notifyStation.idleKept
  · exact cleared.takeReport.idleKept
  · exact cleared.modStation.enterTaking.notifyStation.idleKept
  · exact cleared.idleKept

theorem State.becomeOwned_idle : s.IdleKept (s.becomeOwned a) := by
  have owned := ((State.StationsOnly.refl s).modStation (a := a) (f := fun t => { t with owner := .owned })).notifyStation (a := a)
  unfold State.becomeOwned
  dsimp only
  split
  · exact owned.idleKept
  next b _ =>
    have checked := (State.Steady.refl ((s.modStation a fun t => { t with owner := .owned }).notifyStation a)).checkActive
      (n := b.crossing)
    refine (owned.idleKept.trans checked.idleKept).trans (State.IdleKept.trans ?_ (State.Steady.refl _).recomputeNeeds.idleKept)
    split
    · exact (State.queuePlayTo_link (s := _) (a := a)).idle
    · exact .refl _

theorem State.settingDelivered_idle (x : Setting) (again : Bool) : s.IdleKept (s.settingDelivered a x again) := by
  have removed := (State.StationsOnly.refl s).modStation (a := a) (f := fun t => { t with settings := t.settings.remove x })
  unfold State.settingDelivered
  split
  · exact .refl s
  · dsimp only
    split
    · exact removed.idleKept.trans State.becomeOwned_idle
    · exact removed.idleKept

theorem State.commitAnswer_idle (good : Bool) : s.IdleKept (s.commitAnswer a good) := by
  have changed (f : Station → Station) := (State.StationsOnly.refl s).modStation (a := a) (f := f)
  have needs (u : State) : u.IdleKept (u.recomputeNeeds a) := (State.Steady.refl u).recomputeNeeds.idleKept
  unfold State.commitAnswer
  split
  · exact .refl s
  · split
    · exact (changed _).idleKept.trans (needs _)
    · split
      · exact (changed _).idleKept
      · dsimp only
        refine State.IdleKept.trans ?_ (needs _)
        split
        · exact (changed _).modStation.notifyStation.idleKept
        · exact (changed _).idleKept

theorem Transaction.settle_idle (x : Transaction) (reply : KerbReply) : s.IdleKept (x.settle reply s) := by
  have changed (f : Station → Station) := ((State.StationsOnly.refl s).modStation (a := x.station) (f := f)).idleKept
  unfold Transaction.settle
  split
  · exact State.pollOk_idle _
  · exact changed _
  · exact changed _
  · exact State.settingDelivered_idle _ _
  · exact State.settingDelivered_idle _ _
  · exact State.settingDelivered_idle _ _
  · exact State.settingDelivered_idle _ _
  · exact changed _
  · exact changed _
  · exact State.commitAnswer_idle _

/-- R107, R108: the end of a transaction settles it on an idle line, then goes on. -/
theorem exec_ending_proceeds {x : Transaction} (reply : KerbReply) (h : s.link.activity = .transaction x) :
    ∃ u : State, exec (x.item.ending reply) s = .next (u.proceed x)
      ∧ u.link = { s.link with activity := .idle }
      ∧ (x.discard = true → u = s.idled) := by
  rw [exec_ending reply h]
  cases d : x.discard with
  | true => exact ⟨s.idled, congrArg _ (s.endTransaction_discarded x reply _ d), rfl, fun _ => rfl⟩
  | false =>
    by_cases ok : judge x.station x.item reply = .ok
    · have cleared := ((State.StationsOnly.refl s.idled).clearFailures (a := x.station)).idleKept
      exact ⟨_, congrArg _ (s.endTransaction_ok x reply _ d ok), (cleared.trans (x.settle_idle reply)) rfl, nofun⟩
    · have counted := ((State.StationsOnly.refl s.idled).countFailure (a := x.station)).idleKept
      exact ⟨_, congrArg _ (s.endTransaction_failed x reply _ d ok), counted rfl, nofun⟩

end

/-! ### What a visit offers (R104 to R106) -/

theorem pointBytes_eq (l : List (Nat × Bool)) : pointBytes l = l.flatMap fun p => [byte p.1, yesNo p.2] := by
  induction l with
  | nil => rfl
  | cons p l ih => rw [pointBytes, ih]; rfl

theorem length_pointBytes (l : List (Nat × Bool)) : (pointBytes l).length = 2 * l.length := by
  induction l with
  | nil => rfl
  | cons p l ih => simp only [pointBytes, List.length_cons, ih]; omega

theorem bits_two (x y : Bool) : bits [x, y] = byte (x.toNat + 2 * y.toNat) := by
  cases x <;> cases y <;> decide

/-- Table 12-17: a PATTERN request in its bytes. -/
theorem patternBytes_some (a : StationId) (k : PatternId) (q : Pattern) : patternBytes a k (some q) =
    withCrc (byte (a.val + 1) :: 0x06 :: ([byte (k.val + 1), byte q.period, byte (q.repeating.toNat + 2 * q.initial.toNat),
      byte q.points.length] ++ q.points.flatMap (fun p => [byte p.1, yesNo p.2]) ++ List.replicate (16 - 2 * q.points.length) 0)) := by
  simp [patternBytes, stationCode, bits_two, ← pointBytes_eq, length_pointBytes]

theorem State.offer_urgent {s : State} {a : StationId} {u : Urgent} {rest : List Urgent}
    (h : (s.station a).urgent = u :: rest) : s.offer a = some (match u with
      | .play p => (.play p, playBytes a p)
      | .ack k => (.ack, ackBytes a k)) := by
  cases u <;> simp only [State.offer, h]

theorem State.offer_setting {s : State} {a : StationId} {x : Setting} (free : (s.station a).urgent = [])
    (first : (s.station a).settings.first = some x) : s.offer a = some (s.settingMessage a x) := by
  unfold State.offer
  dsimp only
  rw [free]
  dsimp only
  rw [first]

theorem State.offer_job {s : State} {a : StationId} (free : (s.station a).urgent = [])
    (empty : (s.station a).settings = {}) : s.offer a = (s.station a).job.map (s.jobMessage a) := by
  have first : (s.station a).settings.first = none := by rw [empty]; decide
  unfold State.offer
  dsimp only
  rw [free]
  dsimp only
  rw [first]

theorem State.patternOf_succ (s : State) (k : PatternId) : s.patternOf (k.val + 1) = s.patterns[k] := by
  simp [State.patternOf]

/-- Settles O39. -/
theorem nextTransactionFollowsTheOrder : Obligations.NextTransactionFollowsTheOrder := by
  unfold Obligations.NextTransactionFollowsTheOrder
  refine ⟨fun s => ⟨fun i => ?_, s.asynchronous_none, fun a work first => ?_⟩, fun s a => ?_,
    fun s x reply h => exec_ending_proceeds reply h, fun u x => ?_⟩
  · refine ⟨fun a reached polled lowest => ?_, fun done => State.periodicFrom_done done⟩
    rw [State.periodicFrom_poll reached polled lowest]
    rfl
  · obtain ⟨item, bytes, offer⟩ := State.offer_of_work work
    refine ⟨item, bytes, offer, ?_⟩
    intro micros
    have same : durationOf bytes.length item.replyBytes = micros := by
      cases item <;> rfl
    rw [State.asynchronous_visit (State.visit_found work first) offer, same]
    rfl
  · intro st address flags two offers
    refine ⟨fun p rest urgent => ?_, fun k rest urgent => ?_, fun free before x after order has clear => ?_,
      fun free empty j job => ?_, fun free empty job => ?_⟩
    · refine (State.offer_urgent urgent).trans ?_
      dsimp only
      rw [playBytes, bits_two]
      rfl
    · exact (State.offer_urgent urgent).trans rfl
    · have offer : s.offer a = some (s.settingMessage a x) :=
        State.offer_setting free (SettingsSet.first_of order has clear)
      refine ⟨fun is => ?_, fun is b bound => ?_, fun k is => ⟨fun undefined => ?_, fun q defined => ?_⟩, fun is => ?_⟩
      · subst is
        exact offer
      · subst is
        refine offer.trans ?_
        have bound' : (s.station a).binding = some b := bound
        simp only [State.settingMessage, bound']
        rfl
      · subst is
        refine offer.trans ?_
        change some (Item.pattern k, patternBytes a k s.patterns[k]) = _
        rw [← s.patternOf_succ, undefined]
        rfl
      · subst is
        refine offer.trans ?_
        change some (Item.pattern k, patternBytes a k s.patterns[k]) = _
        rw [← s.patternOf_succ, defined, patternBytes_some]
        rfl
      · subst is
        exact offer
    · have offer : s.offer a = some (s.jobMessage a j) := by
        rw [State.offer_job free empty, show (s.station a).job = some j from job]
        rfl
      have message : s.jobMessage a j = match j.state with
        | .opening => (.slotOpen, slotOpenBytes a j.slot j.clip (s.clip j.clip).length)
        | .sending => (.block, blockBytes a j.slot j.next ((s.clip j.clip).block j.next))
        | .committing => (.slotCommit, slotCommitBytes a j.slot j.clip (s.clip j.clip).check) := rfl
      refine ⟨fun is => ?_, fun is small => ?_, fun is => ?_⟩
      · rw [message, is] at offer
        exact offer
      · rw [message, is] at offer
        have part : j.next / 256 % 2 = j.next / 256 := by omega
        dsimp only [blockBytes] at offer
        rw [part] at offer
        exact offer
      · rw [message, is] at offer
        exact offer
    · rw [State.offer_job free empty, show (s.station a).job = none from job]
      rfl
  · intro moved
    have pointer : (if x.item = .poll then u else u.modLink fun l => { l with pointer := x.station }) = moved := by
      by_cases poll : x.item = .poll
      · simp only [moved, poll, if_true]
      · simp only [moved, poll, if_false]
        rfl
    have proceed : u.proceed x = if moved.link.closed then moved
        else if x.item = .poll then moved.periodicFrom (x.station.val + 1) else moved.asynchronous := by
      rw [← pointer]
      rfl
    rw [proceed]
    refine ⟨fun closed => if_pos closed, fun more => (if_neg (ne_true_of_eq_false more)).trans ?_⟩
    by_cases poll : x.item = .poll
    · rw [if_pos poll, if_pos poll, ← pointer, if_pos poll]
    · rw [if_neg poll, if_neg poll]

end Sys2Proof.Machine
end

section
/-! SUPPORT. What an operation of the sequencer makes of its crossing, its stations and the notices (spec 04): one rule per
operation, on records that the plan's check finds sound. -/

namespace Sys2Proof.Machine

/-! ### PLAYs to a list of stations (R136, R138) -/

/-- A step that at most queues PLAYs: it touches urgent lists, levels and marks. -/
structure State.PlaysOnly (s t : State) : Prop where
  rest : t = { s with stations := t.stations, link := t.link }
  link : s.link.SameButAgain t.link
  station : ∀ a, t.station a = { s.station a with urgent := (t.station a).urgent, level := (t.station a).level }

section
variable {s t u : State} {a : StationId} {n : CrossingId}

theorem Link.SameButAgain.frame {l m : Link} (h : l.SameButAgain m) : m.frame = l.frame := by
  obtain rfl | marked := h
  · rfl
  · split at marked
    · rw [marked]
    · exact marked.elim

theorem State.PlaysOnly.refl (s : State) : s.PlaysOnly s := ⟨rfl, .refl _, fun _ => rfl⟩

theorem State.PlaysOnly.trans (h : s.PlaysOnly t) (k : t.PlaysOnly u) : s.PlaysOnly u where
  rest := by
    conv_lhs => rw [k.rest]
    conv_lhs => rw [h.rest]
  link := h.link.trans k.link
  station a := by
    rw [k.station a, h.station a]

theorem State.PlaysOnly.crossings (h : s.PlaysOnly t) : t.crossings = s.crossings := by rw [h.rest]
theorem State.PlaysOnly.street (h : s.PlaysOnly t) : t.street = s.street := by rw [h.rest]
theorem State.PlaysOnly.limit (h : s.PlaysOnly t) : t.budgetLimit = s.budgetLimit := by rw [h.rest]
theorem State.PlaysOnly.tb (h : s.PlaysOnly t) : t.tb = s.tb := by rw [h.rest]
theorem State.PlaysOnly.patterns (h : s.PlaysOnly t) : t.patterns = s.patterns := by rw [h.rest]

theorem State.PlaysOnly.crossing (h : s.PlaysOnly t) (n : CrossingId) : t.crossing n = s.crossing n := by
  rw [h.rest]; rfl

/-- A PLAY's content does not depend on the urgent lists, the levels or the marks. -/
theorem State.PlaysOnly.playFor (h : s.PlaysOnly t) (a : StationId) (b : Binding) (st : IntervalState) :
    t.playFor a b st = s.playFor a b st := by
  have values := State.planValues_congr (n := b.crossing) (h.crossing _) h.patterns
  have mirror : (t.station a).mirror = (s.station a).mirror := by rw [h.station a]
  have level : t.targetLevel a = s.targetLevel a := by
    unfold State.targetLevel
    rw [h.station a, h.tb]
  have launch : t.launchFor b.crossing st = s.launchFor b.crossing st := by
    unfold State.launchFor
    rw [h.crossing, h.link.frame]
  unfold State.playFor
  rw [values, mirror, level, launch, h.crossing]

theorem State.queuePlayTo_playsOnly : s.PlaysOnly (s.queuePlayTo a) where
  rest := by
    have queued (v : State) (p : Urgent) : v.queueUrgent a p =
        { v with stations := (v.queueUrgent a p).stations, link := (v.queueUrgent a p).link } := by
      unfold State.queueUrgent
      split
      · have same := v.markAgain_eq a fun i => if p.isPlay then i.isPlay else i == .ack
        generalize (v.markAgain a fun i => if p.isPlay then i.isPlay else i == .ack).link = l at same
        rw [same]
        rfl
      · rfl
    unfold State.queuePlayTo
    split
    · rfl
    · exact (queued _ _).trans rfl
  link := s.queuePlayTo_link a
  station c := by
    rw [s.queuePlayTo_station a c]
    split
    next same =>
      subst same
      cases (s.station c).binding <;> rfl
    · rfl

/-- R136: the station after the PLAY of its crossing's state has been built and queued for it. -/
def State.playedStation (s : State) (a : StationId) : Station :=
  match (s.station a).binding with
  | none => s.station a
  | some b => (s.station a).played (s.playFor a b (s.crossing b.crossing).state)

/-- R136, R138: PLAYs to a list of stations reach each of them once. -/
theorem State.queuePlaysTo_station (l : List StationId) (s : State) (distinct : l.Nodup) :
    s.PlaysOnly (s.queuePlaysTo l)
      ∧ ∀ a, (s.queuePlaysTo l).station a = if a ∈ l then s.playedStation a else s.station a := by
  induction l generalizing s with
  | nil => exact ⟨.refl s, fun a => by simp [State.queuePlaysTo, Machine.forEach]⟩
  | cons c l ih =>
    obtain ⟨fresh, distinct⟩ := List.nodup_cons.mp distinct
    obtain ⟨only, stations⟩ := ih (s.queuePlayTo c) distinct
    have first := State.queuePlayTo_playsOnly (s := s) (a := c)
    refine ⟨first.trans only, fun a => (stations a).trans ?_⟩
    have own := s.queuePlayTo_station c a
    by_cases same : a = c
    · subst same
      rw [if_neg fresh, if_pos List.mem_cons_self, own, if_pos rfl]
      rfl
    · have beside : (s.queuePlayTo c).station a = s.station a := own.trans (if_neg same)
      have played : (s.queuePlayTo c).playedStation a = s.playedStation a := by
        unfold State.playedStation
        rw [beside]
        cases (s.station a).binding with
        | none => rfl
        | some b =>
          dsimp only
          rw [first.playFor, first.crossing]
      simp only [List.mem_cons, same, false_or, played, beside]

/-- R138: PLAYs to the OWNED stations of the approaches named. -/
theorem State.queuePlaysTo_queued {serves : CrossingId → Approach → Bool} (l : List StationId) (s : State) (distinct : l.Nodup)
    (mem : ∀ a, a ∈ l ↔ (s.station a).owner = .owned ∧ ∃ b, (s.station a).binding = some b ∧ serves b.crossing b.approach = true) :
    s.PlaysQueuedAt serves (s.queuePlaysTo l) := by
  obtain ⟨only, stations⟩ := s.queuePlaysTo_station l distinct
  intro a
  rw [stations a]
  have mem := mem a
  cases bound : (s.station a).binding with
  | none =>
    rw [if_neg fun inL => by
      obtain ⟨_, b, some, _⟩ := mem.mp inL
      exact absurd (bound.symm.trans some) nofun]
  | some b =>
    dsimp only
    by_cases named : (s.station a).owner = .owned ∧ serves b.crossing b.approach = true
    · rw [if_pos named, if_pos (mem.mpr ⟨named.1, b, bound, named.2⟩), State.playedStation, bound, only.playFor, only.crossing]
    · rw [if_neg named, if_neg fun inL => named ?_]
      obtain ⟨owned, b', some, serve⟩ := mem.mp inL
      obtain rfl : b = b' := Option.some.inj (bound.symm.trans some)
      exact ⟨owned, serve⟩

theorem State.queuePlaysTo_ownedAt (s : State) (n : CrossingId) :
    s.PlaysOnly (s.queuePlaysTo (s.ownedAt n)) ∧ s.PlaysQueued n (s.queuePlaysTo (s.ownedAt n)) := by
  have distinct := s.nodup_ownedAt n
  refine ⟨(s.queuePlaysTo_station _ distinct).1, State.queuePlaysTo_queued _ s distinct fun a => ?_⟩
  rw [State.mem_ownedAt, Station.atCrossing_iff]
  simp only [beq_iff_eq]

/-! ### A read that finds nothing (R27) -/

/-- R27: a read leaves a record that needs no repair as it is. -/
def PlanRead.Quiet (rd : PlanRead) : Prop := ∀ (n : CrossingId) (u : State), (u.crossing n).activeSound = true → rd n u = u

theorem quiet_checkActive : PlanRead.Quiet checkActive := checkActive_sound

theorem quiet_readActive : PlanRead.Quiet readActive := readActive_sound

theorem Crossing.activeSound_congr {c d : Crossing} (active : d.active = c.active) (mark : d.unusable = c.unusable) :
    d.activeSound = c.activeSound := by
  unfold Crossing.activeSound
  rw [active, mark]

theorem Crossing.activeSound_core {c d : Crossing} (h : d.core = c.core) : d.activeSound = c.activeSound := by
  have active := congrArg Crossing.active h
  have mark := congrArg Crossing.unusable h
  exact Crossing.activeSound_congr active mark

theorem State.queuePlays_quiet {rd : PlanRead} (quiet : rd.Quiet) (s : State) (n : CrossingId)
    (sound : (s.crossing n).activeSound = true) : s.queuePlays rd n = s.queuePlaysTo (s.ownedAt n) := by
  unfold State.queuePlays
  split
  next empty =>
    rw [List.isEmpty_iff.mp empty]
    rfl
  · dsimp only
    rw [quiet n s sound, if_pos rfl]

/-! ### Steps of one crossing -/

theorem State.Beside.refl (s : State) : s.Beside s := ⟨rfl, rfl, .refl _, rfl, rfl, rfl, rfl, rfl, rfl⟩

theorem State.Beside.trans (h : s.Beside t) (k : t.Beside u) : s.Beside u := by
  obtain ⟨tb, configured, link, patterns, enabled, clips, startUp, draws, pending⟩ := h
  obtain ⟨tb', configured', link', patterns', enabled', clips', startUp', draws', pending'⟩ := k
  exact ⟨tb'.trans tb, configured'.trans configured, link.trans link', patterns'.trans patterns, enabled'.trans enabled,
    clips'.trans clips, startUp'.trans startUp, draws'.trans draws, pending'.trans pending⟩

theorem State.PlaysOnly.beside (h : s.PlaysOnly t) : s.Beside t := by
  rw [h.rest]
  exact ⟨rfl, rfl, h.link, rfl, rfl, rfl, rfl, rfl, rfl⟩

theorem Crossing.SameButApplied.refl (c : Crossing) : c.SameButApplied c := rfl

theorem Crossing.SameButApplied.trans {c d e : Crossing} (h : c.SameButApplied d) (k : d.SameButApplied e) :
    c.SameButApplied e := by
  have again := congrArg (fun x : Crossing => { x with
    walkLamp := { x.walkLamp with applied := c.walkLamp.applied }
    dontLamp := { x.dontLamp with applied := c.dontLamp.applied } }) k
  exact again.trans h

theorem State.BesideCrossing.trans (h : State.BesideCrossing n s t) (k : State.BesideCrossing n t u) :
    State.BesideCrossing n s u :=
  ⟨h.1.trans k.1, fun m other => (h.2 m other).trans (k.2 m other)⟩

theorem State.modCrossing_besideCrossing (s : State) (n : CrossingId) (f : Crossing → Crossing) :
    State.BesideCrossing n s (s.modCrossing n f) := by
  refine ⟨⟨rfl, rfl, .refl _, rfl, rfl, rfl, rfl, rfl, rfl⟩, fun m other => ?_⟩
  rw [State.modCrossing_crossing, if_neg other]
  exact .refl _

theorem State.PlaysOnly.besideCrossing (h : s.PlaysOnly t) (n : CrossingId) : State.BesideCrossing n s t :=
  ⟨h.beside, fun m _ => by rw [h.crossing]; exact .refl _⟩

/-- R83: crossing n takes an interval state and its heads follow. -/
theorem State.becomes_headsUpToDate (s : State) (n : CrossingId) (f : Crossing → Crossing)
    (same : (s.crossing n).SameChannels (f (s.crossing n))) :
    s.Becomes n (f (s.crossing n)) ((s.modCrossing n f).headsUpToDate n) := by
  have at_n : (s.modCrossing n f).crossing n = f (s.crossing n) := (s.modCrossing_crossing n n f).trans (if_pos rfl)
  refine ⟨?_, ⟨State.headsUpToDate_lampsFollow _ n, fun x => ?_⟩, State.headsUpToDate_budgetLaw _ n,
    (s.modCrossing_besideCrossing n f).trans ⟨⟨rfl, rfl, .refl _, rfl, rfl, rfl, rfl, rfl, rfl⟩, fun m other =>
      State.headsUpToDate_other _ n other⟩⟩
  · rw [State.headsUpToDate_core, at_n]
  · have switched := State.headsUpToDate_switched (s.modCrossing n f) n x
    rw [State.channel, at_n, same.channel] at switched
    exact switched

theorem State.BudgetLaw.playsOnly (h : s.BudgetLaw) (k : s.PlaysOnly t) : t.BudgetLaw :=
  h.congr k.limit fun n x => by
    change ((s.crossing n).channel x).SameBudget ((t.crossing n).channel x)
    rw [k.crossing]
    exact .refl _

theorem State.Becomes.playsOnly {c : Crossing} (h : s.Becomes n c t) (k : t.PlaysOnly u) : s.Becomes n c u := by
  obtain ⟨core, heads, budget, beside⟩ := h
  refine ⟨?_, ?_, budget.playsOnly k, beside.trans (k.besideCrossing n)⟩
  · rw [k.crossing, core]
  · rw [k.crossing]
    exact heads

theorem State.Becomes.recore {c d : Crossing} (h : s.Becomes n c t) (core : d.core = c.core) : s.Becomes n d t :=
  ⟨h.1.trans core.symm, h.2⟩

/-- A change of crossing n beside its channels, before it takes its state. -/
theorem State.Becomes.of_modCrossing {c : Crossing} {g : Crossing → Crossing} (h : (s.modCrossing n g).Becomes n c t)
    (same : (s.crossing n).SameChannels (g (s.crossing n))) : s.Becomes n c t := by
  obtain ⟨core, ⟨follow, switched⟩, budget, beside⟩ := h
  refine ⟨core, ⟨follow, fun x => ?_⟩, budget, (s.modCrossing_besideCrossing n g).trans beside⟩
  have now := switched x
  rw [State.modCrossing_crossing, if_pos rfl, same.channel] at now
  exact now

/-- A change of crossing n beside its channels and its state, after it has taken its state. -/
theorem State.Becomes.modCrossing {c : Crossing} {f : Crossing → Crossing} (h : s.Becomes n c t)
    (lamps : ∀ x : Crossing, x.SameLamps (f x)) (core : ∀ x y : Crossing, x.core = y.core → (f x).core = (f y).core) :
    s.Becomes n (f c) (t.modCrossing n f) := by
  obtain ⟨same, ⟨follow, switched⟩, budget, beside⟩ := h
  have at_n : (t.modCrossing n f).crossing n = f (t.crossing n) := (t.modCrossing_crossing n n f).trans (if_pos rfl)
  refine ⟨?_, ⟨?_, fun x => ?_⟩, budget.congr rfl fun m x => ?_, beside.trans (t.modCrossing_besideCrossing n f)⟩
  · rw [at_n]
    exact core _ _ same
  · rw [at_n]
    exact (lamps _).lampsFollow follow
  · rw [at_n, (lamps _).channel]
    exact switched x
  · change ((t.crossing m).channel x).SameBudget (((t.modCrossing n f).crossing m).channel x)
    rw [State.modCrossing_crossing]
    split
    next e => subst e; rw [(lamps _).channel]; exact .refl _
    · exact .refl _

/-- An operation of crossing n that ends in a new interval state: what the crossing becomes, its stations' PLAYs, and the
notices. -/
structure State.Moved (n : CrossingId) (c : Crossing) (told : Street) (s t : State) : Prop where
  becomes : s.Becomes n c t
  plays : s.PlaysQueued n t
  street : t.street = told

/-- An operation of crossing n that changes no interval state: what the crossing becomes, and the notices. -/
structure State.Changed (n : CrossingId) (c : Crossing) (told : Street) (s t : State) : Prop where
  only : s.Only n c t
  stations : t.stations = s.stations
  street : t.street = told

theorem State.modCrossing_only (s : State) (n : CrossingId) (f : Crossing → Crossing) :
    s.Only n (f (s.crossing n)) (s.modCrossing n f) :=
  ⟨(s.modCrossing_crossing n n f).trans (if_pos rfl), fun m other => (s.modCrossing_crossing n m f).trans (if_neg other), rfl,
    ⟨rfl, rfl, .refl _, rfl, rfl, rfl, rfl, rfl, rfl⟩⟩

theorem State.modCrossing_changed (s : State) (n : CrossingId) (f : Crossing → Crossing) :
    State.Changed n (f (s.crossing n)) s.street s (s.modCrossing n f) := ⟨s.modCrossing_only n f, rfl, rfl⟩

theorem State.modCrossing_self (s : State) (n : CrossingId) (f : Crossing → Crossing) :
    (s.modCrossing n f).crossing n = f (s.crossing n) := (s.modCrossing_crossing n n f).trans (if_pos rfl)

/-- A change of crossing n beside its channels comes before the move. -/
theorem State.Moved.of_modCrossing {c : Crossing} {told : Street} {g : Crossing → Crossing}
    (h : State.Moved n c told (s.modCrossing n g) t) (same : (s.crossing n).SameChannels (g (s.crossing n))) :
    State.Moved n c told s t := ⟨h.becomes.of_modCrossing same, h.plays, h.street⟩

theorem State.Moved.recore {c d : Crossing} {told : Street} (h : State.Moved n c told s t) (core : d.core = c.core) :
    State.Moved n d told s t := ⟨h.becomes.recore core, h.plays, h.street⟩

/-- What a step makes of a crossing does not depend on the notices before it. -/
theorem State.Moved.of_street {c : Crossing} {told x : Street} (h : State.Moved n c told { s with street := x } t) :
    State.Moved n c told s t := ⟨h.becomes, h.plays, h.street⟩

theorem State.Changed.of_street {c : Crossing} {told x : Street} (h : State.Changed n c told { s with street := x } t) :
    State.Changed n c told s t := ⟨h.only, h.stations, h.street⟩

theorem State.Changed.of_modCrossing {c : Crossing} {told : Street} {g : Crossing → Crossing}
    (h : State.Changed n c told (s.modCrossing n g) t) : State.Changed n c told s t := by
  obtain ⟨⟨own, others, limit, beside⟩, stations, street⟩ := h
  exact ⟨⟨own, fun m other => (others m other).trans ((s.modCrossing_crossing n m g).trans (if_neg other)), limit, beside⟩,
    stations, street⟩

theorem State.Changed.told {c : Crossing} {told x : Street} (h : State.Changed n c told s t) :
    State.Changed n c x s { t with street := x } := ⟨h.only, h.stations, rfl⟩

/-! ### Entries (R65, R77, R78, R85) -/

variable {rd : PlanRead}

/-- R138: the PLAYs of a crossing's new state. -/
theorem State.Becomes.queuePlays {c : Crossing} (quiet : rd.Quiet) (h : s.Becomes n c t) (sound : c.activeSound = true)
    (stations : t.stations = s.stations) : State.Moved n c t.street s (t.queuePlays rd n) := by
  rw [State.queuePlays_quiet quiet t n ((Crossing.activeSound_core h.1).trans sound)]
  obtain ⟨only, plays⟩ := t.queuePlaysTo_ownedAt n
  refine ⟨h.playsOnly only, fun a => ?_, only.street⟩
  have now := plays a
  have same : t.station a = s.station a := by
    unfold State.station
    rw [stations]
  rw [same] at now
  exact now

/-- R78: the interval state changes. -/
theorem State.enter_moved (quiet : rd.Quiet) (s : State) (n : CrossingId) (st : IntervalState)
    (sound : (s.crossing n).activeSound = true) :
    State.Moved n { s.crossing n with state := st, countdown := none, countdownOn := false } s.street s (s.enter rd n st) :=
  (s.becomes_headsUpToDate n (fun c => { c with state := st, countdown := none, countdownOn := false }) ⟨rfl, rfl⟩).queuePlays
    quiet sound rfl

/-- R77, R78: entry into a waiting state. -/
theorem State.enterWaiting_moved (quiet : rd.Quiet) (s : State) (n : CrossingId) (st : IntervalState)
    (sound : (s.crossing n).activeSound = true) :
    State.Moved n ((s.crossing n).entered st) s.street s (s.enterWaiting rd n st) := by
  unfold State.enterWaiting Crossing.entered
  by_cases dark : st = .dark
  · subst dark
    simp only [if_true]
    have at_n := s.modCrossing_self n Crossing.darkened
    have moved := (s.modCrossing n Crossing.darkened).enter_moved quiet n .dark
      ((Crossing.activeSound_congr (by rw [at_n]; rfl) (by rw [at_n]; rfl)).trans sound)
    rw [at_n] at moved
    exact (moved.of_modCrossing ⟨rfl, rfl⟩).recore rfl
  · rw [if_neg dark, if_neg dark]
    exact s.enter_moved quiet n st sound

theorem countdownFor_shown (on : Bool) (remaining : Nat) : countdownFor on remaining = countdownShown on remaining := by
  unfold countdownFor countdownShown capped ceilDiv
  rw [show remaining + 10 - 1 = remaining + 9 from rfl]

theorem State.planValues_of {s t : State} {n : CrossingId} (active : (t.crossing n).active = (s.crossing n).active)
    (mark : (t.crossing n).unusable = (s.crossing n).unusable) (patterns : t.patterns = s.patterns) :
    t.planValues n = s.planValues n := by
  unfold State.planValues State.fallbackPattern State.patternOf Crossing.usablePlan
  rw [active, mark, patterns]

theorem State.planValues_core {s t : State} {n : CrossingId} (core : (t.crossing n).core = (s.crossing n).core)
    (patterns : t.patterns = s.patterns) : t.planValues n = s.planValues n := by
  have active := congrArg Crossing.active core
  have mark := congrArg Crossing.unusable core
  exact State.planValues_of active mark patterns

/-- R65, R85: crossing n on entry into CLEARANCE, whether or not it has a walk record. -/
def Crossing.clearing (c : Crossing) (on : Bool) : Crossing :=
  { c with
    state := .clearance
    walk := c.walk.map fun w => { w with count := w.clearance }
    countdownOn := on
    countdown := countdownFor on (((c.walk.map fun w => { w with count := w.clearance }).map Walk.count).getD 0) }

theorem Crossing.clearing_some {c : Crossing} {w : Walk} (walk : c.walk = some w) (on : Bool) : c.clearing on = c.cleared w on := by
  rw [Crossing.clearing, walk, Crossing.cleared, ← countdownFor_shown]
  rfl

theorem State.enterClearance_enters (quiet : rd.Quiet) (s : State) (n : CrossingId) (sound : (s.crossing n).activeSound = true) :
    State.Moved n ((s.crossing n).clearing (s.planValues n).countdown) s.street s (s.enterClearance rd n) := by
  have first := s.becomes_headsUpToDate n (fun c => { c with
    state := .clearance, walk := c.walk.map fun w => { w with count := w.clearance } }) ⟨rfl, rfl⟩
  unfold State.enterClearance
  dsimp only at first ⊢
  rw [quiet n _ ((Crossing.activeSound_core first.1).trans sound)]
  have values := State.planValues_core (s := s.modCrossing n fun c => { c with
    state := .clearance, walk := c.walk.map fun w => { w with count := w.clearance } })
    (State.headsUpToDate_core _ n n) rfl
  have same : (s.modCrossing n fun c => { c with
      state := .clearance, walk := c.walk.map fun w => { w with count := w.clearance } }).planValues n = s.planValues n :=
    State.planValues_of (by rw [s.modCrossing_self]) (by rw [s.modCrossing_self]) rfl
  rw [values, same]
  have shown := first.modCrossing (f := fun c : Crossing => { c with
    countdownOn := (s.planValues n).countdown
    countdown := countdownFor (s.planValues n).countdown ((c.walk.map Walk.count).getD 0) })
    (fun x => ⟨⟨rfl, rfl⟩, rfl⟩) (fun x y same => by
      have walks := congrArg Crossing.walk same
      change x.walk = y.walk at walks
      change ({ x.core with countdownOn := _, countdown := countdownFor _ ((x.walk.map Walk.count).getD 0) } : Crossing) = _
      rw [same, walks]
      rfl)
  exact shown.queuePlays quiet sound rfl

/-- R65, R85: entry into CLEARANCE. -/
theorem State.enterClearance_moved (quiet : rd.Quiet) (s : State) (n : CrossingId) {w : Walk}
    (walk : (s.crossing n).walk = some w) (sound : (s.crossing n).activeSound = true) :
    State.Moved n ((s.crossing n).cleared w (s.planValues n).countdown) s.street s (s.enterClearance rd n) :=
  Crossing.clearing_some walk _ ▸ s.enterClearance_enters quiet n sound

/-- R46, R63: a crossing whose commit is cancelled, before it enters its target. -/
def Crossing.uncommitted (c : Crossing) : Crossing := { c.restored with served := false, walk := none }

theorem Crossing.uncommitted_some {c : Crossing} {w : Walk} (walk : c.walk = some w) : c.uncommitted = { c with
    placeA := restoredCall w.consumedA c.placeA, placeB := restoredCall w.consumedB c.placeB, served := false, walk := none } := by
  unfold Crossing.uncommitted Crossing.restored
  simp only [walk]

theorem Crossing.uncommitted_same (c : Crossing) : c.SameChannels c.uncommitted ∧ c.uncommitted.activeSound = c.activeSound := by
  unfold Crossing.uncommitted Crossing.restored
  split <;> exact ⟨⟨rfl, rfl⟩, rfl⟩

/-- R46, R63: a commit is cancelled, into the target of its record or the settled state. -/
theorem State.cancel_enters (quiet : rd.Quiet) (s : State) (n : CrossingId) (sound : (s.crossing n).activeSound = true) :
    State.Moved n ((s.crossing n).uncommitted.entered (match (s.crossing n).walk with
      | some w => w.target
      | none => (s.crossing n).settled)) s.street s (s.cancel rd n) := by
  obtain ⟨channels, same⟩ := (s.crossing n).uncommitted_same
  have at_n := s.modCrossing_self n Crossing.uncommitted
  have moved := (s.modCrossing n Crossing.uncommitted).enterWaiting_moved quiet n (match (s.crossing n).walk with
      | some w => w.target
      | none => (s.crossing n).settled) ((congrArg Crossing.activeSound at_n).trans (same.trans sound))
  rw [at_n] at moved
  exact moved.of_modCrossing channels

theorem State.cancel_moved (quiet : rd.Quiet) (s : State) (n : CrossingId) {w : Walk} (walk : (s.crossing n).walk = some w)
    (sound : (s.crossing n).activeSound = true) :
    State.Moved n ((s.crossing n).cancelled w w.target) s.street s (s.cancel rd n) := by
  have moved := s.cancel_enters quiet n sound
  rw [walk, Crossing.uncommitted_some walk] at moved
  exact moved

/-! ### Truncations and causes (R67, R72 to R74) -/

/-- R67: crossing n once its walk's truncation is written. -/
def Crossing.noted (c : Crossing) (s : State) (x : TruncationCause) : Crossing := c.modWalk (s.truncated · x)

/-- R67: a walk is truncated, with these notices by the time CLEARANCE is entered. -/
theorem State.noted_enters (quiet : rd.Quiet) (s : State) (n : CrossingId) (x : TruncationCause) (told : Street)
    (sound : (s.crossing n).activeSound = true) :
    State.Moved n (((s.crossing n).noted s x).clearing (s.planValues n).countdown) told s
      (State.enterClearance rd { s.noteTruncation n x with street := told } n) := by
  have at_n : State.crossing { s.noteTruncation n x with street := told } n = (s.crossing n).noted s x :=
    s.modCrossing_self n (Crossing.noted · s x)
  have moved := State.enterClearance_enters quiet { s.noteTruncation n x with street := told } n
    ((congrArg Crossing.activeSound at_n).trans sound)
  have values : State.planValues { s.noteTruncation n x with street := told } n = s.planValues n :=
    State.planValues_of (by rw [at_n]; rfl) (by rw [at_n]; rfl) rfl
  rw [at_n, values] at moved
  have before : State.Moved n _ told (s.modCrossing n (Crossing.noted · s x)) _ :=
    ⟨moved.becomes, moved.plays, moved.street⟩
  exact before.of_modCrossing ⟨rfl, rfl⟩

theorem State.noted_moved (quiet : rd.Quiet) (s : State) (n : CrossingId) (x : TruncationCause) (told : Street) {w : Walk}
    (walk : (s.crossing n).walk = some w) (sound : (s.crossing n).activeSound = true) :
    State.Moved n ((s.crossing n).cleared (s.truncated w x) (s.planValues n).countdown) told s
      (State.enterClearance rd { s.noteTruncation n x with street := told } n) := by
  have moved := s.noted_enters quiet n x told sound
  have noted : (s.crossing n).noted s x = { s.crossing n with walk := some (s.truncated w x) } := by
    rw [Crossing.noted, Crossing.modWalk, walk]
    rfl
  rw [noted, Crossing.clearing_some rfl] at moved
  exact moved

theorem State.truncate_moved (quiet : rd.Quiet) (s : State) (n : CrossingId) (x : TruncationCause) {w : Walk}
    (walk : (s.crossing n).walk = some w) (sound : (s.crossing n).activeSound = true) :
    State.Moved n ((s.crossing n).cleared (s.truncated w x) (s.planValues n).countdown) (s.street.queued (.truncate n x)) s
      (s.truncate rd n x) :=
  s.noted_moved quiet n x (s.street.queued (.truncate n x)) walk sound

/-- R52, R72: crossing n after a cause has joined its set and its walk's target has followed. -/
def Crossing.caused (c : Crossing) (x : Cause) : Crossing := { c with causes := c.causes.add x }.retargeted

theorem addCauseWith_fresh (n : CrossingId) (x : Cause) (s : State) (fresh : (s.crossing n).causes.has x = false) :
    addCauseWith rd n x s =
      let s := s.modCrossing n (Crossing.caused · x)
      match (s.crossing n).state with
      | .dark | .fault => s.notifyFault n
      | .rest | .hold => (s.notifyFault n).enterWaiting rd n .fault
      | .starting => (s.notifyFault n).cancel rd n
      | .walk =>
        match x.truncates with
        | some t => ((s.noteTruncation n t).notifyFault n).enterClearance rd n
        | none => s.notifyFault n
      | .clearance | .buffer =>
        if x = .dontLamp then
          ((s.notifyFault n).modCrossing n fun c => { c with walk := none }).enterWaiting rd n .fault
        else s.notifyFault n :=
  if_neg (ne_true_of_eq_false fresh)

/-- R72 to R74: what a new cause makes of its crossing, by its interval state. -/
theorem addCauseWith_acts (quiet : rd.Quiet) (n : CrossingId) (x : Cause) (s : State)
    (fresh : (s.crossing n).causes.has x = false) (sound : (s.crossing n).activeSound = true) :
    let c := (s.crossing n).caused x
    let t := addCauseWith rd n x s
    let told := s.street.queued (.fault n c.causes)
    ((c.state = .dark ∨ c.state = .fault) → State.Changed n c told s t)
    ∧ ((c.state = .rest ∨ c.state = .hold) → State.Moved n (c.entered .fault) told s t)
    ∧ (∀ w, (s.crossing n).walk = some w → c.state = .starting → State.Moved n (c.cancelled w c.settled) told s t)
    ∧ (∀ w cause, (s.crossing n).walk = some w → c.state = .walk → x.truncates = some cause →
        State.Moved n (c.cleared { s.truncated w cause with target := c.settled } (s.planValues n).countdown)
          ((s.street.queued (.truncate n cause)).queued (.fault n c.causes)) s t)
    ∧ (c.state = .starting → ∃ d, State.Moved n d told s t)
    ∧ (∀ cause, c.state = .walk → x.truncates = some cause →
        ∃ d, State.Moved n d ((s.street.queued (.truncate n cause)).queued (.fault n c.causes)) s t)
    ∧ ((c.state = .clearance ∨ c.state = .buffer) → x ≠ .dontLamp → State.Changed n c told s t)
    ∧ ((c.state = .clearance ∨ c.state = .buffer) → x = .dontLamp →
        State.Moved n ({ c with walk := none }.entered .fault) told s t) := by
  intro c t told
  have acts : t = _ := addCauseWith_fresh n x s fresh
  have at_n : (s.modCrossing n (Crossing.caused · x)).crossing n = c := s.modCrossing_self n _
  have lamps : (s.crossing n).SameChannels c := ⟨rfl, rfl⟩
  have moved {told : Street} {d : Crossing} {v : State}
      (h : State.Moved n d told (s.modCrossing n (Crossing.caused · x)) v) : State.Moved n d told s v := h.of_modCrossing lamps
  have changed := s.modCrossing_changed n (Crossing.caused · x)
  have values : (s.modCrossing n (Crossing.caused · x)).planValues n = s.planValues n :=
    State.planValues_of (by rw [at_n]; rfl) (by rw [at_n]; rfl) rfl
  have tells : (s.modCrossing n (Crossing.caused · x)).notifyFault n =
      { s.modCrossing n (Crossing.caused · x) with street := told } := by
    change State.notify _ _ = _
    rw [at_n]
    rfl
  have sound' : c.activeSound = true := sound
  have truncated (w : Walk) (cause : TruncationCause) :
      (s.modCrossing n (Crossing.caused · x)).truncated w cause = s.truncated w cause := rfl
  have noted (cause : TruncationCause) : ((s.modCrossing n (Crossing.caused · x)).noteTruncation n cause).notifyFault n =
      { (s.modCrossing n (Crossing.caused · x)).noteTruncation n cause with
        street := (s.street.queued (.truncate n cause)).queued (.fault n c.causes) } := by
    have causes : (((s.modCrossing n (Crossing.caused · x)).noteTruncation n cause).crossing n).causes = c.causes := by
      have noted := State.modCrossing_self (s.modCrossing n (Crossing.caused · x)) n fun d => d.modWalk fun w =>
        { w with truncation := some cause, release := (s.tb.pos + w.clearance + w.buffer) % s.tb.cycle }
      rw [at_n] at noted
      have same := congrArg Crossing.causes noted
      exact same
    change State.notify _ _ = _
    rw [causes]
    rfl
  dsimp only at acts changed
  generalize s.modCrossing n (Crossing.caused · x) = u at *
  rw [at_n, tells] at acts
  refine ⟨?_, ?_, fun w walk st => ?_, fun w cause walk st truncates => ?_, fun st => ?_, fun cause st truncates => ?_,
    fun st other => ?_, fun st dont => ?_⟩
  · rintro (st | st) <;> rw [st] at acts <;> rw [acts] <;> exact changed.told
  · have entered := (State.enterWaiting_moved quiet { u with street := told } n .fault (at_n ▸ sound')).of_street
    rw [show State.crossing { u with street := told } n = c from at_n] at entered
    rintro (st | st) <;> rw [st] at acts <;> rw [acts] <;> exact moved entered
  · rw [st] at acts
    rw [acts]
    have walk' : (State.crossing { u with street := told } n).walk = some { w with target := c.settled } := by
      rw [show State.crossing { u with street := told } n = c from at_n]
      exact congrArg (Option.map _) walk
    have cancelled := (State.cancel_moved quiet { u with street := told } n walk' (at_n ▸ sound')).of_street
    rw [show State.crossing { u with street := told } n = c from at_n] at cancelled
    exact moved cancelled
  · rw [st] at acts
    dsimp only at acts
    rw [truncates] at acts
    dsimp only at acts
    rw [acts, noted]
    have walk' : (u.crossing n).walk = some { w with target := c.settled } := by
      rw [at_n]
      exact congrArg (Option.map _) walk
    have cleared := u.noted_moved quiet n cause ((s.street.queued (.truncate n cause)).queued (.fault n c.causes)) walk'
      (at_n ▸ sound')
    rw [at_n, values, truncated] at cleared
    exact moved cleared
  · rw [st] at acts
    rw [acts]
    exact ⟨_, moved (State.cancel_enters quiet { u with street := told } n (at_n ▸ sound')).of_street⟩
  · rw [st] at acts
    dsimp only at acts
    rw [truncates] at acts
    dsimp only at acts
    rw [acts, noted]
    exact ⟨_, moved (u.noted_enters quiet n cause _ (at_n ▸ sound'))⟩
  · obtain st | st := st <;> rw [st] at acts <;> dsimp only at acts <;> rw [if_neg other] at acts <;> rw [acts] <;>
      exact changed.told
  · have entered := State.enterWaiting_moved quiet (State.modCrossing { u with street := told } n fun c => { c with walk := none })
      n .fault (by rw [State.modCrossing_self]; exact (congrArg Crossing.activeSound at_n).trans sound')
    rw [State.modCrossing_self, show State.crossing { u with street := told } n = c from at_n] at entered
    obtain st | st := st <;> rw [st] at acts <;> dsimp only at acts <;> rw [if_pos dont] at acts <;> rw [acts] <;>
      exact moved (entered.of_modCrossing ⟨rfl, rfl⟩).of_street

end

end Sys2Proof.Machine
end

section
/-! SUPPORT. The crossing's tick (R55): the counts and the ends of intervals (O25, O26), the window and the start (O24). -/

namespace Sys2Proof.Machine

section
variable {s t u : State} {n : CrossingId}

theorem State.setCrossing_eq (s : State) (n : CrossingId) (c : Crossing) : s.setCrossing n c = s.modCrossing n fun _ => c := rfl

theorem State.modCrossing_setCrossing (s : State) (n : CrossingId) (f : Crossing → Crossing) :
    s.modCrossing n f = s.setCrossing n (f (s.crossing n)) := rfl

theorem State.setCrossing_self (s : State) (n : CrossingId) : s.setCrossing n (s.crossing n) = s := by
  have same : (s.setCrossing n (s.crossing n)).crossings = s.crossings := State.crossings_ext fun m => by
    rw [State.setCrossing_eq, State.modCrossing_crossing]
    split
    next e => rw [e]
    · rfl
  obtain ⟨⟩ := s
  exact congrArg (State.mk _ · _ _ _ _ _ _ _ _ _ _ _) same

theorem State.modCrossing_modCrossing (s : State) (n : CrossingId) (f g : Crossing → Crossing) :
    (s.modCrossing n f).modCrossing n g = s.modCrossing n fun c => g (f c) := by
  rw [State.modCrossing_setCrossing, State.modCrossing_self]
  exact congrArg (fun v => { s with crossings := v }) (Vector.set_set ..)

theorem State.enterWaiting_moved_of {c : Crossing} (s : State) (n : CrossingId) (st : IntervalState) (at_n : s.crossing n = c)
    (sound : c.activeSound = true) :
    State.Moved n (c.entered st) s.street s (s.enterWaiting checkActive n st) := by
  subst at_n
  exact s.enterWaiting_moved quiet_checkActive n st sound

/-- R55, log 1: an interval's end by its command is the end stage 1 of a tick makes. -/
theorem Crossing.runsOut_of {c : Crossing} {st : IntervalState} {w : Walk} (state : c.state = st) (walk : c.walk = some w)
    (count : w.count ≤ 1) : c.runsOut st = true := by
  simp [Crossing.runsOut, state, walk, count]

/-- R62: the lead's end. -/
theorem State.lightWalk_becomes (s : State) (n : CrossingId) {w : Walk} (walk : (s.crossing n).walk = some w) :
    let release := (s.tb.pos + w.walkLength + w.clearance + w.buffer) % s.tb.cycle
    s.Becomes n { s.crossing n with
        state := .walk, walk := some { w with count := w.walkLength, lampStart := s.tb.pos, release := release } } (s.lightWalk n)
      ∧ (s.lightWalk n).stations = s.stations
      ∧ (s.lightWalk n).street = s.street.queued (.walk n s.tb.pos w.walkLength w.clearance w.buffer release) := by
  intro release
  have lit : s.lightWalk n = (((s.modCrossing n fun c => { c with
      state := .walk, walk := some { w with count := w.walkLength, lampStart := s.tb.pos, release := release } }).headsUpToDate
        n).notify (.walk n s.tb.pos w.walkLength w.clearance w.buffer release)) := by
    simp only [State.lightWalk, walk]
    rfl
  rw [lit]
  exact ⟨s.becomes_headsUpToDate n (fun c => { c with
    state := .walk, walk := some { w with count := w.walkLength, lampStart := s.tb.pos, release := release } }) ⟨rfl, rfl⟩,
    rfl, rfl⟩

/-- R69: the release of a walk. -/
theorem State.releaseWalk_moved (s : State) (n : CrossingId) {w : Walk} (walk : (s.crossing n).walk = some w)
    (sound : (s.crossing n).activeSound = true) :
    State.Moved n ({ s.crossing n with walk := none }.entered w.target)
      (if w.target = .fault then (s.street.queued (.release n)).queued (.fault n (s.crossing n).causes)
        else s.street.queued (.release n)) s (s.releaseWalk n) := by
  have at_n := s.modCrossing_self n fun c => { c with walk := none }
  have released : s.releaseWalk n = State.enterWaiting checkActive
      { s.modCrossing n fun c => { c with walk := none } with
        street := if w.target = .fault then (s.street.queued (.release n)).queued (.fault n (s.crossing n).causes)
          else s.street.queued (.release n) } n w.target := by
    have causes : (State.crossing ((s.notify (.release n)).modCrossing n fun c => { c with walk := none }) n).causes =
        (s.crossing n).causes := by
      rw [State.modCrossing_self]
      rfl
    simp only [State.releaseWalk, walk]
    by_cases fault : w.target = .fault
    · simp only [fault, if_true, State.notifyFault, causes]
      rfl
    · simp only [fault, if_false]
      rfl
  rw [released]
  have moved := State.enterWaiting_moved_of { s.modCrossing n fun c => { c with walk := none } with
    street := if w.target = .fault then (s.street.queued (.release n)).queued (.fault n (s.crossing n).causes)
      else s.street.queued (.release n) } n w.target at_n sound
  exact moved.of_street.of_modCrossing ⟨rfl, rfl⟩

/-- Settles O25. -/
theorem leadAndWalkEnd : Obligations.LeadAndWalkEnd := by
  unfold Obligations.LeadAndWalkEnd
  refine ⟨fun s n w walk more walks => ?_, fun s n w walk out => ⟨fun st => ?_, fun st sound => ?_⟩⟩
  · have stays : ¬ w.count ≤ 1 := by omega
    by_cases clearing : (s.crossing n).state = .clearance
    · rw [if_pos clearing]
      simp only [State.countStage, walk, clearing, stays, if_false, State.modCrossing_modCrossing, countdownFor_shown]
      refine congrArg (s.setCrossing n) ?_
      rw [← clearing]
    · rw [if_neg clearing]
      have counted : s.countStage n = s.modCrossing n fun c => { c with walk := some { w with count := w.count - 1 } } := by
        cases st : (s.crossing n).state with
        | clearance => exact absurd st clearing
        | starting | walk | buffer => simp only [State.countStage, walk, st, stays, if_false]
        | dark | rest | hold | fault => rw [st] at walks; exact absurd walks (by decide)
      exact counted
  · obtain ⟨becomes, stations, street⟩ := s.lightWalk_becomes n walk
    refine ⟨s.lightWalk n, congrArg Host.Outcome.next (if_pos (Crossing.runsOut_of st walk out)), ?_, becomes, stations, street⟩
    simp only [State.countStage, walk, st, out, if_true]
  · have moved := s.enterClearance_moved quiet_checkActive n walk ((Crossing.sound_iff _).mp sound).1
    refine ⟨s.endWalk n, congrArg Host.Outcome.next (if_pos (Crossing.runsOut_of st walk out)), ?_, moved.becomes, moved.plays,
      moved.street⟩
    simp only [State.countStage, walk, st, out, if_true]

/-- Settles O26. -/
theorem clearanceAndBufferEnd : Obligations.ClearanceAndBufferEnd := by
  unfold Obligations.ClearanceAndBufferEnd
  intro s n w walk out sound waits released
  have sound := ((Crossing.sound_iff _).mp sound).1
  have moved := s.releaseWalk_moved n walk sound
  refine ⟨fun st more => ?_, fun st empty => ?_, fun st => ?_⟩
  · have ends : s.endClearance n =
        (s.modCrossing n fun c => { c with walk := some { w with count := w.buffer } }).enter checkActive n .buffer := by
      simp only [State.endClearance, walk, if_neg more]
    have at_n := s.modCrossing_self n fun c => { c with walk := some { w with count := w.buffer } }
    have entered := State.enter_moved quiet_checkActive (s.modCrossing n fun c => { c with walk := some { w with count := w.buffer } })
      n .buffer ((congrArg Crossing.activeSound at_n).trans sound)
    rw [at_n, ← ends] at entered
    have moved := entered.of_modCrossing ⟨rfl, rfl⟩
    refine ⟨s.endClearance n, congrArg Host.Outcome.next (if_pos (Crossing.runsOut_of st walk out)), ?_, moved.becomes,
      moved.plays, moved.street⟩
    simp only [State.countStage, walk, st, out, if_true]
  · have ends : s.endClearance n = s.releaseWalk n := by
      simp only [State.endClearance, walk, if_pos empty]
    refine ⟨s.releaseWalk n, ?_, ?_, moved.becomes, moved.plays, moved.street⟩
    · rw [← ends]
      exact congrArg Host.Outcome.next (if_pos (Crossing.runsOut_of st walk out))
    · simp only [State.countStage, walk, st, out, if_true, ends]
  · refine ⟨s.releaseWalk n, congrArg Host.Outcome.next (if_pos (Crossing.runsOut_of st walk out)), ?_, moved.becomes,
      moved.plays, moved.street⟩
    simp only [State.countStage, walk, st, out, if_true]

/-! ### The window and the start (R48, R56, R58 to R61) -/

theorem Crossing.windowed_same (c : Crossing) : c.windowed c.inWindow = c := by
  unfold Crossing.windowed
  rw [Bool.or_not_self, Bool.and_true]

/-- R56: the evaluation of the window. -/
theorem State.evaluateWindow_eq (s : State) (n : CrossingId) : s.evaluateWindow n =
    { s.setCrossing n ((s.crossing n).windowed (s.positionInWindow n)) with
      street := s.street.windowTold n (s.crossing n) (s.positionInWindow n) (s.hasDemand n) } := by
  have stays (same : s.positionInWindow n = (s.crossing n).inWindow) :
      s = { s.setCrossing n ((s.crossing n).windowed (s.positionInWindow n)) with
        street := s.street.windowTold n (s.crossing n) (s.positionInWindow n) (s.hasDemand n) } := by
    have quiet : s.street.windowTold n (s.crossing n) (s.positionInWindow n) (s.hasDemand n) = s.street := by
      unfold Street.windowTold
      rw [same]
      cases (s.crossing n).inWindow <;> simp
    rw [quiet, same, Crossing.windowed_same, s.setCrossing_self]
  unfold State.evaluateWindow
  cases inside : s.positionInWindow n <;> cases flag : (s.crossing n).inWindow
  case false.false => simpa only [inside] using stays (inside.trans flag.symm)
  case true.true => simpa only [inside] using stays (inside.trans flag.symm)
  case false.true =>
    have told : (if (s.crossing n).state = .rest ∧ s.hasDemand n = true ∧ (s.crossing n).served = false then
        s.street.queued (.windowMissed n) else s.street) =
        s.street.windowTold n (s.crossing n) false (s.hasDemand n) := by
      unfold Street.windowTold
      rw [flag]
      by_cases rest : (s.crossing n).state = .rest <;> cases (s.crossing n).served <;> cases s.hasDemand n <;> simp [rest]
    have left : (s.crossing n).windowed false = { s.crossing n with inWindow := false, served := false } := by
      simp [Crossing.windowed, flag]
    rw [← told, left]
    dsimp only [State.windowExit]
    split <;> rfl
  case true.false =>
    have told : (if (s.crossing n).state = .rest ∧ (s.crossing n).mode = .normal ∧ s.hasDemand n = false
          ∧ (s.crossing n).served = false then s.street.queued (.noDemand n) else s.street) =
        s.street.windowTold n (s.crossing n) true (s.hasDemand n) := by
      unfold Street.windowTold
      rw [flag]
      by_cases rest : (s.crossing n).state = .rest <;> cases (s.crossing n).served <;> simp [rest]
    have entered : (s.crossing n).windowed true = { s.crossing n with inWindow := true } := by
      simp [Crossing.windowed]
    rw [← told, entered]
    dsimp only [State.windowEntry]
    split <;> rfl

theorem State.hasDemand_iff (s : State) (n : CrossingId) : s.hasDemand n = true ↔
    (s.crossing n).placeA.isSome = true ∨ (s.crossing n).placeB.isSome = true ∨ (s.crossing n).mode = .recall
      ∨ ∃ ap, (∃ a, (s.station a).serves n ap = true)
        ∧ ∀ a, (s.station a).serves n ap = true → (s.station a).owner ≠ .owned := by
  have fails (ap : Approach) : s.failureRecall n ap = true ↔ (∃ a, (s.station a).serves n ap = true)
      ∧ ∀ a, (s.station a).serves n ap = true → (s.station a).owner ≠ .owned := by
    unfold State.failureRecall State.ownedServing
    rw [Bool.and_eq_true, List.any_eq_true, List.isEmpty_iff, List.filter_eq_nil_iff]
    simp only [mem_allStations, true_and, forall_const, Bool.and_eq_true, beq_iff_eq, not_and']
  unfold State.hasDemand
  simp only [Bool.or_eq_true, fails, beq_iff_eq, or_assoc]
  refine or_congr_right (or_congr_right (or_congr_right ⟨?_, ?_⟩))
  · rintro (demand | demand)
    · exact ⟨.a, demand⟩
    · exact ⟨.b, demand⟩
  · rintro ⟨ap, demand⟩
    cases ap
    · exact .inl demand
    · exact .inr demand

theorem State.mayStart_iff (s : State) (n : CrossingId) : s.mayStart n = true ↔
    ((s.crossing n).mode = .normal ∨ (s.crossing n).mode = .recall) ∧ s.tb.presence = .present
      ∧ s.tb.mask.getLsbD n.val = true ∧ s.hasDemand n = true ∧ (s.crossing n).inWindow = true
      ∧ (s.crossing n).served = false := by
  unfold State.mayStart State.permit State.maskInForce
  by_cases present : s.tb.presence = .present
  · simp [present, and_assoc]
  · simp [present]

/-- R58, R59: the start evaluation of a crossing in REST whose records are sound. -/
theorem State.startEvaluation_eq (s : State) (n : CrossingId) (sound : (s.crossing n).activeSound = true)
    (rest : (s.crossing n).state = .rest) : s.startEvaluation n =
      if s.mayStart n = true then
        match s.planInForce n with
        | none => s
        | some p => if p.lateStart (s.demandAccessible n) (p.remaining s.tb.pos) then s.commit n p else s
      else s := by
  unfold State.startEvaluation
  rw [checkActive_sound n s sound]
  simp only [rest, true_and] <;> rfl

/-- R45, R61: the commit. -/
theorem State.commit_moved (s : State) (n : CrossingId) (p : Plan) (sound : (s.crossing n).activeSound = true) :
    State.Moved n ({ s.crossing n with
        placeA := none, placeB := none, served := true, walk := some (s.committedWalk n p) }.entered .starting)
      s.street s (s.commit n p) := by
  have at_n := s.modCrossing_self n fun c => { c with
    walk := some (s.committedWalk n p), placeA := none, placeB := none, served := true }
  have entered := State.enter_moved quiet_checkActive (s.modCrossing n fun c => { c with
    walk := some (s.committedWalk n p), placeA := none, placeB := none, served := true }) n .starting
    ((congrArg Crossing.activeSound at_n).trans sound)
  rw [at_n] at entered
  exact entered.of_modCrossing ⟨rfl, rfl⟩

/-- Settles O24. -/
theorem startEvaluationCommitsExactlyWhenDue : Obligations.StartEvaluationCommitsExactlyWhenDue := by
  unfold Obligations.StartEvaluationCommitsExactlyWhenDue
  refine ⟨fun s n sound => ?_, fun s n => rfl, fun s n rest sound => ?_⟩
  · intro inside
    have flag : s.positionInWindow n = inside := by
      simp only [inside, State.positionInWindow]
      cases s.planInForce n <;> rfl
    rw [State.windowStage, checkActive_sound n s ((Crossing.sound_iff _).mp sound).1, State.evaluateWindow_eq, flag]
  · intro c acc demand conditions t
    have sound := ((Crossing.sound_iff _).mp sound).1
    have evaluated : t = _ := s.startEvaluation_eq n sound rest
    have due : s.mayStart n = true ↔ conditions := by
      rw [State.mayStart_iff, State.hasDemand_iff]
    refine ⟨fun no => evaluated.trans (if_neg fun may => no (due.mp may)), fun none => ?_, fun p inForce => ?_⟩
    · rw [evaluated, none]
      exact ite_self s
    · rw [inForce] at evaluated
      intro f r
      have late : p.lateStart (s.demandAccessible n) (p.remaining s.tb.pos) = true ↔ 2 + p.minWalk + f + p.buffer ≤ r := by
        unfold Plan.lateStart
        rw [decide_eq_true_iff]
        rfl
      refine ⟨fun short => ?_, fun holds enough => ?_⟩
      · rw [evaluated]
        dsimp only
        rw [if_neg fun fits => short (late.mp fits)]
        exact ite_self s
      · have commits : t = s.commit n p := by
          rw [evaluated, if_pos (due.mpr holds)]
          exact if_pos (late.mpr enough)
        have moved := s.commit_moved n p sound
        rw [← commits] at moved
        intro l
        refine ⟨?_, ?_, moved.becomes, moved.plays, moved.street⟩
        · simp only [l]
          split
          · omega
          · split <;> omega
        · have short : l ≤ r - 2 - f - p.buffer := by
            simp only [l]
            split
            · exact Nat.le_refl _
            · exact Nat.min_le_right _ _
          omega

end

end Sys2Proof.Machine
end

section
/-! SUPPORT. Modes and faults of a crossing: SET MODE (O27), CLEAR FAULT (O28), lamp faults (O29, O30). -/

namespace Sys2Proof.Machine

section
variable {s t u : State} {n : CrossingId}

/-! ### A request that moves or changes its crossing -/

theorem State.Moved.answers {c : Crossing} {v : Street} {kind : Byte} (h : State.Moved n c v.handled s.handling u) (tag : Byte)
    (other : kind ≠ kindRestart) : s.Becomes n c ((done u).replied kind tag) ∧ s.PlaysQueued n ((done u).replied kind tag)
      ∧ ((done u).replied kind tag).street = v.answered .reply (replyFrame kind tag .ok []) := by
  have street := done_street (u := u) tag other h.street
  rw [done_replied u kind tag other] at street ⊢
  exact ⟨h.becomes, h.plays, street⟩

theorem State.Changed.answers {c : Crossing} {v : Street} {kind : Byte} (h : State.Changed n c v.handled s.handling u) (tag : Byte)
    (other : kind ≠ kindRestart) : s.Only n c ((done u).replied kind tag) ∧ ((done u).replied kind tag).stations = s.stations
      ∧ ((done u).replied kind tag).street = v.answered .reply (replyFrame kind tag .ok []) := by
  have street := done_street (u := u) tag other h.street
  rw [done_replied u kind tag other] at street ⊢
  exact ⟨h.only, h.stations, street⟩

/-! ### SET MODE (R53, R54, Table 4-3) -/

theorem Crossing.retargeted_none {c : Crossing} (h : c.walk = none) : c.retargeted = c := by
  have same : c.retargeted = { c with walk := c.walk.map fun w => { w with target := c.settled } } := rfl
  rw [same, h, Option.map_none, ← h]

theorem Crossing.retargeted_some {c : Crossing} {w : Walk} (h : c.walk = some w) :
    c.retargeted = { c with walk := some { w with target := c.settled } } := by
  have same : c.retargeted = { c with walk := c.walk.map fun w => { w with target := c.settled } } := rfl
  rw [same, h, Option.map_some]

theorem Crossing.settled_ne_dark {c : Crossing} (on : c.mode ≠ .off) : c.settled ≠ .dark := by
  unfold Crossing.settled
  rw [if_neg on]
  split
  · decide
  · split <;> decide

/-- R54, Table 4-3: what a change of mode makes of its crossing, by its interval state. -/
theorem State.changeMode_acts (s : State) (n : CrossingId) (m : Mode) (sound : (s.crossing n).activeSound = true) :
    let c := s.crossing n
    let c' := { c with mode := m }
    let t := s.changeMode n m
    (c.walk = none → c.state = .dark → m ≠ .off →
      State.Moved n ({ c' with served := c.served || c.inWindow }.entered c'.settled)
        (if c'.settled = .fault then s.street.queued (.fault n c.causes) else s.street) s t)
    ∧ (c.walk = none → (c.state = .rest ∨ c.state = .hold ∨ c.state = .fault) →
        (c'.settled ≠ c.state → State.Moved n (c'.entered c'.settled) s.street s t)
        ∧ (c'.settled = c.state → State.Changed n c' s.street s t))
    ∧ (∀ w, c.walk = some w → c.state = .starting → (m = .off ∨ m = .hold) →
        State.Moved n (c'.cancelled w c'.settled) s.street s t)
    ∧ (∀ w, c.walk = some w → c.state = .walk → (m = .off ∨ m = .hold) →
        State.Moved n (c'.cleared { s.truncated w (if m = .off then .modeOff else .modeHold) with target := c'.settled }
            (s.planValues n).countdown)
          (s.street.queued (.truncate n (if m = .off then .modeOff else .modeHold))) s t)
    ∧ (∀ w, c.walk = some w → (c.state = .clearance ∨ c.state = .buffer
          ∨ ((c.state = .starting ∨ c.state = .walk) ∧ (m = .normal ∨ m = .recall))) →
        State.Changed n { c' with walk := some { w with target := c'.settled } } s.street s t) := by
  intro c c' t
  have acts : t = (let s := s.modCrossing n fun c => { c with mode := m }.retargeted
    match (s.crossing n).state with
    | .dark => s.leaveDark n
    | .rest | .hold | .fault => s.settle n
    | .starting =>
      match m with
      | .off | .hold => s.cancel checkActive n
      | .normal | .recall => s
    | .walk =>
      match m with
      | .off => s.truncate checkActive n .modeOff
      | .hold => s.truncate checkActive n .modeHold
      | .normal | .recall => s
    | .clearance | .buffer => s) := rfl
  have at_n : (s.modCrossing n fun c => { c with mode := m }.retargeted).crossing n = c'.retargeted := s.modCrossing_self n _
  have changed := s.modCrossing_changed n fun c => { c with mode := m }.retargeted
  have moved {told : Street} {d : Crossing} {v : State}
      (h : State.Moved n d told (s.modCrossing n fun c => { c with mode := m }.retargeted) v) : State.Moved n d told s v :=
    h.of_modCrossing ⟨rfl, rfl⟩
  have values : (s.modCrossing n fun c => { c with mode := m }.retargeted).planValues n = s.planValues n :=
    State.planValues_of (by rw [at_n]; rfl) (by rw [at_n]; rfl) rfl
  have truncated (w : Walk) (cause : TruncationCause) :
      (s.modCrossing n fun c => { c with mode := m }.retargeted).truncated w cause = s.truncated w cause := rfl
  have street : (s.modCrossing n fun c => { c with mode := m }.retargeted).street = s.street := rfl
  have sound' : c'.retargeted.activeSound = true := sound
  dsimp only at acts changed
  generalize s.modCrossing n (fun c => { c with mode := m }.retargeted) = u at *
  rw [at_n] at acts
  have state : c'.retargeted.state = c.state := rfl
  refine ⟨fun none st on => ?_, fun none st => ⟨fun leaves => ?_, fun stays => ?_⟩, fun w walk st off => ?_,
    fun w walk st off => ?_, fun w walk st => ?_⟩
  · rw [state, st] at acts
    have same : c'.retargeted = c' := Crossing.retargeted_none none
    rw [same] at at_n sound'
    have awake : c'.settled ≠ .dark := Crossing.settled_ne_dark on
    have left : u.leaveDark n = State.enterWaiting checkActive
        { u.modCrossing n fun c => { c with served := c.served || c.inWindow } with
          street := if c'.settled = .fault then s.street.queued (.fault n c.causes) else s.street } n c'.settled := by
      have causes : (State.crossing (u.modCrossing n fun c => { c with served := c.served || c.inWindow }) n).causes =
          c.causes := by
        rw [State.modCrossing_self, at_n]
      rw [State.leaveDark, at_n]
      dsimp only
      rw [if_neg awake, State.notifyFault, causes]
      by_cases fault : c'.settled = .fault
      · rw [if_pos fault, if_pos fault, ← street]
        rfl
      · rw [if_neg fault, if_neg fault, ← street]
        rfl
    rw [acts]
    dsimp only
    rw [left]
    have served := u.modCrossing_self n fun c => { c with served := c.served || c.inWindow }
    rw [at_n] at served
    have entered := State.enterWaiting_moved_of { u.modCrossing n fun c => { c with served := c.served || c.inWindow } with
      street := if c'.settled = .fault then s.street.queued (.fault n c.causes) else s.street } n c'.settled
      served sound'
    exact moved (entered.of_street.of_modCrossing ⟨rfl, rfl⟩)
  · have same : c'.retargeted = c' := Crossing.retargeted_none none
    have settles : t = u.settle n := by
      obtain st | st | st := st <;> rw [state, st] at acts <;> exact acts
    rw [same] at at_n sound'
    have enters : t = u.enterWaiting checkActive n c'.settled := by
      rw [settles, State.settle, at_n]
      exact if_neg leaves
    have entered := State.enterWaiting_moved_of u n c'.settled at_n sound'
    rw [← enters, street] at entered
    exact moved entered
  · have same : c'.retargeted = c' := Crossing.retargeted_none none
    have settles : t = u.settle n := by
      obtain st | st | st := st <;> rw [state, st] at acts <;> exact acts
    have rests : t = u := by
      rw [settles, State.settle, at_n, same]
      exact if_pos stays
    rw [rests, ← same]
    exact changed
  · have cancels : t = u.cancel checkActive n := by
      rw [state, st] at acts
      obtain rfl | rfl := off <;> exact acts
    have cancelled := u.cancel_moved quiet_checkActive n (by rw [at_n]; exact congrArg (Option.map _) walk) (at_n ▸ sound')
    rw [← cancels, at_n, street] at cancelled
    exact moved cancelled
  · have truncates : t = u.truncate checkActive n (if m = .off then .modeOff else .modeHold) := by
      rw [state, st] at acts
      obtain rfl | rfl := off <;> exact acts
    have cleared := u.truncate_moved quiet_checkActive n (if m = .off then .modeOff else .modeHold)
      (by rw [at_n]; exact congrArg (Option.map _) walk) (at_n ▸ sound')
    rw [← truncates, at_n, street, values, truncated] at cleared
    exact moved cleared
  · have stays : t = u := by
      rw [state] at acts
      obtain st | st | ⟨st | st, on | on⟩ := st <;> rw [st] at acts <;> (try subst on) <;> exact acts
    rw [stays, ← Crossing.retargeted_some (c := c') walk]
    exact changed

theorem modeOf_code (m : Mode) : modeOf m.code = some m := by cases m <;> decide

theorem modeOf_none {b : Byte} (h : 3 < b.toNat) : modeOf b = none := by
  have other (v : Byte) (small : v.toNat ≤ 3) : b ≠ v := fun e => by rw [e] at h; omega
  rw [modeOf, if_neg (other 0 (by decide)), if_neg (other 1 (by decide)), if_neg (other 2 (by decide)),
    if_neg (other 3 (by decide))]

theorem exec_setMode (takes : s.Takes) (tag crossing mode : Byte) :
    exec (.setMode tag crossing mode) s = .next ((handleSetMode crossing mode s.handling).replied 0x03 tag) :=
  congrArg Host.Outcome.next (s.takeRequest_takes _ _ _ takes)

/-- Settles O27. -/
theorem setModeActsByInterval : Obligations.SetModeActsByInterval := by
  unfold Obligations.SetModeActsByInterval
  refine ⟨fun s tag crossing mode takes bad => ?_, fun s n m tag crossing takes number => ?_⟩
  · rw [exec_setMode takes]
    refine congrArg Host.Outcome.next (Eq.trans ?_ (s.handling_refused 0x03 tag .badField (by decide)))
    have refused : handleSetMode crossing mode s.handling = refuse s.handling .badField := by
      unfold handleSetMode
      obtain zero | large | large := bad
      · rw [crossingOf_none (.inl zero)]
      · rw [crossingOf_none (.inr large)]
      · rw [modeOf_none large]
        cases crossingOf crossing <;> rfl
    rw [refused]
  · intro c c' command answer
    have run : exec command s = .next ((if m ≠ .off ∧ s.startUp.failed.planMemory = true then refuse s.handling .badState
        else if c.mode = m then done s.handling else done (s.handling.changeMode n m)).replied 0x03 tag) := by
      refine (exec_setMode takes tag crossing m.code).trans ?_
      rw [handleSetMode, show crossingOf crossing = some n from numberOf_eq_some n number, modeOf_code]
      rfl
    refine ⟨fun on failed => ?_, fun may same => ?_, fun may other sound => ?_⟩
    · rw [run, if_pos ⟨on, failed⟩, s.handling_refused 0x03 tag .badState (by decide)]
    · rw [run, if_neg fun h => may.elim h.1 fun good => absurd h.2 (ne_true_of_eq_false good), if_pos same,
        s.handling_done 0x03 tag (by decide)]
    · rw [if_neg fun h => may.elim h.1 fun good => absurd h.2 (ne_true_of_eq_false good), if_neg other] at run
      refine ⟨_, run, ?_⟩
      obtain ⟨dark, waits, starting, walking, runs⟩ := s.handling.changeMode_acts n m ((Crossing.sound_iff _).mp sound).1
      refine ⟨fun none st on => ?_, fun none st => ?_, fun w walk _ st off => ?_, fun w walk st off => ?_, fun w walk st => ?_⟩
      · have moved := dark none st on
        have told : (if c'.settled = .fault then s.handling.street.queued (.fault n c.causes) else s.handling.street) =
            (if c'.settled = .fault then s.street.queued (.fault n c.causes) else s.street).handled := by
          split
          · exact s.street.queued_handled _
          · rfl
        have moved' : State.Moved n _ _ s.handling _ := told ▸ moved
        exact moved'.answers tag (by decide)
      · obtain ⟨leaves, stays⟩ := waits none st
        by_cases same : c'.settled = c.state
        · obtain ⟨only, stations, street⟩ := State.Changed.answers (stays same) tag (kind := 0x03) (by decide)
          exact ⟨street, fun other => absurd same other, fun _ => ⟨only, stations⟩⟩
        · obtain ⟨becomes, plays, street⟩ := State.Moved.answers (leaves same) tag (kind := 0x03) (by decide)
          exact ⟨street, fun _ => ⟨becomes, plays⟩, fun is => absurd is same⟩
      · exact (starting w walk st off).answers tag (by decide)
      · have moved := walking w walk st off
        rw [s.handling_street, Street.queued_handled] at moved
        exact moved.answers tag (by decide)
      · exact (runs w walk st).answers tag (by decide)

/-! ### CLEAR FAULT (R76, R94) -/

/-- A PLAY's content depends on the crossings' channels not at all. -/
theorem State.playFor_core {s t : State} (core : ∀ n, (t.crossing n).core = (s.crossing n).core)
    (rest : t = { s with crossings := t.crossings, budgetLimit := t.budgetLimit }) (a : StationId) (b : Binding)
    (st : IntervalState) : t.playFor a b st = s.playFor a b st := by
  have patterns : t.patterns = s.patterns := by rw [rest]
  have station : t.station a = s.station a := by rw [rest]; rfl
  have tb : t.tb = s.tb := by rw [rest]
  have frame : t.link.frame = s.link.frame := by rw [rest]
  have values := State.planValues_core (core b.crossing) patterns
  have level : t.targetLevel a = s.targetLevel a := by
    unfold State.targetLevel
    rw [station, tb]
  have walk := congrArg Crossing.walk (core b.crossing)
  change (t.crossing b.crossing).walk = (s.crossing b.crossing).walk at walk
  have launch : t.launchFor b.crossing st = s.launchFor b.crossing st := by
    unfold State.launchFor
    rw [walk, frame]
  have places := congrArg (fun c : Crossing => c.place b.approach) (core b.crossing)
  have place : (t.crossing b.crossing).place b.approach = (s.crossing b.crossing).place b.approach := by
    cases ap : b.approach <;> rw [ap] at places <;> exact places
  unfold State.playFor
  rw [values, station, level, launch, place]

theorem State.headsUpToDate_rest (s : State) (n : CrossingId) : s.headsUpToDate n =
    { s with crossings := (s.headsUpToDate n).crossings, budgetLimit := (s.headsUpToDate n).budgetLimit } := rfl

theorem State.PlaysQueued.headsUpToDate (h : s.PlaysQueued n t) : s.PlaysQueued n (t.headsUpToDate n) := by
  intro a
  have station : (t.headsUpToDate n).station a = t.station a := rfl
  rw [station, h a]
  have playFor := fun b st => State.playFor_core (s := t) (t.headsUpToDate_core n) (t.headsUpToDate_rest n) a b st
  simp only [playFor, State.headsUpToDate_state]

theorem State.headsUpToDate_besideCrossing (s : State) (n : CrossingId) : State.BesideCrossing n s (s.headsUpToDate n) :=
  ⟨⟨rfl, rfl, .refl _, rfl, rfl, rfl, rfl, rfl, rfl⟩, fun _ other => State.headsUpToDate_other _ n other⟩

/-- R94: a channel re-enabled, its count reset, where it was disabled. -/
def Channel.reenabled (ch : Channel) : Channel := if ch.enabled then ch else { ch with enabled := true, openCount := 0 }

/-- R76, R94: crossing n with the causes that remain, its walk's target following, and its channels re-enabled where `lamps`. -/
def Crossing.relieved (c : Crossing) (lamps : Bool) : Crossing :=
  { (if lamps then c.mapChannels Channel.reenabled else c) with causes := c.remainingCauses }.retargeted

theorem Crossing.relieved_core (c : Crossing) (lamps : Bool) :
    (c.relieved lamps).core = { c with causes := c.remainingCauses }.retargeted.core := by
  cases lamps <;> rfl

theorem Crossing.relieved_channel (c : Crossing) (lamps : Bool) (x : Aspect) :
    (c.relieved lamps).channel x = if lamps then (c.channel x).reenabled else c.channel x := by
  cases lamps <;> cases x <;> rfl

theorem Channel.reenabled_enabled (ch : Channel) : ch.reenabled.enabled = true := by
  unfold Channel.reenabled
  split
  · assumption
  · rfl

theorem Channel.reenabled_openCount (ch : Channel) :
    ch.reenabled.openCount = if ch.enabled = false then 0 else ch.openCount := by
  unfold Channel.reenabled
  cases ch.enabled <;> rfl

/-- R76: CLEAR FAULT at a crossing whose records are sound. -/
theorem State.clearFault_eq (s : State) (n : CrossingId) (sound : (s.crossing n).activeSound = true) :
    let was := (s.crossing n).causes
    let lamps := was.walkLamp || was.dontLamp
    s.clearFault n =
      let v := s.modCrossing n (Crossing.relieved · lamps)
      if (s.crossing n).remainingCauses = was then v
      else
        let u := v.notify (.fault n (s.crossing n).remainingCauses)
        let u := if (s.crossing n).state = .fault then u.settle n else u
        if lamps then u.headsUpToDate n else u := by
  intro was lamps
  have read : (if was.planMemory then checkActive n s else s) = s := by
    split
    · exact checkActive_sound n s sound
    · rfl
  have relieved : (if lamps then s.reenableChannels n else s).modCrossing n
      (fun c => { c with causes := c.remainingCauses }.retargeted) = s.modCrossing n (Crossing.relieved · lamps) := by
    cases lamps
    · rfl
    · exact s.modCrossing_modCrossing n (fun c => c.mapChannels Channel.reenabled)
        fun c => { c with causes := c.remainingCauses }.retargeted
  have at_n : (s.modCrossing n (Crossing.relieved · lamps)).crossing n = (s.crossing n).relieved lamps := s.modCrossing_self n _
  have causes : ((s.crossing n).relieved lamps).causes = (s.crossing n).remainingCauses := by
    cases lamps <;> rfl
  have state : ((s.crossing n).relieved lamps).state = (s.crossing n).state := by
    cases lamps <;> rfl
  have notified (u : State) (k : CauseSet) : ((u.notify (.fault n k)).crossing n) = u.crossing n := rfl
  unfold State.clearFault
  dsimp only
  rw [read, relieved, at_n, causes, State.notifyFault, at_n, causes, notified, at_n, state]

theorem Crossing.retargeted_same {c : Crossing} (h : (c.walk.all fun w => w.target == c.settled) = true) :
    c.retargeted = c := by
  cases walk : c.walk with
  | none => exact Crossing.retargeted_none walk
  | some w =>
    rw [walk, Option.all_some, beq_iff_eq] at h
    rw [Crossing.retargeted_some walk, ← h, ← walk]

theorem CauseSet.eq_of_isEmpty {k : CauseSet} (h : k.isEmpty = true) : k = {} := by
  obtain ⟨conflict, walkLamp, dontLamp, planMemory⟩ := k
  simp only [CauseSet.isEmpty, Bool.not_eq_true', Bool.or_eq_false_iff] at h
  obtain ⟨⟨⟨rfl, rfl⟩, rfl⟩, rfl⟩ := h
  rfl

/-- R76, R94: what CLEAR FAULT makes of its crossing where it removes a cause. -/
structure State.Relieved (n : CrossingId) (d : Crossing) (lamps : Bool) (told : Street) (s t : State) : Prop where
  core : (t.crossing n).core = d.core
  enabled : ∀ x, (t.channel n x).enabled = ((s.channel n x).enabled || lamps)
  openCount : ∀ x, (t.channel n x).openCount =
    if lamps = true ∧ (s.channel n x).enabled = false then 0 else (s.channel n x).openCount
  beside : State.BesideCrossing n s t
  street : t.street = told

theorem Channel.Switched.enabled {ch now : Channel} (h : ch.Switched now) : now.enabled = ch.enabled := by
  have same := congrArg Channel.enabled h.1
  exact same

theorem Channel.Switched.openCount {ch now : Channel} (h : ch.Switched now) : now.openCount = ch.openCount := by
  have same := congrArg Channel.openCount h.1
  exact same

theorem State.Relieved.headsUpToDate {d : Crossing} {lamps : Bool} {told : Street} (h : State.Relieved n d lamps told s t) :
    State.Relieved n d lamps told s (t.headsUpToDate n) where
  core := (t.headsUpToDate_core n n).trans h.core
  enabled x := (t.headsUpToDate_switched n x).enabled.trans (h.enabled x)
  openCount x := (t.headsUpToDate_switched n x).openCount.trans (h.openCount x)
  beside := h.beside.trans (t.headsUpToDate_besideCrossing n)
  street := h.street

theorem State.Relieved.becomes {c d : Crossing} {lamps : Bool} {told : Street} (h : State.Relieved n c lamps told s t)
    (k : State.Moved n d told t u) : State.Relieved n d lamps told s u where
  core := k.becomes.1
  enabled x := (k.becomes.2.1.2 x).enabled.trans (h.enabled x)
  openCount x := (k.becomes.2.1.2 x).openCount.trans (h.openCount x)
  beside := h.beside.trans k.becomes.2.2.2
  street := k.street

theorem Crossing.entered_core {c d : Crossing} (h : c.core = d.core) (st : IntervalState) :
    (c.entered st).core = (d.entered st).core := by
  unfold Crossing.entered
  split
  · exact congrArg (fun c : Crossing => { c with
      state := .dark, countdown := none, countdownOn := false, placeA := none, placeB := none, served := false }) h
  · exact congrArg (fun c : Crossing => { c with state := st, countdown := none, countdownOn := false }) h

/-- R76, R94: crossing n with its causes removed and its FAULT notice queued, before it leaves FAULT. -/
theorem State.relieved_relieved (s : State) (n : CrossingId) (lamps : Bool) :
    State.Relieved n ((s.crossing n).relieved lamps) lamps (s.street.queued (.fault n (s.crossing n).remainingCauses)) s
      ((s.modCrossing n (Crossing.relieved · lamps)).notify (.fault n (s.crossing n).remainingCauses)) := by
  have at_n : (s.modCrossing n (Crossing.relieved · lamps)).crossing n = (s.crossing n).relieved lamps := s.modCrossing_self n _
  have channel (x : Aspect) : State.channel ((s.modCrossing n (Crossing.relieved · lamps)).notify
      (.fault n (s.crossing n).remainingCauses)) n x = if lamps then (s.channel n x).reenabled else s.channel n x := by
    refine Eq.trans (congrArg (fun c : Crossing => c.channel x) at_n) ?_
    exact Crossing.relieved_channel _ _ _
  refine ⟨congrArg Crossing.core at_n, fun x => ?_, fun x => ?_, s.modCrossing_besideCrossing n (Crossing.relieved · lamps), rfl⟩
  · rw [channel]
    cases lamps
    · exact (Bool.or_false _).symm
    · exact (Channel.reenabled_enabled _).trans (Bool.or_true _).symm
  · rw [channel]
    cases lamps
    · rfl
    · simpa using Channel.reenabled_openCount _

/-- Settles O28. -/
theorem clearFaultRemovesWhatHasGone : Obligations.ClearFaultRemovesWhatHasGone := by
  unfold Obligations.ClearFaultRemovesWhatHasGone
  have run (s : State) (tag crossing : Byte) (takes : s.Takes) : exec (.clearFault tag crossing) s =
      .next ((handleClearFault crossing s.handling).replied 0x04 tag) :=
    congrArg Host.Outcome.next (s.takeRequest_takes _ _ _ takes)
  refine ⟨fun s tag crossing takes bad => ?_, fun s n tag crossing takes number sound _ => ?_⟩
  · rw [run s tag crossing takes, handleClearFault, crossingOf_none bad]
    exact congrArg _ (s.handling_refused _ _ _ (by decide))
  · intro c left lamps c' leaves
    have sound := ((Crossing.sound_iff _).mp sound).1
    have handled : exec (.clearFault tag crossing) s =
        .next ((done (if c.causes.isEmpty then s.handling else s.handling.clearFault n)).replied 0x04 tag) := by
      rw [run s tag crossing takes, handleClearFault, show crossingOf crossing = some n from numberOf_eq_some n number]
      rfl
    have cleared : s.handling.clearFault n =
      let v := s.handling.modCrossing n (Crossing.relieved · lamps)
      if left = c.causes then v
      else
        let u := v.notify (.fault n left)
        let u := if c.state = .fault then u.settle n else u
        if lamps then u.headsUpToDate n else u := s.handling.clearFault_eq n sound
    refine ⟨fun same settled => ?_, fun fewer => ?_⟩
    · have idle : s.handling.clearFault n = s.handling := by
        have dark : lamps = false := by
          simp only [lamps, ← same]
          rfl
        have still : c.relieved lamps = c := by
          rw [dark]
          have causes : { c with causes := c.remainingCauses } = c := congrArg (fun k => { c with causes := k }) same
          change { c with causes := c.remainingCauses }.retargeted = c
          rw [causes]
          exact Crossing.retargeted_same settled
        rw [cleared]
        dsimp only
        rw [if_pos same, State.modCrossing_setCrossing, show s.handling.crossing n = c from rfl, still]
        exact s.handling.setCrossing_self n
      rw [handled, idle, ite_self, s.handling_done 0x04 tag (by decide)]
    · have some : ¬ c.causes.isEmpty = true := fun empty => fewer <| by
        have none := CauseSet.eq_of_isEmpty empty
        simp only [left, none]
        rfl
      rw [if_neg some, cleared] at handled
      dsimp only at handled
      rw [if_neg fewer] at handled
      refine ⟨_, handled, ?_⟩
      have relieved : State.Relieved n (c.relieved lamps) lamps (s.street.queued (.fault n left)).handled s.handling
          ((s.handling.modCrossing n (Crossing.relieved · lamps)).notify (.fault n left)) := by
        have facts := s.handling.relieved_relieved n lamps
        rw [s.handling_street, Street.queued_handled] at facts
        exact facts
      have at_n : State.crossing ((s.handling.modCrossing n (Crossing.relieved · lamps)).notify (.fault n left)) n =
        c.relieved lamps := s.handling.modCrossing_self n (Crossing.relieved · lamps)
      have core : (c.relieved lamps).core = c'.core := c.relieved_core lamps
      have state : (c.relieved lamps).state = c.state := by
        cases lamps <;> rfl
      have settled : (c.relieved lamps).settled = c'.settled := by
        cases lamps <;> rfl
      have only (dark : lamps = false) : s.Only n c' ((s.handling.modCrossing n (Crossing.relieved · lamps)).notify (.fault n left)) := by
        have changed := s.handling.modCrossing_only n (Crossing.relieved · lamps)
        rw [dark] at changed ⊢
        exact changed
      have stations : ((s.handling.modCrossing n (Crossing.relieved · lamps)).notify (.fault n left)).stations = s.stations := rfl
      generalize (s.handling.modCrossing n (Crossing.relieved · lamps)).notify (.fault n left) = v at *
      suffices facts : ∀ u, u = (if lamps = true then
            (if c.state = .fault then v.settle n else v).headsUpToDate n
          else if c.state = .fault then v.settle n else v) →
          State.Relieved n (if leaves then c'.entered c'.settled else c') lamps (s.street.queued (.fault n left)).handled
            s.handling u
          ∧ (lamps = true ∨ leaves → (u.crossing n).LampsFollow ∧ u.BudgetLaw)
          ∧ (lamps = false → ¬ leaves → s.Only n c' u)
          ∧ (leaves → s.PlaysQueued n u) ∧ (¬ leaves → u.stations = s.stations) by
        obtain ⟨acts, follow, only, plays, stations⟩ := facts _ rfl
        have street := done_street (kind := 0x04) tag (by decide) acts.street
        rw [done_replied _ 0x04 tag (by decide)] at street ⊢
        exact ⟨acts.core, acts.enabled, acts.openCount, follow, only, acts.beside, plays, stations, street⟩
      intro u made
      by_cases out : leaves
      · have moves : v.settle n = v.enterWaiting checkActive n c'.settled := by
          rw [State.settle, at_n, settled, state]
          exact if_neg (fun same => out.2 (same.trans out.1))
        rw [if_pos out.1, moves] at made
        have sound' : (c.relieved lamps).activeSound = true := (Crossing.activeSound_core core).trans sound
        have moved := State.enterWaiting_moved_of v n c'.settled at_n sound'
        rw [relieved.street] at moved
        have recored := moved.recore (d := if leaves then c'.entered c'.settled else c') (by
          rw [if_pos out]
          exact Crossing.entered_core core.symm _)
        have acts := relieved.becomes recored
        have plays : s.PlaysQueued n (v.enterWaiting checkActive n c'.settled) := fun a => by
          have now := moved.plays a
          have same : v.station a = s.station a := by
            unfold State.station
            rw [stations]
          rw [same] at now
          exact now
        cases lit : lamps with
        | false =>
          rw [lit, if_neg (by decide)] at made
          rw [lit] at acts
          subst made
          exact ⟨acts, fun _ => ⟨moved.becomes.2.1.1, moved.becomes.2.2.1⟩, fun _ stays => absurd out stays, fun _ => plays,
            fun stays => absurd out stays⟩
        | true =>
          rw [lit, if_pos rfl] at made
          rw [lit] at acts
          subst made
          exact ⟨acts.headsUpToDate, fun _ => ⟨State.headsUpToDate_lampsFollow _ n, State.headsUpToDate_budgetLaw _ n⟩,
            nofun, fun _ => plays.headsUpToDate, fun stays => absurd out stays⟩
      · have stays : (if c.state = .fault then v.settle n else v) = v := by
          split
          next fault =>
            have same : c'.settled = .fault := Classical.byContradiction fun other => out ⟨fault, other⟩
            rw [State.settle, at_n, settled, state, fault]
            exact if_pos same
          · rfl
        rw [stays] at made
        have acts : State.Relieved n (if leaves then c'.entered c'.settled else c') lamps
            (s.street.queued (.fault n left)).handled s.handling v := by
          rw [if_neg out]
          exact ⟨relieved.core.trans core, relieved.enabled, relieved.openCount, relieved.beside, relieved.street⟩
        cases lit : lamps with
        | false =>
          rw [lit, if_neg (by decide)] at made
          rw [lit] at acts
          subst made
          exact ⟨acts, fun h => h.elim nofun fun is => absurd is out, fun _ _ => only lit, fun is => absurd is out,
            fun _ => stations⟩
        | true =>
          rw [lit, if_pos rfl] at made
          rw [lit] at acts
          subst made
          exact ⟨acts.headsUpToDate, fun _ => ⟨State.headsUpToDate_lampsFollow _ n, State.headsUpToDate_budgetLaw _ n⟩,
            nofun, fun is => absurd is out, fun _ => stations⟩

end

end Sys2Proof.Machine
end

section
/-! SUPPORT. Lamp faults (R91 to R93): the open test (O30) and the failure of a channel (O29). -/

namespace Sys2Proof.Machine

section
variable {s t u v : State} {n : CrossingId} {x : Aspect}

/-! ### A channel disabled (R92) -/

/-- A channel's open samples set to a count. -/
def State.countedOpen (s : State) (n : CrossingId) (x : Aspect) (k : Nat) : State :=
  s.modCrossing n fun c => c.modChannel x fun ch => { ch with openCount := k }

theorem State.countedOpen_crossing (s : State) (n : CrossingId) (x : Aspect) (k : Nat) :
    (s.countedOpen n x k).crossing n = (s.crossing n).modChannel x fun ch => { ch with openCount := k } := s.modCrossing_self n _

theorem State.countedOpen_channel (s : State) (n : CrossingId) (x y : Aspect) (k : Nat) :
    (s.countedOpen n x k).channel n y = if y = x then { s.channel n x with openCount := k } else s.channel n y := by
  refine (congrArg (fun c : Crossing => c.channel y) (s.countedOpen_crossing n x k)).trans ?_
  exact Crossing.modChannel_channel _ _ _ _

theorem State.countedOpen_core (s : State) (n : CrossingId) (x : Aspect) (k : Nat) :
    ((s.countedOpen n x k).crossing n).core = (s.crossing n).core := by
  rw [s.countedOpen_crossing]
  exact Crossing.modChannel_core _ _ _

theorem State.countedOpen_same (s : State) (n : CrossingId) (x : Aspect) :
    s.countedOpen n x (s.channel n x).openCount = s := by
  have same : ((s.crossing n).modChannel x fun ch => { ch with openCount := (s.channel n x).openCount }) = s.crossing n := by
    cases x <;> rfl
  rw [State.countedOpen, State.modCrossing_setCrossing, same, s.setCrossing_self]

/-- R92: a channel disabled, with its open samples at `k`. -/
structure State.Disabled (n : CrossingId) (x : Aspect) (k : Nat) (s t : State) : Prop where
  core : (t.crossing n).core = (s.crossing n).core
  channel : t.channel n x = { s.channel n x with openCount := k, enabled := false, inUse := false, actual := 0, applied := 0 }
  other : ∀ y, y ≠ x → (t.channel n y).enabled = (s.channel n y).enabled
  follow : (s.crossing n).LampsFollow → (t.crossing n).LampsFollow
  budget : t.BudgetLaw
  beside : State.BesideCrossing n s t

theorem State.disableChannel_disabled (s : State) (n : CrossingId) (x : Aspect) (k : Nat) :
    State.Disabled n x k s ((s.countedOpen n x k).disableChannel n x) := by
  have counted := s.countedOpen_channel n x
  have disabled := (s.countedOpen n x k).disableChannel_channel n n x
  have budget : ((s.countedOpen n x k).disableChannel n x).BudgetLaw := State.rebudget_budgetLaw _
  have core := ((s.countedOpen n x k).disableChannel_core n n x).trans (s.countedOpen_core n x k)
  have steady := (State.Steady.refl (s.countedOpen n x k)).disableChannel (n := n) (x := x)
  have beside := (State.Kept.refl (s.countedOpen n x k)).disableChannel (n := n) (x := x)
  refine ⟨core, ?_, fun y other => ?_, fun follow => steady.follow n id fun y => ?_, budget, ?_⟩
  · have now := disabled x 0
    rw [if_pos ⟨rfl, rfl⟩, counted, if_pos rfl] at now
    have idle := congrArg Channel.inUse now
    have applied := (budget.2 n x).trans (if_neg (ne_true_of_eq_false idle))
    exact (congrArg (fun a => { State.channel ((s.countedOpen n x k).disableChannel n x) n x with applied := a }) applied).trans now
  · have now := congrArg Channel.enabled (disabled y 0)
    rw [if_neg fun h => other h.2, counted, if_neg other] at now
    exact now
  · have state := Crossing.state_of_core (s.countedOpen_core n x k)
    have now := counted y k
    change ((s.countedOpen n x k).crossing n).channel y = _ at now
    rw [now, state]
    split
    next same => rw [← same]; exact follow y
    · exact follow y
  · have first : State.BesideCrossing n s (s.countedOpen n x k) := s.modCrossing_besideCrossing n _
    exact first.trans (State.headSet_besideCrossing (s := s.countedOpen n x k) (n := n) (x := x)
      (f := fun ch => { ch with enabled := false, inUse := false, actual := 0, applied := 0 }))

/-- R93: a channel that is lit belongs to a crossing whose interval state calls for it. -/
theorem Crossing.calls_of_lit {c : Crossing} (follow : c.LampsFollow) (lit : c.lit x = true) : c.state.calls x = true := by
  have inUse : (c.channel x).inUse = true := by
    unfold Crossing.lit at lit
    exact (Bool.and_eq_true _ _ ▸ lit).1
  rw [follow x, Bool.and_eq_true] at inUse
  exact inUse.2

/-- R92, R93: what the failure of a channel leaves of the heads, with its open samples at `k`. -/
structure State.LampDown (n : CrossingId) (x : Aspect) (k : Nat) (s t : State) : Prop where
  other : ∀ y, y ≠ x → (t.channel n y).enabled = (s.channel n y).enabled
  channel : t.channel n x = { s.channel n x with openCount := k, enabled := false, inUse := false, actual := 0, applied := 0 }
  follow : (t.crossing n).LampsFollow
  budget : t.BudgetLaw
  beside : State.BesideCrossing n s t

theorem State.Disabled.moved {c : Crossing} {told : Street} {k : Nat} (h : State.Disabled n x k s v)
    (m : State.Moved n c told v t) : State.LampDown n x k s t := by
  obtain ⟨core, ⟨follow, switched⟩, budget, beside⟩ := m.becomes
  refine ⟨fun y other => (switched y).enabled.trans (h.other y other), ?_, follow, budget, h.beside.trans beside⟩
  have disabled : (v.crossing n).channel x = _ := h.channel
  obtain ⟨rest, drive⟩ := switched x
  have enabled := congrArg Channel.enabled rest
  rw [disabled] at rest drive enabled
  have off : ((t.crossing n).channel x).inUse = false := by
    rw [follow x]
    change ((t.crossing n).channel x).enabled = false at enabled
    rw [enabled, Bool.false_and]
  have actual : ((t.crossing n).channel x).actual = 0 := by
    rw [drive, off]
    rfl
  have applied : ((t.crossing n).channel x).applied = 0 := (budget.2 n x).trans (if_neg (ne_true_of_eq_false off))
  refine Eq.trans ?_ rest
  rw [State.channel, ← off]
  exact congrArg₂ (fun a b => { (t.crossing n).channel x with applied := a, actual := b }) applied actual

theorem State.Disabled.changed {c : Crossing} {told : Street} {k : Nat} (h : State.Disabled n x k s v)
    (follow : (s.crossing n).LampsFollow) (m : State.Changed n c told v t) (lamps : (v.crossing n).SameLamps c) :
    State.LampDown n x k s t := by
  obtain ⟨own, others, limit, beside⟩ := m.only
  have channel (y : Aspect) : t.channel n y = v.channel n y := by
    unfold State.channel
    rw [own, lamps.channel]
  refine ⟨fun y other => (congrArg _ (channel y)).trans (h.other y other), (channel x).trans h.channel, ?_,
    h.budget.congr limit fun m y => ?_, h.beside.trans ⟨beside, fun m other => ?_⟩⟩
  · rw [own]
    exact lamps.lampsFollow (h.follow follow)
  · by_cases e : m = n
    · subst e
      rw [channel]
      exact .refl _
    · unfold State.channel
      rw [others m e]
      exact .refl _
  · rw [others m other]
    exact .refl _

theorem IntervalState.calls_walk {st : IntervalState} (h : st.calls .walk = true) : st = .walk := by
  cases st with
  | walk => rfl
  | _ => exact absurd h (by decide)

theorem IntervalState.calls_dont {st : IntervalState} (h : st.calls .dont = true) : st ≠ .dark ∧ st ≠ .walk := by
  cases st with
  | dark | walk => exact absurd h (by decide)
  | _ => decide

theorem Crossing.caused_sameLamps (c : Crossing) (k : Cause) : c.SameLamps (c.caused k) := ⟨⟨rfl, rfl⟩, rfl⟩

theorem CauseSet.isEmpty_add (k : CauseSet) (x : Cause) : (k.add x).isEmpty = false := by
  cases x <;> simp [CauseSet.add, CauseSet.isEmpty]

theorem Crossing.settled_fault {c : Crossing} (on : c.mode ≠ .off) (some : c.causes.isEmpty = false) : c.settled = .fault := by
  rw [Crossing.settled, if_neg on, some]
  rfl

theorem Crossing.caused_core {c d : Crossing} (h : c.core = d.core) (k : Cause) : (c.caused k).core = (d.caused k).core := by
  have same := congrArg (fun c : Crossing => (c.caused k).core) h
  exact same

/-- R92, R93: the failure of a channel that is lit, with its open samples at `k`. -/
theorem State.failChannel_acts (s : State) (n : CrossingId) (x : Aspect) (k : Nat) (follow : (s.crossing n).LampsFollow)
    (sound : (s.crossing n).activeSound = true) (fresh : (s.crossing n).causes.has (lampCause x) = false)
    (lit : (s.crossing n).lit x = true)
    (on : (s.crossing n).mode ≠ .off ∨ (s.crossing n).state = .clearance ∨ (s.crossing n).state = .buffer) :
    let c := { s.crossing n with causes := (s.crossing n).causes.add (lampCause x) }
    let t := (s.countedOpen n x k).failChannel n x
    State.LampDown n x k s t
    ∧ (∀ w, x = .walk → (s.crossing n).walk = some w →
        (t.crossing n).core = (c.cleared { s.truncated w .walkLamp with target := .fault } (s.planValues n).countdown).core
        ∧ s.PlaysQueued n t ∧ t.street = (s.street.queued (.truncate n .walkLamp)).queued (.fault n c.causes))
    ∧ (x = .dont → t.street = s.street.queued (.fault n c.causes))
    ∧ (x = .dont → c.state = .rest ∨ c.state = .hold →
        (t.crossing n).core = ((c.modWalk fun w => { w with target := .fault }).entered .fault).core ∧ s.PlaysQueued n t)
    ∧ (∀ w, x = .dont → c.state = .starting → c.walk = some w →
        (t.crossing n).core = (c.cancelled w .fault).core ∧ s.PlaysQueued n t)
    ∧ (x = .dont → c.state = .clearance ∨ c.state = .buffer →
        (t.crossing n).core = ({ c with walk := none }.entered .fault).core ∧ s.PlaysQueued n t)
    ∧ (x = .dont → c.state = .fault → c.walk = none → (t.crossing n).core = c.core ∧ t.stations = s.stations) := by
  intro c t
  have calls := Crossing.calls_of_lit follow lit
  have down := s.disableChannel_disabled n x k
  have stations : ((s.countedOpen n x k).disableChannel n x).stations = s.stations := rfl
  have street : ((s.countedOpen n x k).disableChannel n x).street = s.street := rfl
  have truncated (w : Walk) (z : TruncationCause) : ((s.countedOpen n x k).disableChannel n x).truncated w z = s.truncated w z := rfl
  have values := State.planValues_core down.core (rfl : ((s.countedOpen n x k).disableChannel n x).patterns = s.patterns)
  have made : t = addCauseWith checkActive n (lampCause x) ((s.countedOpen n x k).disableChannel n x) := rfl
  generalize (s.countedOpen n x k).disableChannel n x = v at *
  have causes := congrArg Crossing.causes down.core
  change (v.crossing n).causes = (s.crossing n).causes at causes
  have walks := congrArg Crossing.walk down.core
  change (v.crossing n).walk = (s.crossing n).walk at walks
  obtain ⟨idle, waits, starting, walking, starts, truncates, runs, leaves⟩ := addCauseWith_acts quiet_checkActive n (lampCause x) v
    (causes ▸ fresh) ((Crossing.activeSound_core down.core).trans sound)
  rw [← made] at *
  have core : ((v.crossing n).caused (lampCause x)).core = ((s.crossing n).caused (lampCause x)).core :=
    Crossing.caused_core down.core _
  have state := congrArg Crossing.state core
  change ((v.crossing n).caused (lampCause x)).state = c.state at state
  have told := congrArg Crossing.causes core
  change ((v.crossing n).caused (lampCause x)).causes = c.causes at told
  have plays {d : Crossing} {z : Street} (m : State.Moved n d z v t) : s.PlaysQueued n t := fun a => by
    have now := m.plays a
    have same : v.station a = s.station a := by
      unfold State.station
      rw [stations]
    rw [same] at now
    exact now
  have lamps : (v.crossing n).SameLamps ((v.crossing n).caused (lampCause x)) := (v.crossing n).caused_sameLamps _
  have fault (on : (s.crossing n).mode ≠ .off) : ((v.crossing n).caused (lampCause x)).settled = .fault := by
    have mode := congrArg Crossing.mode down.core
    change (v.crossing n).mode = (s.crossing n).mode at mode
    exact Crossing.settled_fault (c := (v.crossing n).caused (lampCause x)) (mode ▸ on) (CauseSet.isEmpty_add _ _)
  generalize (v.crossing n).caused (lampCause x) = d at *
  cases x with
  | walk =>
    have st : (s.crossing n).state = .walk := IntervalState.calls_walk calls
    have no {p : Prop} (is : Aspect.walk = .dont) : p := nomatch is
    obtain ⟨e, moved⟩ := truncates .walkLamp (state.trans st) rfl
    refine ⟨down.moved moved, fun w _ walk => ?_, fun is => no is, fun is => no is, fun _ is => no is, fun is => no is,
      fun is => no is⟩
    have cleared := walking w .walkLamp (walks.trans walk) (state.trans st) rfl
    have live : (s.crossing n).mode ≠ .off := on.resolve_right fun h => by rw [st] at h; exact h.elim nofun nofun
    rw [fault live, truncated, values, street, told] at cleared
    refine ⟨cleared.becomes.1.trans ?_, plays cleared, cleared.street⟩
    have same := congrArg (fun z : Crossing => z.cleared { s.truncated w .walkLamp with target := .fault }
      (s.planValues n).countdown) core
    exact same
  | dont =>
    obtain ⟨awake, unlit⟩ := IntervalState.calls_dont calls
    have live (clearing : (s.crossing n).state ≠ .clearance) (buffering : (s.crossing n).state ≠ .buffer) : d.settled = .fault :=
      fault (on.resolve_right fun h => h.elim clearing buffering)
    rw [told, street] at idle waits starting starts leaves
    have no {p : Prop} (is : Aspect.dont = .walk) : p := nomatch is
    have entered {e e' : Crossing} (same : e.core = e'.core) : (e.entered .fault).core = (e'.entered .fault).core :=
      Crossing.entered_core same _
    have unwalked : { d with causes := c.causes, walk := none }.core = { c with walk := none }.core :=
      congrArg (fun z : Crossing => { z with causes := c.causes, walk := none }) core
    have outcome : State.LampDown n .dont k s t ∧ t.street = s.street.queued (.fault n c.causes) := by
      cases st : (s.crossing n).state with
      | dark => exact absurd st awake
      | walk => exact absurd st unlit
      | rest => exact ⟨down.moved (waits (.inl (state.trans st))), (waits (.inl (state.trans st))).street⟩
      | hold => exact ⟨down.moved (waits (.inr (state.trans st))), (waits (.inr (state.trans st))).street⟩
      | fault => exact ⟨down.changed follow (idle (.inr (state.trans st))) lamps, (idle (.inr (state.trans st))).street⟩
      | starting =>
        obtain ⟨e, moved⟩ := starts (state.trans st)
        exact ⟨down.moved moved, moved.street⟩
      | clearance => exact ⟨down.moved (leaves (.inl (state.trans st)) rfl), (leaves (.inl (state.trans st)) rfl).street⟩
      | buffer => exact ⟨down.moved (leaves (.inr (state.trans st)) rfl), (leaves (.inr (state.trans st)) rfl).street⟩
    refine ⟨outcome.1, fun _ is => no is, fun _ => outcome.2, fun _ st => ?_, fun w _ st walk => ?_, fun _ st => ?_,
      fun _ st none => ?_⟩
    · have moved := waits (st.imp state.trans state.trans)
      have target : c.settled = .fault := by
        refine Crossing.settled_fault (c := c) (on.resolve_right fun h => ?_) (CauseSet.isEmpty_add _ _)
        obtain st | st := st <;> rw [show c.state = (s.crossing n).state from rfl] at st <;> rw [st] at h <;>
          exact h.elim nofun nofun
      refine ⟨moved.becomes.1.trans (entered ?_), plays moved⟩
      rw [core, ← target]
      rfl
    · have moved := starting w (walks.trans walk) (state.trans st)
      have st' : (s.crossing n).state = .starting := st
      rw [live (by rw [st']; decide) (by rw [st']; decide)] at moved
      refine ⟨moved.becomes.1.trans ?_, plays moved⟩
      refine Crossing.entered_core ?_ _
      exact congrArg (fun z : Crossing => { z with
        placeA := restoredCall w.consumedA z.placeA, placeB := restoredCall w.consumedB z.placeB, served := false
        walk := none }) core
    · have moved := leaves (st.imp state.trans state.trans) rfl
      exact ⟨moved.becomes.1.trans (entered unwalked), plays moved⟩
    · have changed := idle (.inr (state.trans st))
      refine ⟨?_, changed.stations.trans stations⟩
      rw [changed.only.1, core]
      have same : (s.crossing n).caused .dontLamp = c := Crossing.retargeted_none (c := c) none
      exact congrArg Crossing.core same

/-- A channel that is lit is in use, with a drive where it delivers current. -/
theorem State.lit_of_lampCurrent (h : 0 < s.lampCurrent n x) : (s.crossing n).lit x = true := by
  unfold State.lampCurrent at h
  split at h
  · assumption
  · exact absurd h (by decide)

/-- Settles O29. -/
theorem lampFaultDisablesTheChannel : Obligations.LampFaultDisablesTheChannel := by
  unfold Obligations.LampFaultDisablesTheChannel
  intro s n x follow sound on fresh c after
  have sound := ((Crossing.sound_iff _).mp sound).1
  have acts (k : Nat) (lit : (s.crossing n).lit x = true) : after ((s.countedOpen n x k).failChannel n x)
      ∧ State.channel ((s.countedOpen n x k).failChannel n x) n x =
        { s.channel n x with openCount := k, enabled := false, inUse := false, actual := 0, applied := 0 } := by
    obtain ⟨down, walking, told, waits, starting, leaves, stays⟩ := s.failChannel_acts n x k follow sound fresh lit on
    refine ⟨⟨down.other, ?_, down.follow, down.budget, down.beside, walking, told, waits, starting, leaves, stays⟩, down.channel⟩
    rw [down.channel]
    rfl
  refine ⟨fun current => ?_, fun lit drive counted => ?_⟩
  · obtain ⟨facts, channel⟩ := acts (s.channel n x).openCount (State.lit_of_lampCurrent current)
    rw [State.countedOpen_same] at facts channel
    refine ⟨_, congrArg Host.Outcome.next (if_pos current), facts, ?_⟩
    have counted := congrArg Channel.openCount channel
    exact counted
  · obtain ⟨facts, channel⟩ := acts 3 lit
    have testable : (s.crossing n).testable x = true := by
      rw [Crossing.testable, lit, Bool.true_and]
      exact decide_eq_true drive
    refine ⟨_, congrArg Host.Outcome.next (if_pos ⟨testable, ?_⟩), facts, congrArg Channel.openCount channel⟩
    exact Nat.succ_le_succ counted

/-! ### What every operation of the sequencer at a crossing keeps -/

/-- A property that the parts of the sequencer's operations at crossing n keep: changes of the crossing beside its channels, the
switching of its heads, notices and PLAYs. -/
structure ClosedAt (n : CrossingId) (P : State → Prop) : Prop where
  mod : ∀ (u : State) (f : Crossing → Crossing), (∀ c : Crossing, c.SameChannels (f c)) → P u → P (u.modCrossing n f)
  heads : ∀ u : State, P u → P (u.headsUpToDate n)
  notify : ∀ (u : State) (x : Notice), P u → P (u.notify x)
  plays : ∀ u : State, P u → P (u.queuePlaysTo (u.ownedAt n))

section
variable {P : State → Prop} (cl : ClosedAt n P)
include cl

theorem ClosedAt.evaluateWindow (h : P u) : P (u.evaluateWindow n) := by
  have enters (v : State) (k : P v) : P (v.windowEntry n) := by
    unfold State.windowEntry
    dsimp only
    split
    · exact cl.notify _ _ (cl.mod _ _ (fun _ => ⟨rfl, rfl⟩) k)
    · exact cl.mod _ _ (fun _ => ⟨rfl, rfl⟩) k
  have leaves (v : State) (k : P v) : P (v.windowExit n) := by
    unfold State.windowExit
    dsimp only
    split
    · exact cl.mod _ _ (fun _ => ⟨rfl, rfl⟩) (cl.notify _ _ k)
    · exact cl.mod _ _ (fun _ => ⟨rfl, rfl⟩) k
  unfold State.evaluateWindow
  split
  · exact enters u h
  · exact leaves u h
  · exact h

theorem ClosedAt.readActive (h : P u) : P (Machine.readActive n u) := by
  unfold Machine.readActive
  dsimp only
  split
  · split
    · exact h
    · exact cl.mod _ _ (fun _ => ⟨rfl, rfl⟩) h
    · exact cl.evaluateWindow (cl.mod _ _ (fun _ => ⟨rfl, rfl⟩) h)
  · exact h

variable {rd : PlanRead} (r : ∀ v, P v → P (rd n v))
include r

theorem ClosedAt.queuePlays (h : P u) : P (u.queuePlays rd n) := by
  unfold State.queuePlays
  dsimp only
  split
  · exact h
  · split
    · exact cl.plays _ (r u h)
    · exact r u h

theorem ClosedAt.enter {st : IntervalState} (h : P u) : P (u.enter rd n st) := by
  unfold State.enter
  exact cl.queuePlays r (cl.heads _ (cl.mod _ _ (fun _ => ⟨rfl, rfl⟩) h))

theorem ClosedAt.enterWaiting {st : IntervalState} (h : P u) : P (u.enterWaiting rd n st) := by
  unfold State.enterWaiting
  split
  · exact cl.enter r (cl.mod _ _ (fun _ => ⟨rfl, rfl⟩) h)
  · exact cl.enter r h

theorem ClosedAt.enterClearance (h : P u) : P (u.enterClearance rd n) := by
  unfold State.enterClearance
  exact cl.queuePlays r (cl.mod _ _ (fun _ => ⟨rfl, rfl⟩) (r _ (cl.heads _ (cl.mod _ _ (fun _ => ⟨rfl, rfl⟩) h))))

theorem ClosedAt.cancel (h : P u) : P (u.cancel rd n) := by
  unfold State.cancel
  exact cl.enterWaiting r (cl.mod u Crossing.uncommitted (fun c => c.uncommitted_same.1) h)

theorem ClosedAt.addCauseWith {k : Cause} (h : P u) : P (Machine.addCauseWith rd n k u) := by
  have added := cl.mod u (Crossing.caused · k) (fun _ => ⟨rfl, rfl⟩) h
  by_cases fresh : (u.crossing n).causes.has k = true
  · rw [addCauseWith_present rd n k u fresh]
    exact h
  · rw [addCauseWith_fresh n k u (eq_false_of_ne_true fresh)]
    generalize u.modCrossing n (Crossing.caused · k) = v at added
    have told : P (v.notifyFault n) := cl.notify _ _ added
    dsimp only
    cases (v.crossing n).state with
    | dark | fault => exact told
    | rest | hold => exact cl.enterWaiting r told
    | starting => exact cl.cancel r told
    | walk =>
      dsimp only
      split
      · exact cl.enterClearance r (cl.notify _ _ (cl.notify _ _ (cl.mod _ _ (fun _ => ⟨rfl, rfl⟩) added)))
      · exact told
    | clearance | buffer =>
      dsimp only
      split
      · exact cl.enterWaiting r (cl.mod _ _ (fun _ => ⟨rfl, rfl⟩) told)
      · exact told

end

section
variable {P : State → Prop} (cl : ClosedAt n P)
include cl

theorem ClosedAt.checkActive (h : P u) : P (Machine.checkActive n u) := by
  unfold Machine.checkActive
  dsimp only
  split
  · exact cl.addCauseWith (fun _ => cl.readActive) (cl.readActive h)
  · exact cl.readActive h

theorem ClosedAt.addCause {k : Cause} (h : P u) : P (Machine.addCause n k u) := cl.addCauseWith (fun _ => cl.checkActive) h

end

/-- R92: a channel that is disabled and delivers nothing. -/
def State.Dead (n : CrossingId) (x : Aspect) (s : State) : Prop :=
  (s.channel n x).enabled = false ∧ (s.channel n x).inUse = false ∧ (s.channel n x).actual = 0

/-- R94: only CLEAR FAULT enables a channel again. -/
theorem dead_closedAt (n : CrossingId) (x : Aspect) : ClosedAt n (State.Dead n x) where
  mod u f same h := by
    have channel : (u.modCrossing n f).channel n x = u.channel n x := by
      unfold State.channel
      rw [State.modCrossing_self, (same _).channel]
    unfold State.Dead
    rw [channel]
    exact h
  heads u h := by
    obtain ⟨disabled, idle, dark⟩ := h
    have channel := u.headsUpToDate_channel n n x
    rw [if_pos rfl, Channel.switched_eq] at channel
    have off : ((u.headsUpToDate n).channel n x).inUse = false := by
      rw [channel]
      simp [Channel.claimed, Channel.apply, disabled]
    refine ⟨(u.headsUpToDate_switched n x).enabled.trans disabled, off, ?_⟩
    rw [(u.headsUpToDate_switched n x).2, off, idle]
    exact dark
  notify u _ h := h
  plays u h := by
    unfold State.Dead State.channel
    rw [(State.queuePlaysTo_ownedAt u n).1.crossing]
    exact h

/-- Settles O30. -/
theorem openTestCountsSamples : Obligations.OpenTestCountsSamples := by
  unfold Obligations.OpenTestCountsSamples
  intro s n x load ch t
  have tested : t = if (s.crossing n).testable x then
      if 2 * load < ch.actual then
        if 3 ≤ ch.openCount + 1 then (s.countedOpen n x (min 3 (ch.openCount + 1))).failChannel n x
        else s.countedOpen n x (min 3 (ch.openCount + 1))
      else s.countedOpen n x 0
    else s := rfl
  have testable : (s.crossing n).testable x = true ↔ (s.crossing n).lit x = true ∧ 20 ≤ ch.actual := by
    rw [Crossing.testable, Bool.and_eq_true, decide_eq_true_iff]
    rfl
  have counts (k : Nat) := (s.countedOpen_channel n x x k).trans (if_pos rfl)
  refine ⟨fun dark => ?_, fun lit drive => ?_⟩
  · rw [tested, if_neg]
    rw [testable]
    rintro ⟨lit, drive⟩
    exact dark.elim (fun d => absurd lit (ne_true_of_eq_false d)) fun weak => by omega
  · rw [if_pos (testable.mpr ⟨lit, drive⟩)] at tested
    refine ⟨fun good => ?_, fun low few => ?_, fun low third => ?_, fun few => ?_⟩
    · rw [tested, if_neg (by omega)]
      exact counts 0
    · rw [tested, if_pos low, if_neg (by omega), show min 3 (ch.openCount + 1) = ch.openCount + 1 by omega]
      exact counts _
    · have three : min 3 (ch.openCount + 1) = 3 := by omega
      rw [if_pos low, if_pos (by omega), three] at tested
      have disabled := (s.disableChannel_disabled n x 3).channel
      have dead : State.Dead n x ((s.countedOpen n x 3).disableChannel n x) := by
        unfold State.Dead
        rw [disabled]
        exact ⟨rfl, rfl, rfl⟩
      have dead' : State.Dead n x t := by
        rw [tested]
        exact (dead_closedAt n x).addCause dead
      refine ⟨dead'.1, dead'.2.2, ?_⟩
      rw [tested]
      exact congrArg Host.Outcome.next (if_pos ⟨testable.mpr ⟨lit, drive⟩, Nat.succ_le_succ third⟩)
    · have counted : ∃ k, t = s.countedOpen n x k := by
        by_cases low : 2 * load < ch.actual
        · rw [if_pos low, if_neg (by omega)] at tested
          exact ⟨_, tested⟩
        · rw [if_neg low] at tested
          exact ⟨_, tested⟩
      obtain ⟨k, counted⟩ := counted
      rw [counted]
      exact ⟨rfl, rfl, s.modCrossing_besideCrossing n _, s.countedOpen_core n x k⟩

end

end Sys2Proof.Machine
end

section
/-! SUPPORT. Pedestrian calls (spec 03): what a change of a call place and a registration make of the part (O19 to O21). -/

namespace Sys2Proof.Machine

section
variable {s t u v : State} {n : CrossingId} {ap : Approach} {a : StationId}

/-! ### A change of a call place (R138) -/

theorem Station.serves_iff {x : Station} : x.serves n ap = true ↔ ∃ b, x.binding = some b ∧ b.crossing = n ∧ b.approach = ap := by
  unfold Station.serves
  cases x.binding with
  | none => simp
  | some b => simp

theorem State.mem_ownedServing : a ∈ s.ownedServing n ap ↔ (s.station a).owner = .owned ∧ (s.station a).serves n ap = true := by
  unfold State.ownedServing
  rw [List.mem_filter, Bool.and_eq_true, beq_iff_eq]
  simp only [mem_allStations, true_and]

/-- R138: the stations a changed place reaches. -/
def State.PlaceReaches (s : State) (n : CrossingId) (ap : Approach) (presser : CallSource) (a : StationId) : Prop :=
  (s.crossing n).state.waitsLit = true ∧ (s.station a).owner = .owned ∧ (s.station a).serves n ap = true ∧ some a ≠ presser

theorem State.placeChanged_station (s : State) (n : CrossingId) (ap : Approach) (presser : CallSource)
    (sound : (s.crossing n).activeSound = true) :
    s.PlaysOnly (s.placeChanged n ap presser) ∧ ∀ a,
      (s.PlaceReaches n ap presser a → (s.placeChanged n ap presser).station a = s.playedStation a)
      ∧ (¬ s.PlaceReaches n ap presser a → (s.placeChanged n ap presser).station a = s.station a) := by
  unfold State.placeChanged
  dsimp only
  have mem (a : StationId) : a ∈ (s.ownedServing n ap).filter (fun a => some a ≠ presser) ↔
      (s.station a).owner = .owned ∧ (s.station a).serves n ap = true ∧ some a ≠ presser := by
    rw [List.mem_filter, State.mem_ownedServing, and_assoc]
    simp
  split
  next none =>
    refine ⟨.refl s, fun a => ⟨fun ⟨lit, owned, serves, other⟩ => ?_, fun _ => rfl⟩⟩
    obtain dark | empty := none
    · exact absurd lit (ne_true_of_eq_false dark)
    · have inList := (mem a).mpr ⟨owned, serves, other⟩
      rw [List.isEmpty_iff.mp empty] at inList
      exact absurd inList List.not_mem_nil
  next heard =>
    have lit : (s.crossing n).state.waitsLit = true := by
      cases e : (s.crossing n).state.waitsLit with
      | true => rfl
      | false => exact absurd (.inl e) heard
    rw [checkActive_sound n s sound, if_pos rfl]
    have distinct : ((s.ownedServing n ap).filter fun a => some a ≠ presser).Nodup :=
      (nodup_allStations.filter _).filter _
    obtain ⟨only, stations⟩ := s.queuePlaysTo_station _ distinct
    refine ⟨only, fun a => ⟨fun ⟨_, reached⟩ => ?_, fun missed => ?_⟩⟩
    · rw [stations a, if_pos ((mem a).mpr reached)]
    · rw [stations a, if_neg fun inList => missed ⟨lit, (mem a).mp inList⟩]

theorem IntervalState.waitsLit_iff {st : IntervalState} : st.waitsLit = (st == .rest || st == .hold || st == .fault) := by
  cases st <;> decide

/-- R138: a place that changed without a presser. -/
theorem State.placeChanged_queued (s : State) (n : CrossingId) (ap : Approach) (sound : (s.crossing n).activeSound = true) :
    s.PlaysQueuedAt (fun m x => m == n && x == ap && (s.crossing n).state.waitsLit) (s.placeChanged n ap none) := by
  obtain ⟨only, stations⟩ := s.placeChanged_station n ap none sound
  intro a
  obtain ⟨reached, missed⟩ := stations a
  cases bound : (s.station a).binding with
  | none =>
    refine missed fun ⟨_, _, serves, _⟩ => ?_
    obtain ⟨b, some, _⟩ := Station.serves_iff.mp serves
    exact absurd (bound.symm.trans some) nofun
  | some b =>
    dsimp only
    split
    next named =>
      simp only [Bool.and_eq_true, beq_iff_eq] at named
      obtain ⟨owned, ⟨crossing, approach⟩, lit⟩ := named
      rw [reached ⟨lit, owned, Station.serves_iff.mpr ⟨b, bound, crossing, approach⟩, nofun⟩, State.playedStation, bound,
        only.playFor, only.crossing]
    next other =>
      refine missed fun ⟨lit, owned, serves, _⟩ => other ?_
      obtain ⟨b', some, crossing, approach⟩ := Station.serves_iff.mp serves
      obtain rfl : b = b' := Option.some.inj (bound.symm.trans some)
      simp [owned, crossing, approach, lit]

/-! ### Registration (R33, R38, R39, R42) -/

theorem CallEvent.record_eq (e : CallEvent) (counted : Bool) (pos : Nat) (old : Option Call) :
    e.record counted pos old = registered old e.accessible e.source pos counted := by
  cases old <;> rfl

/-- R33, R38, R42: the place and the notice of a registration, before the stations hear of it. -/
def State.placed (s : State) (counted : Bool) (e : CallEvent) : State :=
  let old := (s.crossing e.crossing).place e.approach
  let new := registered old e.accessible e.source s.tb.tickPos counted
  { s.setCrossing e.crossing ((s.crossing e.crossing).setPlace e.approach (some new)) with
    street := if callNoticed old e.accessible then s.street.queued (.call e.crossing e.approach new.accessible e.source)
      else s.street }

/-- R38, R40, R138, R141: what the stations hear of a registration. -/
theorem State.registerAs_eq (s : State) (counted : Bool) (e : CallEvent) :
    let old := (s.crossing e.crossing).place e.approach
    let new := registered old e.accessible e.source s.tb.tickPos counted
    let newly := new.accessible && !old.any Call.accessible
    s.registerAs counted e =
      let u := if old.isNone then (s.placed counted e).placeChanged e.crossing e.approach e.source else s.placed counted e
      match e.source with
      | none => u
      | some a => if e.upgrade && !newly then u else u.requestAck e.crossing a (e.accessible && newly) := by
  intro old new newly
  have noticed : (old.isNone || newly) = callNoticed old e.accessible := by
    simp only [newly, new]
    cases old with
    | none => rfl
    | some r => cases acc : r.accessible <;> simp [registered, callNoticed, acc]
  have placed : s.placed counted e = (let v := s.modCrossing e.crossing fun c => c.setPlace e.approach (some new)
      if old.isNone || newly then v.notify (.call e.crossing e.approach new.accessible e.source) else v) := by
    dsimp only
    rw [noticed]
    unfold State.placed
    dsimp only
    split <;> rfl
  rw [placed]
  unfold State.registerAs
  simp only [CallEvent.record_eq] <;> rfl

theorem State.placed_crossing (s : State) (counted : Bool) (e : CallEvent) : (s.placed counted e).crossing e.crossing =
    (s.crossing e.crossing).setPlace e.approach (some (registered ((s.crossing e.crossing).place e.approach) e.accessible e.source
      s.tb.tickPos counted)) :=
  s.modCrossing_self e.crossing fun c => c.setPlace e.approach (some (registered ((s.crossing e.crossing).place e.approach)
    e.accessible e.source s.tb.tickPos counted))

theorem State.placed_only (s : State) (counted : Bool) (e : CallEvent) : s.Only e.crossing
    ((s.crossing e.crossing).setPlace e.approach (some (registered ((s.crossing e.crossing).place e.approach) e.accessible
      e.source s.tb.tickPos counted))) (s.placed counted e) :=
  s.modCrossing_only e.crossing fun c => c.setPlace e.approach (some (registered ((s.crossing e.crossing).place e.approach)
    e.accessible e.source s.tb.tickPos counted))

theorem Crossing.setPlace_activeSound (c : Crossing) (ap : Approach) (r : Option Call) :
    (c.setPlace ap r).activeSound = c.activeSound := by cases ap <;> rfl

theorem Crossing.setPlace_state (c : Crossing) (ap : Approach) (r : Option Call) : (c.setPlace ap r).state = c.state := by
  cases ap <;> rfl

theorem State.Only.playsOnly {c : Crossing} (h : s.Only n c t) (k : t.PlaysOnly u) : s.Only n c u := by
  obtain ⟨own, others, limit, beside⟩ := h
  exact ⟨(k.crossing n).trans own, fun m other => (k.crossing m).trans (others m other), k.limit.trans limit,
    beside.trans k.beside⟩

/-- R38, R138: a registration without a source, as the host makes it. -/
theorem State.registerAs_host (s : State) (counted : Bool) (e : CallEvent) (host : e.source = none)
    (sound : (s.crossing e.crossing).activeSound = true) :
    let c := s.crossing e.crossing
    let old := c.place e.approach
    let new := registered old e.accessible none s.tb.tickPos counted
    let t := s.registerAs counted e
    s.Only e.crossing (c.setPlace e.approach (some new)) t
    ∧ t.street = (if callNoticed old e.accessible then s.street.queued (.call e.crossing e.approach new.accessible none)
        else s.street)
    ∧ s.PlaysQueuedAt (fun m x => m == e.crossing && x == e.approach && old.isNone && c.state.waitsLit) t
    ∧ (c.state.waitsLit = false → t.stations = s.stations) := by
  intro c old new t
  have made : t = if old.isNone then (s.placed counted e).placeChanged e.crossing e.approach none else s.placed counted e := by
    have eq := s.registerAs_eq counted e
    rw [host] at eq
    exact eq
  have at_n : (s.placed counted e).crossing e.crossing = c.setPlace e.approach (some new) := by
    have at_n := s.placed_crossing counted e
    rw [host] at at_n
    exact at_n
  have only : s.Only e.crossing (c.setPlace e.approach (some new)) (s.placed counted e) := by
    have only := s.placed_only counted e
    rw [host] at only
    exact only
  have street : (s.placed counted e).street = if callNoticed old e.accessible then
      s.street.queued (.call e.crossing e.approach new.accessible none) else s.street := by
    unfold State.placed
    rw [host]
  have stations : (s.placed counted e).stations = s.stations := rfl
  have state : ((s.placed counted e).crossing e.crossing).state = c.state := by
    rw [at_n]
    exact c.setPlace_state _ _
  have sound' : ((s.placed counted e).crossing e.crossing).activeSound = true := by
    rw [at_n]
    exact (c.setPlace_activeSound _ _).trans sound
  generalize s.placed counted e = v at *
  obtain ⟨plays, _⟩ := v.placeChanged_station e.crossing e.approach none sound'
  have queued := v.placeChanged_queued e.crossing e.approach sound'
  have same (a : StationId) : v.station a = s.station a := by
    unfold State.station
    rw [stations]
  cases isNone : old.isNone with
  | true =>
    rw [isNone, if_pos rfl] at made
    rw [made]
    refine ⟨only.playsOnly plays, plays.street.trans street, fun a => ?_, fun dark => ?_⟩
    · have now := queued a
      rw [same, state] at now
      simpa only [Bool.and_true] using now
    · unfold State.placeChanged
      rw [if_pos (.inl (state ▸ dark))]
      exact stations
  | false =>
    rw [isNone, if_neg (by decide)] at made
    rw [made]
    refine ⟨only, street, fun a => ?_, fun _ => stations⟩
    rw [same]
    cases (s.station a).binding <;> simp

/-! ### Joins and extensions (R64, R66) -/

theorem Plan.joins_iff (p : Plan) (w : Walk) (x : Nat) : p.joins w.count x = true ↔ p.joinFits w x := by
  unfold Plan.joins Plan.joinFits
  rw [Bool.and_eq_true, decide_eq_true_iff]

theorem Walk.joined_eq (w : Walk) (p : Plan) (x cycle : Nat) : w.joined p x cycle = w.afterJoin p x cycle := rfl

/-- R64: a join that passes. -/
theorem State.tryJoin_fits {e : CallEvent} {w : Walk} {p : Plan} (fits : p.joinFits w s.tb.tickPos) :
    s.tryJoin e w (some p) = s.modCrossing e.crossing fun c => { c with walk := some (w.afterJoin p s.tb.tickPos s.tb.cycle) } :=
  if_pos ((p.joins_iff w _).mpr fits)

theorem State.tryJoin_fails {e : CallEvent} {w : Walk} {p : Option Plan}
    (fails : ∀ q, p = some q → ¬ q.joinFits w s.tb.tickPos) : s.tryJoin e w p = s.registerFailed e := by
  cases p with
  | none => rfl
  | some q => exact if_neg fun fits => fails q rfl ((q.joins_iff w _).mp fits)

/-- R66: the extension test as the room it leaves. -/
theorem Plan.extensionRoom_iff (p : Plan) (w : Walk) (x room : Nat) : (p.extensionRoom x = some room ∧ w.count ≤ room) ↔
    p.extensionFits w x ∧ room = p.remaining x - p.accessibleClearance - p.buffer := by
  unfold Plan.extensionRoom Plan.extensionFits
  simp only [Bool.and_eq_true, decide_eq_true_iff]
  constructor
  · rintro ⟨some, fits⟩
    split at some
    next holds =>
      obtain rfl := Option.some.inj some
      exact ⟨⟨holds.1, by omega⟩, rfl⟩
    · cases some
  · rintro ⟨⟨inside, fits⟩, rfl⟩
    rw [if_pos ⟨inside, by omega⟩]
    exact ⟨rfl, by omega⟩

theorem State.tryExtend_fits {e : CallEvent} {w : Walk} {p : Plan} (fits : p.extensionFits w s.tb.tickPos) :
    let w' := w.afterExtension p s.tb.tickPos s.tb.cycle
    s.tryExtend e w (some p) = (s.modCrossing e.crossing fun c => { c with walk := some w' }).notify
      (.extend e.crossing ((s.tb.tickPos + w'.count) % s.tb.cycle) w'.release) := by
  obtain ⟨room, enough⟩ := (p.extensionRoom_iff w s.tb.tickPos _).mpr ⟨fits, rfl⟩
  simp only [State.tryExtend, room]
  rw [if_pos enough]
  rfl

theorem State.tryExtend_fails {e : CallEvent} {w : Walk} {p : Option Plan}
    (fails : ∀ q, p = some q → ¬ q.extensionFits w s.tb.tickPos) : s.tryExtend e w p = s.registerFailed e := by
  cases p with
  | none => rfl
  | some q =>
    cases room : q.extensionRoom s.tb.tickPos with
    | none => simp only [State.tryExtend, room]
    | some r =>
      simp only [State.tryExtend, room]
      rw [if_neg fun enough => fails q rfl ((q.extensionRoom_iff w _ r).mp ⟨room, enough⟩).1]

/-- R41: an accessible event that meets a walk that is not. -/
theorem State.callEvent_walk {e : CallEvent} {w : Walk} (walk : (s.crossing e.crossing).walk = some w)
    (st : (s.crossing e.crossing).state = .starting ∨ (s.crossing e.crossing).state = .walk) :
    s.callEvent e = if e.accessible && !w.accessible then s.walkEvent e else s := by
  obtain st | st := st <;> simp only [State.callEvent, st, walk]

theorem State.walkEvent_sound {e : CallEvent} {w : Walk} (sound : (s.crossing e.crossing).activeSound = true)
    (walk : (s.crossing e.crossing).walk = some w) :
    ((s.crossing e.crossing).state = .starting → s.walkEvent e = s.tryJoin e w (s.planInForce e.crossing))
    ∧ ((s.crossing e.crossing).state = .walk → s.walkEvent e = s.tryExtend e w (s.planInForce e.crossing)) := by
  unfold State.walkEvent
  rw [checkActive_sound _ s sound]
  exact ⟨fun st => by simp only [st, walk], fun st => by simp only [st, walk]⟩

theorem State.callEvent_registers {e : CallEvent} (st : (s.crossing e.crossing).state = .rest
    ∨ (s.crossing e.crossing).state = .hold ∨ (s.crossing e.crossing).state = .fault
    ∨ (s.crossing e.crossing).state = .clearance ∨ (s.crossing e.crossing).state = .buffer) :
    s.callEvent e = s.register e := by
  obtain st | st | st | st | st := st <;> simp only [State.callEvent, st]

theorem State.callEvent_absorbed {e : CallEvent} (st : (s.crossing e.crossing).state = .starting
    ∨ (s.crossing e.crossing).state = .walk)
    (served : e.accessible = false ∨ (s.crossing e.crossing).walk.any Walk.accessible = true) : s.callEvent e = s := by
  cases walk : (s.crossing e.crossing).walk with
  | none => obtain st | st := st <;> simp only [State.callEvent, st, walk]
  | some w =>
    rw [State.callEvent_walk walk st]
    rw [walk] at served
    refine if_neg ?_
    obtain normal | accessible := served
    · simp [normal]
    · simp [show w.accessible = true from accessible]

/-! ### The host's calls (R43, R44) -/

theorem exec_placeCall (takes : s.Takes) (tag crossing approach accessible : Byte) :
    exec (.placeCall tag crossing approach accessible) s =
      .next ((handlePlaceCall crossing approach accessible s.handling).replied 0x05 tag) :=
  congrArg Host.Outcome.next (s.takeRequest_takes _ _ _ takes)

theorem exec_placeCall_of (takes : s.Takes) {tag crossing : Byte} (number : crossing.toNat = n.val + 1) (acc : Bool) :
    exec (.placeCall tag crossing (approachCode ap) (yesNo acc)) s =
      .next ((if (s.crossing n).state = .dark then refuse s.handling .badState
        else done (s.handling.callEvent ⟨n, ap, acc, none, false⟩)).replied 0x05 tag) := by
  rw [exec_placeCall takes, handlePlaceCall, show crossingOf crossing = some n from numberOf_eq_some n number, approachOf_code,
    show yesNoOf (yesNo acc) = some acc by cases acc <;> decide]
  rfl

theorem Street.ite_queued_handled (p : Prop) [Decidable p] (v : Street) (x : Notice) :
    (if p then v.handled.queued x else v.handled) = (if p then v.queued x else v).handled := by
  split
  · exact v.queued_handled x
  · rfl

/-- Settles O19. -/
theorem placeCallActsByInterval : Obligations.PlaceCallActsByInterval := by
  unfold Obligations.PlaceCallActsByInterval
  refine ⟨fun s tag crossing approach accessible takes bad => ?_, fun s n ap acc tag crossing takes number sound => ?_⟩
  · have refused : handlePlaceCall crossing approach accessible s.handling = refuse s.handling .badField := by
      unfold handlePlaceCall
      obtain zero | large | large | large := bad
      · rw [crossingOf_none (.inl zero)]
      · rw [crossingOf_none (.inr large)]
      · rw [approachOf_eq_none large]
        cases crossingOf crossing <;> rfl
      · rw [yesNoOf_eq, if_neg (by omega)]
        cases crossingOf crossing <;> cases approachOf approach <;> rfl
    rw [exec_placeCall takes, refused]
    exact congrArg _ (s.handling_refused 0x05 tag .badField (by decide))
  · intro c command old new
    have run : exec command s = _ := exec_placeCall_of takes number acc
    have sound := ((Crossing.sound_iff _).mp sound).1
    refine ⟨fun dark => ?_, fun st served => ?_, fun st => ?_⟩
    · rw [run, if_pos dark]
      exact congrArg _ (s.handling_refused 0x05 tag .badState (by decide))
    · have awake : ¬ c.state = .dark := fun dark => by rw [dark] at st; exact st.elim nofun nofun
      rw [run, if_neg awake, State.callEvent_absorbed (s := s.handling) (e := ⟨n, ap, acc, none, false⟩) st served]
      exact congrArg _ (s.handling_done 0x05 tag (by decide))
    · have awake : ¬ c.state = .dark := fun dark => by rw [dark] at st; exact st.elim nofun (·.elim nofun (·.elim nofun (·.elim nofun nofun)))
      rw [if_neg awake, State.callEvent_registers (s := s.handling) (e := ⟨n, ap, acc, none, false⟩) st] at run
      refine ⟨_, run, ?_⟩
      obtain ⟨only, street, plays, _⟩ := s.handling.registerAs_host true ⟨n, ap, acc, none, false⟩ rfl sound
      have handled : (s.handling.registerAs true ⟨n, ap, acc, none, false⟩).street =
          (if callNoticed old acc then s.street.queued (.call n ap new.accessible none) else s.street).handled := by
        rw [street]
        exact Street.ite_queued_handled _ _ _
      have answer := done_street (kind := 0x05) tag (by decide) handled
      change s.Only n _ ((done (s.handling.registerAs true ⟨n, ap, acc, none, false⟩)).replied 0x05 tag)
        ∧ ((done (s.handling.registerAs true ⟨n, ap, acc, none, false⟩)).replied 0x05 tag).street = _
        ∧ s.PlaysQueuedAt _ ((done (s.handling.registerAs true ⟨n, ap, acc, none, false⟩)).replied 0x05 tag)
      rw [done_replied _ 0x05 tag (by decide)] at answer ⊢
      rw [show (c.state == .rest || c.state == .hold || c.state == .fault) = c.state.waitsLit from
        IntervalState.waitsLit_iff.symm]
      exact ⟨only, answer, plays⟩

/-- R64: a join never overruns the window, and never falls short of Wmin. -/
theorem Walk.afterJoin_bounds {w : Walk} {p : Plan} {x cycle : Nat} (fits : p.joinFits w x) :
    let w' := w.afterJoin p x cycle
    p.minWalk ≤ w'.walkLength ∧ w.count + w'.walkLength + w'.clearance + p.buffer ≤ p.remaining x := by
  obtain ⟨_, room⟩ := fits
  simp only [Walk.afterJoin]
  split <;> omega

/-- R66: an extension never overruns the window, and never shortens the walk. -/
theorem Walk.afterExtension_bounds {w : Walk} {p : Plan} {x cycle : Nat} (fits : p.extensionFits w x) :
    let w' := w.afterExtension p x cycle
    w.count ≤ w'.count ∧ w'.count + w'.clearance + p.buffer ≤ p.remaining x := by
  obtain ⟨_, room⟩ := fits
  simp only [Walk.afterExtension]
  omega

/-- Settles O20. -/
theorem accessibleCallJoinsOrExtends : Obligations.AccessibleCallJoinsOrExtends := by
  unfold Obligations.AccessibleCallJoinsOrExtends
  intro s n ap tag crossing w takes number sound walk normal c x command fails
  have sound := ((Crossing.sound_iff _).mp sound).1
  let e : CallEvent := ⟨n, ap, true, none, false⟩
  have run (st : c.state = .starting ∨ c.state = .walk) :
      exec command s = .next ((done (s.handling.walkEvent e)).replied 0x05 tag) := by
    have awake : ¬ c.state = .dark := fun dark => by rw [dark] at st; exact st.elim nofun nofun
    refine (exec_placeCall_of takes number true).trans ?_
    rw [if_neg awake, State.callEvent_walk (s := s.handling) (e := e) walk st, if_pos (by rw [normal]; rfl)]
  obtain ⟨joins, stretches⟩ := State.walkEvent_sound (s := s.handling) (e := e) sound walk
  have failing (st : c.state = .starting ∨ c.state = .walk) (registers : s.handling.walkEvent e = s.handling.registerFailed e) :
      fails := by
    refine ⟨_, run st, ?_⟩
    obtain ⟨only, street, plays, stations⟩ := s.handling.registerAs_host true e rfl sound
    have made : s.handling.walkEvent e = s.handling.registerAs true e := registers
    have quiet : c.state.waitsLit = false := by obtain st | st := st <;> rw [st] <;> rfl
    have news : (registered (c.place ap) true none x true).accessible = true := by
      cases c.place ap <;> simp [registered]
    have handled : (s.handling.registerAs true e).street =
        (if callNoticed (c.place ap) true then s.street.queued (.call n ap true none) else s.street).handled := by
      rw [street, show (registered ((s.handling.crossing e.crossing).place e.approach) e.accessible none
        s.handling.tb.tickPos true).accessible = true from news]
      exact Street.ite_queued_handled _ _ _
    have answer := done_street (kind := 0x05) tag (by decide) handled
    rw [made]
    rw [done_replied _ 0x05 tag (by decide)] at answer ⊢
    exact ⟨only, stations quiet, answer⟩
  refine ⟨fun none st => failing st ?_, fun p inForce => ⟨fun st => ⟨fun short => failing (.inl st) ?_, fun fits => ?_⟩,
    fun st => ⟨fun short => failing (.inr st) ?_, fun fits => ?_⟩⟩⟩
  · obtain st | st := st
    · rw [joins st, show s.handling.planInForce e.crossing = .none from none]
      rfl
    · rw [stretches st, show s.handling.planInForce e.crossing = .none from none]
      rfl
  · rw [joins st, show s.handling.planInForce e.crossing = some p from inForce]
    exact State.tryJoin_fails fun q is fits => short (Option.some.inj is ▸ fits)
  · obtain ⟨long, within⟩ := Walk.afterJoin_bounds (cycle := s.tb.cycle) fits
    refine ⟨long, within, (run (.inl st)).trans ?_⟩
    rw [joins st, show s.handling.planInForce e.crossing = some p from inForce, State.tryJoin_fits (s := s.handling) fits,
      done_replied _ 0x05 tag (by decide)]
    rfl
  · rw [stretches st, show s.handling.planInForce e.crossing = some p from inForce]
    exact State.tryExtend_fails fun q is fits => short (Option.some.inj is ▸ fits)
  · obtain ⟨long, within⟩ := Walk.afterExtension_bounds (cycle := s.tb.cycle) fits
    refine ⟨long, within, (run (.inr st)).trans ?_⟩
    rw [stretches st, show s.handling.planInForce e.crossing = some p from inForce, State.tryExtend_fits (s := s.handling) fits,
      done_replied _ 0x05 tag (by decide)]
    have told := s.street.queued_handled (.extend n ((x + (w.afterExtension p x s.tb.cycle).count) % s.tb.cycle)
      (w.afterExtension p x s.tb.cycle).release)
    have handled := congrArg (fun u : Street => { s.setCrossing n { c with walk := some (w.afterExtension p x s.tb.cycle) } with
      street := { u with reply := some ⟨.reply, replyFrame 0x05 tag .ok []⟩ } }) told
    exact congrArg Host.Outcome.next handled

theorem exec_cancelCall (takes : s.Takes) (tag crossing approach : Byte) : exec (.cancelCall tag crossing approach) s =
    .next ((handleCancelCall crossing approach s.handling).replied 0x06 tag) :=
  congrArg Host.Outcome.next (s.takeRequest_takes _ _ _ takes)

/-- Settles O21. -/
theorem cancelCallEmptiesThePlace : Obligations.CancelCallEmptiesThePlace := by
  unfold Obligations.CancelCallEmptiesThePlace
  refine ⟨fun s tag crossing approach takes bad => ?_, fun s n ap tag crossing takes number sound => ?_⟩
  · have refused : handleCancelCall crossing approach s.handling = refuse s.handling .badField := by
      unfold handleCancelCall
      obtain zero | large | large := bad
      · rw [crossingOf_none (.inl zero)]
      · rw [crossingOf_none (.inr large)]
      · rw [approachOf_eq_none large]
        cases crossingOf crossing <;> rfl
    rw [exec_cancelCall takes, refused]
    exact congrArg _ (s.handling_refused 0x06 tag .badField (by decide))
  · have sound := ((Crossing.sound_iff _).mp sound).1
    have run : exec (.cancelCall tag crossing (approachCode ap)) s = .next ((if ((s.crossing n).place ap).isNone then
        done s.handling else done ((s.handling.modCrossing n fun c => c.setPlace ap none).placeChanged n ap none)).replied
          0x06 tag) := by
      rw [exec_cancelCall takes, handleCancelCall, show crossingOf crossing = some n from numberOf_eq_some n number,
        approachOf_code]
      rfl
    refine ⟨_, run, ?_⟩
    rw [← IntervalState.waitsLit_iff (st := (s.crossing n).state)] 
    cases held : (s.crossing n).place ap with
    | none =>
      have same : (s.crossing n).setPlace ap none = s.crossing n := by
        cases ap with
        | a => exact congrArg (fun r => { s.crossing n with placeA := r }) held.symm
        | b => exact congrArg (fun r => { s.crossing n with placeB := r }) held.symm
      rw [same, Option.isNone_none, if_pos rfl, s.handling_done 0x06 tag (by decide)]
      refine ⟨⟨rfl, fun _ _ => rfl, rfl, .refl s⟩, rfl, fun a => ?_⟩
      change s.station a = _
      cases (s.station a).binding <;> simp
    | some r =>
      rw [Option.isNone_some, if_neg (by decide)]
      have at_n := s.handling.modCrossing_self n fun c => c.setPlace ap none
      have only := s.handling.modCrossing_only n fun c => c.setPlace ap none
      have stations : (s.handling.modCrossing n fun c => c.setPlace ap none).stations = s.stations := rfl
      have street : (s.handling.modCrossing n fun c => c.setPlace ap none).street = s.street.handled := rfl
      generalize s.handling.modCrossing n (fun c => c.setPlace ap none) = v at *
      have sound' : (v.crossing n).activeSound = true := by
        rw [at_n]
        exact (Crossing.setPlace_activeSound _ _ _).trans sound
      have state : (v.crossing n).state = (s.crossing n).state := by
        rw [at_n]
        exact Crossing.setPlace_state _ _ _
      obtain ⟨plays, _⟩ := v.placeChanged_station n ap none sound'
      have queued := v.placeChanged_queued n ap sound'
      have onlyT := only.playsOnly plays
      have told : s.PlaysQueuedAt (fun m x => m == n && x == ap && (Option.some r).isSome && (s.crossing n).state.waitsLit)
          (v.placeChanged n ap none) := fun a => by
        have now := queued a
        have same : v.station a = s.station a := by
          unfold State.station
          rw [stations]
        rw [same, state] at now
        simpa only [Option.isSome_some, Bool.and_true] using now
      have answer := done_street (kind := 0x06) tag (by decide) (plays.street.trans street)
      rw [done_replied _ 0x06 tag (by decide)] at answer ⊢
      exact ⟨onlyT, answer, told⟩

end

end Sys2Proof.Machine
end

section
/-! SUPPORT. The poll of an OWNED station (spec 03, 07): what a reply's report, its press and its sample make of the part. -/

namespace Sys2Proof.Machine

section
variable {s t u v : State} {n : CrossingId} {ap : Approach} {a : StationId}

/-! ### What a PLAY's content reads (R136) -/

theorem State.playFor_congr {b : Binding} (core : (t.crossing b.crossing).core = (s.crossing b.crossing).core)
    (patterns : t.patterns = s.patterns) (tb : t.tb = s.tb) (frame : t.link.frame = s.link.frame)
    (mirror : (t.station a).mirror = (s.station a).mirror) (bound : (t.station a).binding = (s.station a).binding)
    (ambient : (t.station a).ambient = (s.station a).ambient) (st : IntervalState) : t.playFor a b st = s.playFor a b st := by
  have values := State.planValues_core core patterns
  have level : t.targetLevel a = s.targetLevel a := by
    unfold State.targetLevel
    rw [bound, ambient, tb]
  have walk := congrArg Crossing.walk core
  change (t.crossing b.crossing).walk = (s.crossing b.crossing).walk at walk
  have launch : t.launchFor b.crossing st = s.launchFor b.crossing st := by
    unfold State.launchFor
    rw [walk, frame]
  have places := congrArg (fun c : Crossing => c.place b.approach) core
  have place : (t.crossing b.crossing).place b.approach = (s.crossing b.crossing).place b.approach := by
    cases ap : b.approach <;> rw [ap] at places <;> exact places
  unfold State.playFor
  rw [values, mirror, level, launch, place]

/-! ### The ambient sample (R142, R143, R145) -/

/-- What a sample, and the going on after the transaction, change: items of station a's level, and the line. -/
structure State.SampleOnly (a : StationId) (s t : State) : Prop where
  rest : t = { s with stations := t.stations, link := t.link }
  frame : t.link.frame = s.link.frame
  other : ∀ y, y ≠ a → t.station y = s.station y
  own : t.station a = { s.station a with
    ambient := (t.station a).ambient, level := (t.station a).level, settings := (t.station a).settings }

theorem State.SampleOnly.refl (s : State) : State.SampleOnly a s s := ⟨rfl, rfl, fun _ _ => rfl, rfl⟩

theorem State.SampleOnly.trans (h : State.SampleOnly a s t) (k : State.SampleOnly a t u) : State.SampleOnly a s u where
  rest := by
    conv_lhs => rw [k.rest]
    conv_lhs => rw [h.rest]
  frame := k.frame.trans h.frame
  other y e := (k.other y e).trans (h.other y e)
  own := by rw [k.own, h.own]

theorem State.modStation_sampleOnly (s : State) (f : Station → Station) (own : f (s.station a) = { s.station a with
    ambient := (f (s.station a)).ambient, level := (f (s.station a)).level, settings := (f (s.station a)).settings }) :
    State.SampleOnly a s (s.modStation a f) := by
  have at_a : (s.modStation a f).station a = f (s.station a) := (s.modStation_station a a f).trans (if_pos rfl)
  refine ⟨rfl, rfl, fun y e => (s.modStation_station a y f).trans (if_neg e), ?_⟩
  rw [at_a]
  exact own

theorem State.addSetting_sampleOnly (s : State) (x : Setting) : State.SampleOnly a s (s.addSetting a x) := by
  unfold State.addSetting
  refine State.SampleOnly.trans ?_ (State.modStation_sampleOnly _ (fun t => { t with settings := t.settings.add x }) rfl)
  split
  · have same := s.markAgain_eq a fun i => i == x.item
    have link := s.markAgain_link a fun i => i == x.item
    refine ⟨?_, link.frame, fun y _ => s.markAgain_station _ _ y, by rw [s.markAgain_station]⟩
    generalize (s.markAgain a fun i => i == x.item).link = l at same
    rw [same]
  · exact .refl s

theorem State.sampleFrom_sampleOnly (s : State) (r : PollReport) : State.SampleOnly a s (s.sampleFrom a r) := by
  unfold State.sampleFrom State.takeSample State.reevaluateLevel
  split
  · refine State.SampleOnly.trans
      (s.modStation_sampleOnly (fun t => { t with ambient := filtered t.ambient (sampleOf r.ambient) }) rfl) ?_
    split
    · have target : State.SampleOnly a (s.modStation a fun t => { t with ambient := filtered t.ambient (sampleOf r.ambient) })
          ((s.modStation a fun t => { t with ambient := filtered t.ambient (sampleOf r.ambient) }).takeTarget a) := by
        unfold State.takeTarget
        generalize s.modStation a (fun t => { t with ambient := filtered t.ambient (sampleOf r.ambient) }) = w
        exact w.modStation_sampleOnly (fun t => { t with level := w.targetLevel a }) rfl
      dsimp only
      split
      · exact target.trans (State.addSetting_sampleOnly _ _)
      · exact target
    · exact .refl _
  · exact .refl s

theorem State.proceed_sampleOnly (s : State) (x : Transaction) : State.SampleOnly a s (s.proceed x) := by
  have same := s.proceed_eq x
  refine ⟨?_, by rw [same], fun y _ => State.proceed_station, by rw [State.proceed_station]⟩
  generalize (s.proceed x).link.activity = activity, (s.proceed x).link.sent = sent, (s.proceed x).link.used = used,
    (s.proceed x).link.pointer = pointer at same
  rw [same]

/-! ### The report of a reply (R125) -/

/-- R125: the part once a poll reply's mode and flags are taken, on an idle line. -/
def State.reportTaken (s : State) (a : StationId) (reply : KerbReply) : State :=
  { s.setStation a ((s.station a).reported reply) with
    link := { s.link with activity := .idle }, street := s.street.told a (s.station a) reply }

theorem Station.report_reported (x : Station) (reply : KerbReply) (y : Station) (same : y = { x with failures := 0 }) :
    y.report (pollReport reply) = x.reported reply := by
  subst same
  rfl

theorem Street.told_eq (v : Street) (a : StationId) (x : Station) (reply : KerbReply) :
    (if x.flagsChange (pollReport reply) = true then v.queued ((x.reported reply).notice a) else v) = v.told a x reply := by
  have flags : x.flagsChange (pollReport reply) = true ↔ ¬ ((x.reported reply).speaker = x.speaker
      ∧ (x.reported reply).tactile = x.tactile ∧ (x.reported reply).mic = x.mic) := by
    have speaker : (pollReport reply).speaker = (x.reported reply).speaker := rfl
    have tactile : (pollReport reply).tactile = (x.reported reply).tactile := rfl
    have mic : (pollReport reply).mic = (x.reported reply).mic := rfl
    unfold Station.flagsChange
    rw [speaker, tactile, mic]
    simp only [Bool.or_eq_true, bne_iff_ne, ne_eq, or_assoc]
    rw [eq_comm (a := x.speaker), eq_comm (a := x.tactile), eq_comm (a := x.mic)]
    tauto
  unfold Street.told
  dsimp only
  by_cases same : (x.reported reply).speaker = x.speaker ∧ (x.reported reply).tactile = x.tactile
      ∧ (x.reported reply).mic = x.mic
  · rw [if_pos same, if_neg fun changed => flags.mp changed same]
  · rw [if_neg same, if_pos (flags.mpr same)]

/-- R102, R125: the report of a poll that ends OK. -/
theorem State.takeReport_taken (s : State) (a : StationId) (reply : KerbReply) :
    ((s.idled.clearFailures a).clearFailures a).takeReport a (pollReport reply) = s.reportTaken a reply := by
  have cleared : ((s.idled.clearFailures a).clearFailures a).station a = { s.station a with failures := 0 } := by
    simp [State.clearFailures_station]
  have street : ((s.idled.clearFailures a).clearFailures a).street = s.street := rfl
  have stations : ∀ b, (((s.idled.clearFailures a).clearFailures a).takeReport a (pollReport reply)).station b =
      (s.setStation a ((s.station a).reported reply)).station b := fun b => by
    have own := s.modStation_station a b fun _ => (s.station a).reported reply
    refine Eq.trans ?_ own.symm
    rw [State.takeReport_station, cleared]
    by_cases e : b = a
    · rw [if_pos e, if_pos e]
      exact Station.report_reported _ reply _ rfl
    · rw [if_neg e, if_neg e]
      simp [State.clearFailures_station, e]
  have told : (((s.idled.clearFailures a).clearFailures a).takeReport a (pollReport reply)).street =
      s.street.told a (s.station a) reply := by
    rw [State.takeReport_street, cleared, street]
    exact Street.told_eq s.street a (s.station a) reply
  have rest : ((s.idled.clearFailures a).clearFailures a).takeReport a (pollReport reply) = { s with
      link := { s.link with activity := .idle }
      stations := (((s.idled.clearFailures a).clearFailures a).takeReport a (pollReport reply)).stations
      street := (((s.idled.clearFailures a).clearFailures a).takeReport a (pollReport reply)).street } := by
    unfold State.takeReport
    dsimp only
    split <;> rfl
  rw [rest, told, State.stations_ext stations]
  rfl

/-- R102: the end of the poll of an OWNED station that reports OWNED, its crossing's records sound. -/
theorem exec_poll_owned {reply : KerbReply} {again : Bool} {b : Binding} (carries : s.Carries a .poll again)
    (ok : OkReply a .poll reply) (owned : (s.station a).owner = .owned) (reports : replyByte reply 2 = 1)
    (bound : (s.station a).binding = some b) (sound : (s.crossing b.crossing).sound = true) :
    exec (.poll reply) s = .next ((((s.reportTaken a reply).decodePress a (pollReport reply).press).sampleFrom a
      (pollReport reply)).proceed ⟨a, .poll, false, again⟩) := by
  have run := exec_ending_ok (item := .poll) carries ok
  refine run.trans ?_
  have mode : (pollReport reply).mode = .owned := if_pos reports
  have owner : (((s.idled.clearFailures a).clearFailures a).station a).owner = .owned := by
    simpa [State.clearFailures_station] using owned
  have taken : (s.reportTaken a reply).station a = (s.station a).reported reply :=
    (s.modStation_station a a fun _ => (s.station a).reported reply).trans (if_pos rfl)
  have settled : (s.idled.clearFailures a).pollOk a (pollReport reply) =
      ((s.reportTaken a reply).decodePress a (pollReport reply).press).sampleFrom a (pollReport reply) := by
    unfold State.pollOk
    simp only [owner, mode]
    rw [State.takeReport_taken]
    refine State.pressAndSample_sound _ a _ fun b' bound' => ?_
    rw [taken] at bound'
    obtain rfl : b = b' := Option.some.inj (bound.symm.trans bound')
    exact sound
  change Host.Outcome.next (((s.idled.clearFailures a).pollOk a (pollReport reply)).proceed _) = _
  rw [settled]

/-! ### Registration from a station (R38 to R40, R42, R138) -/

/-- R40: the acknowledgement of a registration. -/
def State.ackFor (s : State) (n : CrossingId) (clip : Nat) (newly : Bool) (x : Station) : Ack :=
  if newly = true ∧ x.mirror.holds clip = true then ⟨0, clip⟩ else ⟨(s.planValues n).acknowledge, 0⟩

theorem State.requestAck_sound (s : State) (n : CrossingId) (a : StationId) (newly : Bool)
    (sound : (s.crossing n).activeSound = true) : s.requestAck n a newly =
      s.queueUrgent a (.ack (s.ackFor n (s.station a).locateClip newly (s.station a))) := by
  unfold State.requestAck State.ackFor
  dsimp only
  rw [checkActive_sound n s sound]
  by_cases holds : newly = true ∧ (s.station a).mirror.holds (s.station a).locateClip = true
  · rw [if_pos holds, if_pos (by rw [holds.1, holds.2]; rfl)]
  · rw [if_neg holds, if_neg fun h => holds ((Bool.and_eq_true _ _).mp h)]

theorem State.queueUrgent_rest (s : State) (a : StationId) (x : Urgent) :
    s.queueUrgent a x = { s with stations := (s.queueUrgent a x).stations, link := (s.queueUrgent a x).link } := by
  unfold State.queueUrgent
  split
  · have same := s.markAgain_eq a fun i => if x.isPlay then i.isPlay else i == .ack
    generalize (s.markAgain a fun i => if x.isPlay then i.isPlay else i == .ack).link = l at same
    rw [same]
    rfl
  · rfl

/-- R40: the event makes the record of its place accessible. -/
def State.newly (s : State) (counted : Bool) (e : CallEvent) : Bool :=
  let old := (s.crossing e.crossing).place e.approach
  (registered old e.accessible e.source s.tb.tickPos counted).accessible && !old.any Call.accessible

/-- R38 to R40: station a's urgent list after its press is registered: an ACK, but for an upgrade of an accessible record. -/
def State.acknowledged (s : State) (counted : Bool) (e : CallEvent) (a : StationId) : List Urgent :=
  if e.upgrade && !(s.newly counted e) then (s.station a).urgent
  else urgentAdd (s.station a).urgent (.ack (s.ackFor e.crossing (s.station a).locateClip (e.accessible && s.newly counted e)
    (s.station a)))

/-- R38 to R40, R42, R138: a registration that a station's press makes. -/
structure State.Registered (a : StationId) (e : CallEvent) (counted : Bool) (s t : State) : Prop where
  rest : t = { s with crossings := t.crossings, stations := t.stations, link := t.link, street := t.street }
  frame : t.link.frame = s.link.frame
  crossings : t.crossings = (s.placed counted e).crossings
  street : t.street = (s.placed counted e).street
  own : t.station a = { s.station a with urgent := s.acknowledged counted e a }
  reached : ∀ y, y ≠ a → ((s.crossing e.crossing).place e.approach).isNone = true →
    s.PlaceReaches e.crossing e.approach (some a) y → t.station y = (s.placed counted e).playedStation y
  missed : ∀ y, y ≠ a → ¬ (((s.crossing e.crossing).place e.approach).isNone = true
    ∧ s.PlaceReaches e.crossing e.approach (some a) y) → t.station y = s.station y

/-- R138: the stations a registration's PLAYs reach, and the one that pressed. -/
theorem State.placed_reaches (s : State) (counted : Bool) (e : CallEvent) (presser : CallSource) (y : StationId) :
    (s.placed counted e).PlaceReaches e.crossing e.approach presser y ↔ s.PlaceReaches e.crossing e.approach presser y := by
  unfold State.PlaceReaches
  rw [s.placed_crossing, Crossing.setPlace_state]
  exact Iff.rfl

theorem State.registerAs_station (s : State) (counted : Bool) (e : CallEvent) (source : e.source = some a)
    (sound : (s.crossing e.crossing).activeSound = true) : State.Registered a e counted s (s.registerAs counted e) := by
  have at_n := s.placed_crossing counted e
  have sound' : ((s.placed counted e).crossing e.crossing).activeSound = true := by
    rw [at_n]
    exact (Crossing.setPlace_activeSound _ _ _).trans sound
  obtain ⟨u, only, street, reached, missed, own, made⟩ : ∃ u, (s.placed counted e).PlaysOnly u ∧ u.street = (s.placed counted e).street
      ∧ (∀ y, y ≠ a → ((s.crossing e.crossing).place e.approach).isNone = true →
          s.PlaceReaches e.crossing e.approach (some a) y → u.station y = (s.placed counted e).playedStation y)
      ∧ (∀ y, y ≠ a → ¬ (((s.crossing e.crossing).place e.approach).isNone = true
          ∧ s.PlaceReaches e.crossing e.approach (some a) y) → u.station y = s.station y)
      ∧ u.station a = s.station a
      ∧ s.registerAs counted e = if e.upgrade && !(s.newly counted e) then u
        else u.requestAck e.crossing a (e.accessible && s.newly counted e) := by
    have made := s.registerAs_eq counted e
    rw [source] at made
    dsimp only at made
    cases isNone : ((s.crossing e.crossing).place e.approach).isNone with
    | false =>
      rw [isNone] at made
      refine ⟨_, .refl _, rfl, fun _ _ none => absurd none (by decide), fun _ _ _ => rfl, rfl, ?_⟩
      rw [State.newly, source]
      exact made
    | true =>
      rw [isNone] at made
      obtain ⟨only, stations⟩ := (s.placed counted e).placeChanged_station e.crossing e.approach (some a) sound'
      refine ⟨(s.placed counted e).placeChanged e.crossing e.approach (some a), only, only.street, fun y _ _ reaches => ?_,
        fun y _ missed => ?_, ?_, ?_⟩
      · exact (stations y).1 ((s.placed_reaches counted e _ y).mpr reaches)
      · exact (stations y).2 fun reaches => missed ⟨rfl, (s.placed_reaches counted e _ y).mp reaches⟩
      · exact (stations a).2 fun ⟨_, _, _, other⟩ => other rfl
      · rw [State.newly, source]
        exact made
  have rest : u = { s with crossings := u.crossings, stations := u.stations, link := u.link, street := u.street } := by
    conv_lhs => rw [only.rest]
    rw [only.crossings, only.street]
    rfl
  have frame : u.link.frame = s.link.frame := only.link.frame
  rw [made]
  cases silent : e.upgrade && !(s.newly counted e) with
  | true =>
    rw [if_pos rfl]
    refine ⟨rest, frame, only.crossings, street, ?_, reached, missed⟩
    rw [own, State.acknowledged, silent]
    rfl
  | false =>
    have crossing := only.crossing e.crossing
    have values : u.planValues e.crossing = s.planValues e.crossing := by
      refine State.planValues_of ?_ ?_ only.patterns <;> rw [crossing, at_n] <;> cases e.approach <;> rfl
    have ack : u.ackFor e.crossing (u.station a).locateClip (e.accessible && s.newly counted e) (u.station a) =
        s.ackFor e.crossing (s.station a).locateClip (e.accessible && s.newly counted e) (s.station a) := by
      unfold State.ackFor
      rw [own, values]
    rw [if_neg (by decide), State.requestAck_sound u _ _ _ (by rw [crossing]; exact sound'), ack]
    generalize given : s.ackFor e.crossing (s.station a).locateClip (e.accessible && s.newly counted e) (s.station a) = k at *
    have queued := u.queueUrgent_rest a (.ack k)
    have stations := u.queueUrgent_station a (.ack k)
    refine ⟨?_, (State.queueUrgent_link u a _).frame.trans frame, ?_, ?_, ?_, fun y other none reaches => ?_,
      fun y other miss => ?_⟩
    · rw [State.queueUrgent_crossings, State.queueUrgent_street]
      exact queued.trans (congrArg (fun v : State => { v with
        stations := (u.queueUrgent a (.ack k)).stations, link := (u.queueUrgent a (.ack k)).link }) rest)
    · rw [State.queueUrgent_crossings, only.crossings]
    · rw [State.queueUrgent_street, street]
    · rw [stations, if_pos rfl, own, State.acknowledged, silent, given]
      rfl
    · rw [stations, if_neg other]
      exact reached y other none reaches
    · rw [stations, if_neg other]
      exact missed y other miss

/-- R37, R39, R41, R64, R66: what the event of a press comes to: nothing, a registration, or a changed walk record. -/
inductive State.Heard (e : CallEvent) (s : State) : State → Prop where
  | nothing : State.Heard e s s
  | registered (counted : Bool) : State.Heard e s (s.registerAs counted e)
  | joined (w : Walk) : State.Heard e s (s.modCrossing e.crossing fun c => { c with walk := some w })
  | extended (w : Walk) (x : Notice) :
      State.Heard e s ((s.modCrossing e.crossing fun c => { c with walk := some w }).notify x)

theorem State.callEvent_heard (s : State) (e : CallEvent) (sound : (s.crossing e.crossing).activeSound = true) :
    State.Heard e s (s.callEvent e) := by
  have waits (st : (s.crossing e.crossing).state = .rest ∨ (s.crossing e.crossing).state = .hold
      ∨ (s.crossing e.crossing).state = .fault ∨ (s.crossing e.crossing).state = .clearance
      ∨ (s.crossing e.crossing).state = .buffer) : State.Heard e s (s.callEvent e) := by
    rw [State.callEvent_registers st]
    exact .registered _
  have walks (st : (s.crossing e.crossing).state = .starting ∨ (s.crossing e.crossing).state = .walk) :
      State.Heard e s (s.callEvent e) := by
    cases walk : (s.crossing e.crossing).walk with
    | none =>
      have absorbed : s.callEvent e = s := by obtain st | st := st <;> simp only [State.callEvent, st, walk]
      rw [absorbed]
      exact .nothing
    | some w =>
      rw [State.callEvent_walk walk st]
      obtain ⟨joins, stretches⟩ := State.walkEvent_sound sound walk
      split
      · obtain st | st := st
        · rw [joins st]
          cases s.planInForce e.crossing with
          | none => exact .registered _
          | some p =>
            by_cases fits : p.joinFits w s.tb.tickPos
            · rw [State.tryJoin_fits fits]
              exact .joined _
            · rw [State.tryJoin_fails fun q is => Option.some.inj is ▸ fits]
              exact .registered _
        · rw [stretches st]
          cases s.planInForce e.crossing with
          | none => exact .registered _
          | some p =>
            by_cases fits : p.extensionFits w s.tb.tickPos
            · rw [State.tryExtend_fits fits]
              exact .extended _ _
            · rw [State.tryExtend_fails fun q is => Option.some.inj is ▸ fits]
              exact .registered _
      · exact .nothing
  cases st : (s.crossing e.crossing).state with
  | dark =>
    have ignored : s.callEvent e = s := by simp only [State.callEvent, st]
    rw [ignored]
    exact .nothing
  | rest => exact waits (.inl st)
  | hold => exact waits (.inr (.inl st))
  | fault => exact waits (.inr (.inr (.inl st)))
  | clearance => exact waits (.inr (.inr (.inr (.inl st))))
  | buffer => exact waits (.inr (.inr (.inr (.inr st))))
  | starting => exact walks (.inl st)
  | walk => exact walks (.inr st)

/-- R39, R138: an event leaves the press state of its station alone, and every station that does not serve its place. -/
theorem State.Heard.station {e : CallEvent} (heard : State.Heard e s t) (source : e.source = some a)
    (sound : (s.crossing e.crossing).activeSound = true) : (t.station a).press = (s.station a).press
      ∧ ∀ y, y ≠ a → (s.station y).serves e.crossing e.approach = false → t.station y = s.station y := by
  cases heard with
  | nothing | joined w | extended w x => exact ⟨rfl, fun _ _ _ => rfl⟩
  | registered counted =>
    have made := s.registerAs_station counted e source sound
    refine ⟨by rw [made.own], fun y ne deaf => made.missed y ne fun ⟨_, _, _, serves, _⟩ => ?_⟩
    rw [deaf] at serves
    exact absurd serves nofun

/-- R35, R36: the press state and the event of a reply. -/
theorem PressReport.decode_cases (r : PressReport) (threshold : Nat) (p : PressState) :
    let long := decide (threshold ≤ r.hold)
    (p.last = none → r.decode threshold p = (⟨some r.sequence, r.held⟩, none))
    ∧ (∀ l, p.last = some l → r.sequence ≠ l →
        r.decode threshold p = (⟨some r.sequence, long && r.held⟩, some (long, false)))
    ∧ (∀ l, p.last = some l → r.sequence = l → r.held = true ∧ long = true ∧ p.upgraded = false →
        r.decode threshold p = (⟨some l, true⟩, some (true, true)))
    ∧ (∀ l, p.last = some l → r.sequence = l → ¬ (r.held = true ∧ long = true ∧ p.upgraded = false) →
        r.decode threshold p = (⟨some l, p.upgraded && r.held⟩, none)) := by
  intro long
  refine ⟨fun none => ?_, fun l last moved => ?_, fun l last same held => ?_, fun l last same other => ?_⟩
  · simp only [PressReport.decode, none]
  · have differs : r.sequence - l ≠ 0 := fun zero => moved (sub_eq_zero.mp zero)
    simp only [PressReport.decode, last]
    rw [if_pos differs]
  · have equal : ¬ r.sequence - l ≠ 0 := fun h => h (sub_eq_zero.mpr same)
    obtain ⟨isHeld, isLong, fresh⟩ := held
    have isLong : decide (threshold ≤ r.hold) = true := isLong
    simp only [PressReport.decode, last]
    rw [if_neg equal, if_pos (by rw [isHeld, isLong, fresh]; rfl)]
  · have equal : ¬ r.sequence - l ≠ 0 := fun h => h (sub_eq_zero.mpr same)
    simp only [PressReport.decode, last]
    rw [if_neg equal, if_neg]
    intro all
    simp only [Bool.and_eq_true, Bool.not_eq_true'] at all
    exact other ⟨all.1.1, all.1.2, all.2⟩

/-- R35, R36: a decoded reply without an event sets the press state alone. -/
theorem State.decodePress_quiet {b : Binding} {r : PressReport} {p : PressState} (bound : (s.station a).binding = some b)
    (decoded : r.decode b.settings.holdThreshold (s.station a).press = (p, none)) :
    s.decodePress a r = s.modStation a fun t => { t with press := p } := by
  unfold State.decodePress
  simp only [bound, decoded]

/-- R35, R36: a decoded reply with an event hands it on. -/
theorem State.decodePress_rings {b : Binding} {r : PressReport} {p : PressState} {accessible upgrade : Bool}
    (bound : (s.station a).binding = some b)
    (decoded : r.decode b.settings.holdThreshold (s.station a).press = (p, some (accessible, upgrade))) :
    s.decodePress a r = (s.modStation a fun t => { t with press := p }).callEvent
      ⟨b.crossing, b.approach, accessible, some a, upgrade⟩ := by
  unfold State.decodePress
  simp only [bound, decoded]

/-- R35, R125: the part once a poll reply's report and its press state are taken. -/
def State.pressTaken (s : State) (a : StationId) (reply : KerbReply) (p : PressState) : State :=
  (s.reportTaken a reply).modStation a fun t => { t with press := p }

theorem State.pressTaken_own (s : State) (a : StationId) (reply : KerbReply) (p : PressState) :
    (s.pressTaken a reply p).station a = { (s.station a).reported reply with press := p } := by
  have taken : (s.reportTaken a reply).station a = (s.station a).reported reply :=
    (s.modStation_station a a fun _ => (s.station a).reported reply).trans (if_pos rfl)
  rw [State.pressTaken, State.modStation_station, if_pos rfl, taken]

theorem State.pressTaken_other (s : State) (reply : KerbReply) (p : PressState) {y : StationId} (other : y ≠ a) :
    (s.pressTaken a reply p).station y = s.station y := by
  have taken : (s.reportTaken a reply).station y = s.station y :=
    (s.modStation_station a y fun _ => (s.station a).reported reply).trans (if_neg other)
  rw [State.pressTaken, State.modStation_station, if_neg other, taken]

theorem State.SampleOnly.crossings (h : State.SampleOnly a s t) : t.crossings = s.crossings := by rw [h.rest]

theorem State.SampleOnly.street (h : State.SampleOnly a s t) : t.street = s.street := by rw [h.rest]

theorem State.SampleOnly.patterns (h : State.SampleOnly a s t) : t.patterns = s.patterns := by rw [h.rest]

theorem State.SampleOnly.tb (h : State.SampleOnly a s t) : t.tb = s.tb := by rw [h.rest]

theorem State.Registered.patterns {e : CallEvent} {counted : Bool} (h : State.Registered a e counted s t) :
    t.patterns = s.patterns := by rw [h.rest]

theorem State.Registered.tb {e : CallEvent} {counted : Bool} (h : State.Registered a e counted s t) : t.tb = s.tb := by
  rw [h.rest]

theorem State.SampleOnly.urgent (h : State.SampleOnly a s t) : (t.station a).urgent = (s.station a).urgent := by rw [h.own]

theorem State.SampleOnly.press (h : State.SampleOnly a s t) : (t.station a).press = (s.station a).press := by rw [h.own]

theorem State.placeReaches_iff {b : Binding} {y : StationId} (bound : (s.station y).binding = some b) (ne : y ≠ a) :
    s.PlaceReaches n ap (some a) y ↔ (s.station y).owner = .owned ∧ b.crossing = n ∧ b.approach = ap
      ∧ ((s.crossing n).state = .rest ∨ (s.crossing n).state = .hold ∨ (s.crossing n).state = .fault) := by
  have other : (some y : CallSource) ≠ some a := fun same => ne (Option.some.inj same)
  unfold State.PlaceReaches
  rw [Station.serves_iff, bound, IntervalState.waitsLit_iff]
  simp only [Option.some.injEq, exists_eq_left', Bool.or_eq_true, beq_iff_eq, or_assoc]
  tauto

/-- What no part of a press touches: all but the crossings, the stations, the line and the Street Link. -/
theorem State.pressTaken_beside {reply : KerbReply} {p : PressState} (rest : t = { s.pressTaken a reply p with
    crossings := t.crossings, stations := t.stations, link := t.link, street := t.street }) :
    t.budgetLimit = s.budgetLimit ∧ s.Beside { t with link := s.link } :=
  rest ▸ ⟨rfl, rfl, rfl, .inl rfl, rfl, rfl, rfl, rfl, rfl, rfl⟩

theorem State.SampleOnly.budgetBeside {reply : KerbReply} {p : PressState} (rest : u = { s.pressTaken a reply p with
    crossings := u.crossings, stations := u.stations, link := u.link, street := u.street }) (after : State.SampleOnly a u t) :
    t.budgetLimit = s.budgetLimit ∧ s.Beside { t with link := s.link } := by
  refine State.pressTaken_beside (a := a) (reply := reply) (p := p) ?_
  conv_lhs => rw [after.rest, rest]
  rw [after.crossings, after.street]

end

/-- Settles O22. -/
theorem pollDecodesThePress : Obligations.PollDecodesThePress := by
  unfold Obligations.PollDecodesThePress
  intro s a again reply b carries ok owned reports bound sound
  have activeSound := ((Crossing.sound_iff _).mp sound).1
  refine ⟨_, exec_poll_owned carries ok owned reports bound sound, ?_⟩
  have sampled : State.SampleOnly a ((s.reportTaken a reply).decodePress a (pollReport reply).press)
      ((((s.reportTaken a reply).decodePress a (pollReport reply).press).sampleFrom a (pollReport reply)).proceed
        ⟨a, .poll, false, again⟩) :=
    (State.sampleFrom_sampleOnly _ _).trans (State.proceed_sampleOnly _ _)
  generalize (((s.reportTaken a reply).decodePress a (pollReport reply).press).sampleFrom a (pollReport reply)).proceed
    ⟨a, .poll, false, again⟩ = t at sampled
  intro n c old x seq held long clip u nothing registers walks happens
  have quiet (p : PressState) (after : State.SampleOnly a (s.pressTaken a reply p) t) : nothing := by
    refine ⟨after.crossings, after.street, ?_⟩
    rw [after.urgent, s.pressTaken_own]
    rfl
  have enters (p : PressState) (accessible upgrade counted : Bool) (after : State.SampleOnly a
      ((s.pressTaken a reply p).registerAs counted ⟨n, b.approach, accessible, some a, upgrade⟩) t) :
      (t.station a).press = p ∧ registers accessible upgrade counted
      ∧ ∀ y, y ≠ a → (s.station y).serves n b.approach = false → t.station y = s.station y := by
    let v := s.pressTaken a reply p
    let e : CallEvent := ⟨n, b.approach, accessible, some a, upgrade⟩
    have made : State.Registered a e counted v (v.registerAs counted e) := v.registerAs_station counted e rfl activeSound
    have crossings : t.crossings = (v.placed counted e).crossings := after.crossings.trans made.crossings
    have crossing (m : CrossingId) : t.crossing m = (v.placed counted e).crossing m :=
      congrArg (fun l : Vector Crossing 8 => l.get m) crossings
    obtain ⟨at_n, others, -, -⟩ := v.placed_only counted e
    have own : v.station a = { (s.station a).reported reply with press := p } := s.pressTaken_own a reply p
    have other {y : StationId} (ne : y ≠ a) : v.station y = s.station y := s.pressTaken_other reply p ne
    have rest := State.SampleOnly.budgetBeside made.rest after
    have urgent : (t.station a).urgent = v.acknowledged counted e a := by rw [after.urgent, made.own]
    have reached := made.reached
    refine ⟨?_, ⟨⟨(crossing n).trans at_n, fun m ne => (crossing m).trans (others m ne), rest⟩, ?_, fun acks => ?_,
      fun up late => ?_, fun y ne => ?_⟩, fun y ne none => ?_⟩
    · rw [after.press, made.own, own]
    · exact after.street.trans made.street
    · have silent : ¬ (upgrade && !(v.newly counted e)) = true := fun late => by
        obtain up | newly := acks
        · rw [up] at late
          exact absurd late nofun
        · have newly : v.newly counted e = true := newly
          rw [newly, Bool.not_true, Bool.and_false] at late
          exact absurd late (by decide)
      have clipped : (v.station a).locateClip = clip := by
        rw [own]
        exact congrArg (fun o : Option Binding => (o.map fun b => b.settings.locateClip).getD 0) bound
      have values : v.planValues n = s.planValues n := State.planValues_congr rfl rfl
      have given : v.ackFor n clip (accessible && v.newly counted e) (v.station a) =
          if accessible = true ∧ v.newly counted e = true ∧ (s.station a).mirror.holds clip = true then ⟨0, clip⟩
          else ⟨(s.planValues n).acknowledge, 0⟩ := by
        unfold State.ackFor
        rw [values, own]
        simp only [Bool.and_eq_true, and_assoc] <;> rfl
      rw [urgent, State.acknowledged, if_neg silent, clipped, given, own]
      rfl
    · have newly : v.newly counted e = false := late
      rw [urgent, State.acknowledged, if_pos (by rw [newly]; exact congrArg (· && true) up), own]
      rfl
    · have same := other ne
      have missed := fun h => (after.other y ne).trans ((made.missed y ne h).trans same)
      cases boundY : (s.station y).binding with
      | none =>
        refine missed fun ⟨_, reaches⟩ => ?_
        obtain ⟨_, bound', _⟩ := Station.serves_iff.mp reaches.2.2.1
        rw [same, boundY] at bound'
        exact nomatch bound'
      | some b' =>
        have reaches : (((v.crossing e.crossing).place e.approach).isNone = true
            ∧ v.PlaceReaches e.crossing e.approach (some a) y) ↔ ((s.station y).owner = .owned ∧ b'.crossing = n
              ∧ b'.approach = b.approach ∧ old = none ∧ (c.state = .rest ∨ c.state = .hold ∨ c.state = .fault)) := by
          rw [State.placeReaches_iff (by rw [same]; exact boundY) ne, same, Option.isNone_iff_eq_none]
          exact ⟨fun ⟨o, w, c', a', st⟩ => ⟨w, c', a', o, st⟩, fun ⟨w, c', a', o, st⟩ => ⟨o, w, c', a', st⟩⟩
        dsimp only
        split
        next hears =>
          obtain ⟨first, reaches'⟩ := reaches.mpr hears
          have at_n : b'.crossing = b.crossing := hears.2.1
          have placed : (v.placed counted e).station y = s.station y := same
          have played : t.station y = (v.placed counted e).playedStation y :=
            (after.other y ne).trans (made.reached y ne first reaches')
          have state : ((v.placed counted e).crossing b'.crossing).state = c.state := by
            rw [at_n, v.placed_crossing counted e]
            exact Crossing.setPlace_state c _ _
          unfold State.playedStation at played
          rw [placed, boundY] at played
          dsimp only at played
          have content : t.playFor y b' c.state = (v.placed counted e).playFor y b' c.state :=
            State.playFor_congr (congrArg Crossing.core (crossing _)) (after.patterns.trans made.patterns) (after.tb.trans made.tb)
              (after.frame.trans made.frame)
              (by rw [played, placed]; rfl) (by rw [played, placed]; rfl) (by rw [played, placed]; rfl) c.state
          rw [content, ← state]
          exact played
        next deaf => exact missed fun h => deaf (reaches.mp h)
    · have same := other ne
      refine (after.other y ne).trans ((made.missed y ne fun ⟨_, reaches⟩ => ?_).trans same)
      have serves := reaches.2.2.1
      rw [same, none] at serves
      exact absurd serves (by decide)
  have walked (p : PressState) (w : Walk) (z : Street)
      (after : State.SampleOnly a { (s.pressTaken a reply p).modCrossing n fun c => { c with walk := some w } with street := z } t) :
      walks w ∧ t.street = z := by
    obtain ⟨at_n, others, -, -⟩ := (s.pressTaken a reply p).modCrossing_only n fun c => { c with walk := some w }
    have crossing (m : CrossingId) : t.crossing m = ((s.pressTaken a reply p).modCrossing n fun c => { c with walk := some w }).crossing m :=
      congrArg (fun l : Vector Crossing 8 => l.get m) after.crossings
    refine ⟨⟨⟨(crossing n).trans at_n, fun m ne => (crossing m).trans (others m ne),
      State.SampleOnly.budgetBeside (t := t) (reply := reply) (p := p) rfl after⟩, ?_⟩, after.street⟩
    rw [after.urgent]
    have same := congrArg Station.urgent (s.pressTaken_own a reply p)
    exact same
  have happening (p : PressState) (accessible upgrade : Bool) (after : State.SampleOnly a
      ((s.pressTaken a reply p).callEvent ⟨n, b.approach, accessible, some a, upgrade⟩) t) : happens accessible upgrade := by
    let v := s.pressTaken a reply p
    let e : CallEvent := ⟨n, b.approach, accessible, some a, upgrade⟩
    refine ⟨fun dark => quiet p ?_, fun st => ?_, fun w walk st => ⟨fun served => quiet p ?_, fun acc normal => ?_⟩⟩
    · rwa [show v.callEvent e = v by simp only [State.callEvent, show (v.crossing e.crossing).state = .dark from dark]] at after
    · rw [show v.callEvent e = v.register e from State.callEvent_registers st] at after
      exact (enters p accessible upgrade (!upgrade) after).2.1
    · rwa [show v.callEvent e = v from State.callEvent_absorbed st (served.imp id fun acc => by
        rw [show (v.crossing e.crossing).walk = some w from walk]; exact acc)] at after
    · have heard : v.callEvent e = v.walkEvent e := by
        rw [State.callEvent_walk (s := v) (e := e) walk st]
        exact if_pos (by rw [normal, show e.accessible = true from acc]; rfl)
      obtain ⟨joins, stretches⟩ := State.walkEvent_sound (s := v) (e := e) activeSound walk
      have inForce : v.planInForce e.crossing = s.planInForce n := rfl
      rw [show (s.pressTaken a reply p).callEvent ⟨n, b.approach, accessible, some a, upgrade⟩ = v.walkEvent e from heard] at after
      have failed (fails : v.walkEvent e = v.registerFailed e) : registers true upgrade true := by
        rw [fails] at after
        have entered := (enters p accessible upgrade true after).2.1
        rwa [acc] at entered
      refine ⟨fun none => ?_, fun q inForce => ⟨fun st => ⟨fun fits => ?_, fun short => failed ?_⟩,
        fun st => ⟨fun fits => ?_, fun short => failed ?_⟩⟩⟩
      · obtain st | st := st
        · exact failed (by rw [joins st, show v.planInForce e.crossing = .none from none]; rfl)
        · exact failed (by rw [stretches st, show v.planInForce e.crossing = .none from none]; rfl)
      · rw [joins st, show v.planInForce e.crossing = some q from inForce, State.tryJoin_fits (s := v) fits] at after
        exact walked p _ u after
      · rw [joins st, show v.planInForce e.crossing = some q from inForce]
        exact State.tryJoin_fails fun q' is fits => short (Option.some.inj is ▸ fits)
      · rw [stretches st, show v.planInForce e.crossing = some q from inForce, State.tryExtend_fits (s := v) fits] at after
        exact walked p _ _ after
      · rw [stretches st, show v.planInForce e.crossing = some q from inForce]
        exact State.tryExtend_fails fun q' is fits => short (Option.some.inj is ▸ fits)
  let r := (pollReport reply).press
  have reported : (s.reportTaken a reply).station a = (s.station a).reported reply :=
    (s.modStation_station a a fun _ => (s.station a).reported reply).trans (if_pos rfl)
  have bound' : ((s.reportTaken a reply).station a).binding = some b := by rw [reported]; exact bound
  have press : ((s.reportTaken a reply).station a).press = (s.station a).press := by rw [reported]; rfl
  have silent {p : PressState} (decoded : r.decode b.settings.holdThreshold (s.station a).press = (p, none)) :
      ((t.station a).press = p ∧ nothing) ∧ ∀ y, y ≠ a → t.station y = s.station y := by
    rw [State.decodePress_quiet bound' (by rw [press]; exact decoded)] at sampled
    refine ⟨⟨?_, quiet p sampled⟩, fun y ne => (sampled.other y ne).trans (s.pressTaken_other reply p ne)⟩
    exact sampled.press.trans (congrArg Station.press (s.pressTaken_own a reply p))
  have ringing {p : PressState} {accessible upgrade : Bool}
      (decoded : r.decode b.settings.holdThreshold (s.station a).press = (p, some (accessible, upgrade))) :
      ((t.station a).press = p ∧ happens accessible upgrade)
      ∧ ∀ y, y ≠ a → (s.station y).serves n b.approach = false → t.station y = s.station y := by
    rw [State.decodePress_rings bound' (by rw [press]; exact decoded)] at sampled
    have own := congrArg Station.press (s.pressTaken_own a reply p)
    have heard := State.callEvent_heard (s.pressTaken a reply p) ⟨n, b.approach, accessible, some a, upgrade⟩ activeSound
    refine ⟨⟨?_, happening p accessible upgrade sampled⟩, fun y ne deaf => ?_⟩
    · exact sampled.press.trans ((heard.station rfl activeSound).1.trans own)
    · have other := s.pressTaken_other reply p ne
      exact (sampled.other y ne).trans (((heard.station rfl activeSound).2 y ne (by rw [other]; exact deaf)).trans other)
  obtain ⟨first, advanced, upgraded, repeated⟩ := r.decode_cases b.settings.holdThreshold (s.station a).press
  refine ⟨fun y ne deaf => ?_, fun last => (silent (first last)).1, fun l last moved => (ringing (advanced l last moved)).1,
    fun l last same rest => (ringing (upgraded l last same rest)).1,
    fun l last same rest => (silent (repeated l last same rest)).1⟩
  cases decoded : r.decode b.settings.holdThreshold (s.station a).press with
  | mk p happened =>
    cases happened with
    | none => exact (silent decoded).2 y ne
    | some event => exact (ringing decoded).2 y ne deaf

end Sys2Proof.Machine
end

section
/-! SUPPORT. What the sequencer's operations and a tick's work keep (spec 04, R55), and the Kerb Link frame that a tick opens
(spec 06, R98, R110, R113). -/

namespace Sys2Proof.Machine

section
variable {s t u v : State} {n : CrossingId}

/-! ### What every operation of the sequencer at a crossing keeps -/

section
variable {P : State → Prop} (cl : ClosedAt n P)
include cl

theorem ClosedAt.noteTruncation {k : TruncationCause} (h : P u) : P (u.noteTruncation n k) :=
  cl.notify _ _ (cl.mod u (fun c => c.modWalk fun w =>
    { w with truncation := some k, release := (u.tb.pos + w.clearance + w.buffer) % u.tb.cycle }) (fun _ => ⟨rfl, rfl⟩) h)

theorem ClosedAt.truncate {k : TruncationCause} (h : P u) : P (u.truncate Machine.checkActive n k) :=
  cl.enterClearance (fun _ => cl.checkActive) (cl.noteTruncation h)

theorem ClosedAt.checkPlanned (h : P u) : P (Machine.checkPlanned n u) := by
  unfold Machine.checkPlanned
  split
  · exact h
  · split
    · exact h
    · exact cl.mod _ _ (fun _ => ⟨rfl, rfl⟩) h
    · exact cl.addCauseWith (fun _ => cl.readActive) (cl.mod _ _ (fun _ => ⟨rfl, rfl⟩) h)

theorem ClosedAt.lightWalk (h : P u) : P (u.lightWalk n) := by
  unfold State.lightWalk
  split
  · exact h
  · exact cl.notify _ _ (cl.heads _ (cl.mod _ _ (fun _ => ⟨rfl, rfl⟩) h))

theorem ClosedAt.releaseWalk (h : P u) : P (u.releaseWalk n) := by
  unfold State.releaseWalk
  split
  · exact h
  · have released := cl.mod _ (fun c => { c with walk := none }) (fun _ => ⟨rfl, rfl⟩) (cl.notify u (.release n) h)
    refine cl.enterWaiting (fun _ => cl.checkActive) ?_
    split
    · exact cl.notify _ _ released
    · exact released

theorem ClosedAt.endClearance (h : P u) : P (u.endClearance n) := by
  unfold State.endClearance
  split
  · exact h
  · split
    · exact cl.releaseWalk h
    · exact cl.enter (fun _ => cl.checkActive) (cl.mod _ _ (fun _ => ⟨rfl, rfl⟩) h)

theorem ClosedAt.startEvaluation (h : P u) : P (u.startEvaluation n) := by
  have read := cl.checkActive h
  unfold State.startEvaluation
  generalize Machine.checkActive n u = v at read
  dsimp only
  split
  · split
    · exact read
    · split
      · exact cl.enter (fun _ => cl.checkActive) (cl.mod _ _ (fun _ => ⟨rfl, rfl⟩) read)
      · exact read
  · exact read

theorem ClosedAt.countStage (h : P u) : P (u.countStage n) := by
  unfold State.countStage
  split
  · exact h
  · next w _ =>
    have counted := cl.mod u (fun c => { c with walk := some { w with count := w.count - 1 } }) (fun _ => ⟨rfl, rfl⟩) h
    dsimp only
    split
    · split
      · exact cl.lightWalk h
      · exact counted
    · split
      · exact cl.enterClearance (fun _ => cl.checkActive) h
      · exact counted
    · split
      · exact cl.endClearance h
      · exact cl.mod _ _ (fun _ => ⟨rfl, rfl⟩) counted
    · split
      · exact cl.releaseWalk h
      · exact counted
    · exact h

theorem ClosedAt.tickCrossing (h : P u) : P (u.tickCrossing n) := by
  have evaluated : P ((u.countStage n).windowStage n) := cl.evaluateWindow (cl.checkActive (cl.countStage h))
  unfold State.tickCrossing State.startStage
  split
  · exact cl.startEvaluation evaluated
  · exact evaluated

theorem ClosedAt.releaseAtThisTick {was : State} (h : P u) : P (State.releaseAtThisTick was n u) := by
  unfold State.releaseAtThisTick
  split
  · exact cl.mod u (fun c => c.modWalk fun w => { w with release := (u.tb.pos + w.clearance + w.buffer - 1) % u.tb.cycle })
      (fun _ => ⟨rfl, rfl⟩) h
  · exact h

theorem ClosedAt.permitFalls (h : P u) : P (u.permitFalls n) := by
  unfold State.permitFalls
  split
  · exact cl.cancel (fun _ => cl.checkActive) h
  · exact cl.addCause h
  · exact cl.addCause h
  · exact cl.addCause h
  · exact h

theorem ClosedAt.hostLossAt (h : P u) : P (u.hostLossAt n) := by
  unfold State.hostLossAt
  split
  · exact cl.cancel (fun _ => cl.checkActive) h
  · exact cl.truncate h
  · exact h

end

theorem State.evaluateWindow_stations (s : State) (n : CrossingId) : (s.evaluateWindow n).stations = s.stations := by
  unfold State.evaluateWindow State.windowEntry State.windowExit
  split
  · dsimp only
    split <;> rfl
  · dsimp only
    split <;> rfl
  · rfl

/-! ### What a tick's work keeps -/

/-- A property that every part of a tick's work keeps, at whatever crossing. -/
structure ClosedInTick (P : State → Prop) : Prop where
  crossing : ∀ n, ClosedAt n P
  needs : ∀ (u v : State) (n : CrossingId), u.stations = v.stations → P u → P (u.recomputeAll (v.ownedAt n))
  channel : ∀ (u : State) (n : CrossingId) (x : Aspect) (f : Channel → Channel), P u → P (u.modCrossing n fun c => c.modChannel x f)
  budget : ∀ u : State, P u → P u.rebudget
  ramps : ∀ u : State, P u → P u.rampAll
  time : ∀ (u : State) (f : Timebase → Timebase), P u → P (u.modTimebase f)
  draw : ∀ (u : State) (d : Nat), P u → P { u with draws := d }

section
variable {P : State → Prop} (cl : ClosedInTick P)
include cl

theorem ClosedInTick.swapAt (h : P u) : P (u.swapAt n) := by
  have at_n := cl.crossing n
  unfold State.swapAt
  split
  · exact h
  · have read := at_n.checkPlanned h
    generalize Machine.checkPlanned n u = v at read
    dsimp only
    split
    · exact read
    · next r _ =>
      have taken := at_n.mod v (fun c => { c with active := some r, planned := none, unusable := false })
        (fun _ => ⟨rfl, rfl⟩) read
      generalize v.modCrossing n (fun c => { c with active := some r, planned := none, unusable := false }) = w at taken
      have served := cl.needs (w.evaluateWindow n) w n (w.evaluateWindow_stations n) (at_n.evaluateWindow taken)
      split
      · exact at_n.queuePlays (fun _ => at_n.checkActive) served
      · exact served

theorem ClosedInTick.failChannel {x : Aspect} (h : P u) : P (u.failChannel n x) :=
  (cl.crossing n).addCause (cl.budget _ (cl.channel _ n x _ h))

theorem ClosedInTick.testChannel {load : Nat} {x : Aspect} (h : P u) : P (u.testChannel load n x) := by
  unfold State.testChannel
  dsimp only
  split
  · split
    · split
      · exact cl.failChannel (cl.channel _ n x _ h)
      · exact cl.channel _ n x _ h
    · exact cl.channel _ n x _ h
  · exact h

theorem ClosedInTick.loseHost (h : P u) : P u.loseHost := by
  have lost := (cl.crossing 0).notify _ (.cycle .lost) (cl.time u (fun b =>
    { b with presence := .lost, fresh := Config.freshLimit, correction := 0 }) h)
  unfold State.loseHost
  obtain ⟨order, d, -, -, made⟩ := forCrossings_order (fun c => c.state == .starting || c.state == .walk)
    (fun n s => s.hostLossAt n) ((u.modTimebase fun b =>
      { b with presence := .lost, fresh := Config.freshLimit, correction := 0 }).notify (.cycle .lost))
  rw [made]
  exact forEach_keeps P _ (fun n _ k => (cl.crossing n).hostLossAt k) _ _ (cl.draw _ d lost)

theorem ClosedInTick.doWork {was : State} {load : Vector Nat 16} {wrap : Bool} {w : TickWork} (h : P u) :
    P (State.doWork was load wrap w u) := by
  cases w with
  | crossing n => exact (cl.crossing n).tickCrossing ((cl.crossing n).releaseAtThisTick h)
  | swap =>
    cases wrap
    · exact h
    · exact forEach_keeps P _ (fun _ _ k => cl.swapAt k) _ _ h
  | freshness =>
    change P u.countFreshness
    unfold State.countFreshness
    split
    · exact h
    · split
      · exact cl.loseHost h
      · exact cl.time _ _ h
  | ramps => exact cl.ramps u h
  | test n x => exact cl.testChannel h

end

/-! ### Parts without an OWNED station -/

theorem State.ownedAt_nil (none : ∀ a, (s.station a).owner ≠ .owned) (n : CrossingId) : s.ownedAt n = [] :=
  List.filter_eq_nil_iff.mpr fun a _ here => none a (by
    rw [Bool.and_eq_true, beq_iff_eq] at here
    exact here.1)

/-- R138, R155: where no station is OWNED, no part of a tick's work changes a station. -/
theorem unowned_closedInTick (s : State) (none : ∀ a, (s.station a).owner ≠ .owned) :
    ClosedInTick fun u => u.stations = s.stations := by
  have silent (u : State) (same : u.stations = s.stations) (n : CrossingId) : u.ownedAt n = [] :=
    State.ownedAt_nil (fun a => by rw [State.station, same]; exact none a) n
  exact {
    crossing := fun n => {
      mod := fun _ _ _ h => h
      heads := fun _ h => h
      notify := fun _ _ h => h
      plays := fun u h => by rw [silent u h n]; exact h }
    needs := fun u v n same h => by rw [silent v (same.symm.trans h) n]; exact h
    channel := fun _ _ _ _ h => h
    budget := fun _ h => h
    ramps := fun _ h => h
    time := fun _ _ h => h
    draw := fun _ _ h => h }

/-! ### A line without a transaction -/

theorem Link.SameButAgain.silent {l m : Link} (h : l.SameButAgain m) (quiet : ∀ x, l.activity ≠ .transaction x) : m = l := by
  obtain same | marked := h
  · exact same
  · split at marked
    next x carries => exact absurd carries (quiet x)
    next => exact marked.elim

/-- R103: a tick's work marks a transaction in progress at the most. -/
theorem unmarked_closedInTick (l : Link) (quiet : ∀ x, l.activity ≠ .transaction x) : ClosedInTick fun u => u.link = l where
  crossing n := {
    mod := fun _ _ _ h => h
    heads := fun _ h => h
    notify := fun _ _ h => h
    plays := fun u h => (Link.SameButAgain.silent (u.queuePlaysTo_ownedAt n).1.link (by rw [h]; exact quiet)).trans h }
  needs u v n _ h := (Link.SameButAgain.silent (State.Steady.refl u).recomputeAll.line (by rw [h]; exact quiet)).trans h
  channel _ _ _ _ h := h
  budget _ h := h
  ramps _ h := h
  time _ _ h := h
  draw _ _ h := h

/-! ### The frame a tick opens (R98, R99, R110, R111, R113) -/

/-- R98, R99: a line with a beacon sent in the frame just opened. -/
def Link.withBeacon (l : Link) (retried configured : Bool) : Link :=
  { l with activity := .beacon retried, sent := beaconBytes l.frame (configured && l.quiet == 0), used := l.used + 460 }

/-- R110: a line in FAULT counts its age, and its frames to the next attempt. -/
def Link.aged (l : Link) : Link :=
  { l with faultAge := min 20 (l.faultAge + 1), retry := if 10 ≤ l.retry + 1 then 0 else l.retry + 1 }

theorem State.faultFrame_eq (s : State) : s.faultFrame =
    let aged := s.modLink Link.aged
    let u := if s.link.faultAge < 20 ∧ 20 ≤ s.link.faultAge + 1 then aged.lineFaultRevert else aged
    if 10 ≤ s.link.retry + 1 then u.sendBeacon true else u := rfl

theorem State.sendBeacon_link (s : State) (retried : Bool) :
    (s.sendBeacon retried).link = s.link.withBeacon retried s.configured := rfl

theorem State.sendBeacon_station (s : State) (retried : Bool) (a : StationId) :
    (s.sendBeacon retried).station a = s.station a := rfl

theorem State.faultFrame_link (s : State) (idle : s.link.activity = .idle) : s.faultFrame.link =
    if 10 ≤ s.link.retry + 1 then s.link.aged.withBeacon true s.configured else s.link.aged := by
  have reverted : (s.modLink Link.aged).StationsOnly (s.modLink Link.aged).lineFaultRevert := .lineFaultRevert (.refl _)
  have link : (s.modLink Link.aged).lineFaultRevert.link = s.link.aged := reverted.discard.idle idle
  have configured : (s.modLink Link.aged).lineFaultRevert.configured = s.configured :=
    ((State.Kept.refl (s.modLink Link.aged)).lineFaultRevert).configured
  rw [State.faultFrame_eq]
  dsimp only
  split
  · rw [State.sendBeacon_link]
    split
    · rw [link, configured]
    · rfl
  · split
    · exact link
    · rfl

theorem State.faultFrame_station (s : State) (age : s.link.faultAge = 19) (a : StationId) :
    s.faultFrame.station a = if (s.station a).partHeld then (s.station a).wentLocal else s.station a := by
  have reverted : (s.modLink Link.aged).lineFaultRevert.station a =
      if (s.station a).partHeld then (s.station a).wentLocal else s.station a := (s.modLink Link.aged).lineFaultRevert_station a
  have reaches : (if s.link.faultAge < 20 ∧ 20 ≤ s.link.faultAge + 1 then (s.modLink Link.aged).lineFaultRevert
      else s.modLink Link.aged) = (s.modLink Link.aged).lineFaultRevert := if_pos ⟨by omega, by omega⟩
  rw [State.faultFrame_eq]
  dsimp only
  rw [reaches]
  split
  · rw [State.sendBeacon_station]
    exact reverted
  · exact reverted

/-- R113: a quiet period is counted. -/
def Link.quieter (l : Link) : Link := { l with quiet := l.quiet - 1 }

theorem State.openFrame_link (s : State) : s.openFrame.link = match s.link.line with
    | .up => (s.link.opened.withBeacon false s.configured).quieter
    | .fault => (if 10 ≤ s.link.retry + 1 then s.link.opened.aged.withBeacon true s.configured else s.link.opened.aged).quieter := by
  have fault := (s.modLink Link.opened).faultFrame_link rfl
  unfold State.openFrame
  dsimp only
  cases line : s.link.line with
  | up =>
    have up : (s.modLink Link.opened).link.line = .up := line
    rw [up]
    rfl
  | fault =>
    have down : (s.modLink Link.opened).link.line = .fault := line
    rw [down]
    exact congrArg Link.quieter fault

theorem State.openFrame_station (s : State) (fault : s.link.line = .fault) (age : s.link.faultAge = 19) (a : StationId) :
    s.openFrame.station a = if (s.station a).partHeld then (s.station a).wentLocal else s.station a := by
  have reverted := (s.modLink Link.opened).faultFrame_station age a
  have down : (s.modLink Link.opened).link.line = .fault := fault
  unfold State.openFrame
  dsimp only
  rw [down]
  exact reverted

/-- R2, R98: what a tick in RUNNING keeps from the opening of its frame on. -/
theorem State.tick_keeps {P : State → Prop} (cl : ClosedInTick P) (stores : ∀ (u : State) (x : Upset), P u → P (u.upset x))
    (i : TickInputs) (running : s.startUp.operating = .running) (h : P (s.modTimebase Timebase.advanced).openFrame) :
    P (s.tick i) := by
  have opens : (s.modTimebase Timebase.advanced).when (s.modTimebase Timebase.advanced).running State.openFrame =
      (s.modTimebase Timebase.advanced).openFrame := if_pos (beq_iff_eq.mpr running)
  unfold State.tick
  dsimp only
  rw [opens]
  exact forEach_keeps P (fun x u => u.upset x) (fun x u k => stores u x k) _ _
    (forEach_keeps P _ (fun _ _ k => cl.doWork k) _ _ h)

end

/-- Settles O7. -/
theorem tickOpensTheKerbFrame : Obligations.TickOpensTheKerbFrame := by
  unfold Obligations.TickOpensTheKerbFrame
  intro s i running
  refine ⟨s.tick i, rfl, ?_⟩
  intro f bit beacon
  let moved := s.modTimebase Timebase.advanced
  have opened := moved.openFrame_link
  have sent : beaconBytes s.link.opened.frame (s.configured && s.link.quiet == 0) = beacon := by
    have bits : yesNo (s.configured && s.link.quiet == 0) = bit := by
      by_cases ready : s.configured = true ∧ s.link.quiet = 0
      · rw [show bit = 1 from if_pos ready, ready.1, ready.2]
        rfl
      · rw [show bit = 0 from if_neg ready]
        have off : (s.configured && s.link.quiet == 0) = false := eq_false_of_ne_true fun on => ready (by
          rwa [Bool.and_eq_true, beq_iff_eq] at on)
        rw [off]
        rfl
    exact congrArg (fun b : Byte => [0, f, b, 0xFF ^^^ f ^^^ b]) bits
  have stores {l : Link} (u : State) (x : Upset) (h : u.link = l) : (u.upset x).link = l := by
    cases x with
    | plan n slot c => cases slot <;> exact h
    | clipByte k j v => exact h
  have untransacted : ∀ x, moved.openFrame.link.activity ≠ .transaction x := by
    rw [opened]
    split
    · exact nofun
    · split
      · exact nofun
      · exact nofun
  have link : (s.tick i).link = moved.openFrame.link :=
    State.tick_keeps (unmarked_closedInTick _ untransacted) stores i running rfl
  have closed : (s.link.quiet != 0) = decide (s.link.quiet ≠ 0) := by
    by_cases q : s.link.quiet = 0 <;> simp [q]
  have station (fault : s.link.line = .fault) (age : s.link.faultAge = 19) (a : StationId) : (s.tick i).station a =
      if (s.station a).partHeld then (s.station a).wentLocal else s.station a := by
    have reverted : ∀ b, moved.openFrame.station b = if (s.station b).partHeld then (s.station b).wentLocal else s.station b :=
      moved.openFrame_station fault age
    have unowned (b : StationId) : (moved.openFrame.station b).owner ≠ .owned := by
      rw [reverted b]
      split
      next => exact nofun
      next free => exact fun owned => free (by rw [Station.partHeld, owned]; rfl)
    have same := State.tick_keeps (unowned_closedInTick _ unowned) (fun u x h => by cases x with
      | plan n slot c => cases slot <;> exact h
      | clipByte k j v => exact h) i running rfl
    rw [State.station, same]
    exact reverted a
  rw [link, opened]
  cases line : s.link.line with
  | up =>
    rw [show moved.link.line = .up from line]
    exact ⟨rfl, rfl, rfl, rfl, line, closed, fun _ => ⟨rfl, sent, rfl, rfl, rfl⟩, nofun, nofun⟩
  | fault =>
    rw [show moved.link.line = .fault from line]
    dsimp only
    by_cases attempt : 10 ≤ s.link.retry + 1
    · rw [if_pos (show 10 ≤ moved.link.retry + 1 from attempt)]
      refine ⟨rfl, rfl, rfl, rfl, line, closed, nofun, fun _ => ⟨rfl, ?_⟩, fun _ => station line⟩
      rw [if_pos attempt]
      exact ⟨if_pos attempt, rfl, sent, rfl⟩
    · rw [if_neg (show ¬ 10 ≤ moved.link.retry + 1 from attempt)]
      refine ⟨rfl, rfl, rfl, rfl, line, closed, nofun, fun _ => ⟨rfl, ?_⟩, fun _ => station line⟩
      rw [if_neg attempt]
      exact ⟨if_neg attempt, rfl, rfl, rfl⟩

end Sys2Proof.Machine
end

section
/-! SUPPORT. The tick as a whole (spec 01, R2, R3, R11; spec 04, R55): the order of its work, and what the work makes of the
Timebase. -/

namespace Sys2Proof.Machine

/-! ### The order of a tick's work (log 2) -/

section
variable {α : Type} [DecidableEq α]

theorem idxOf_filter_lt {p : α → Bool} {v w : α} (keepsV : p v = true) (keepsW : p w = true) (l : List α)
    (before : l.idxOf v < l.idxOf w) : (l.filter p).idxOf v < (l.filter p).idxOf w := by
  induction l with
  | nil => exact absurd before (by simp)
  | cons x l ih =>
    by_cases isV : x = v
    · subst isV
      have other : x ≠ w := fun same => by simp [same] at before
      rw [List.filter_cons_of_pos keepsV, List.idxOf_cons_self, List.idxOf_cons_ne _ other]
      exact Nat.succ_pos _
    · have notW : x ≠ w := fun same => by simp [same] at before
      rw [List.idxOf_cons_ne _ isV, List.idxOf_cons_ne _ notW] at before
      have rest := ih (Nat.lt_of_succ_lt_succ before)
      by_cases keeps : p x = true
      · rw [List.filter_cons_of_pos keeps, List.idxOf_cons_ne _ isV, List.idxOf_cons_ne _ notW]
        exact Nat.succ_lt_succ rest
      · rwa [List.filter_cons_of_neg keeps]

/-- A list without its repetitions keeps the order of first occurrences. -/
theorem idxOf_distinct_lt {v w : α} (l : List α) (before : l.idxOf v < l.idxOf w) :
    (distinct l).idxOf v < (distinct l).idxOf w := by
  induction l with
  | nil => exact absurd before (by simp)
  | cons x l ih =>
    unfold distinct
    by_cases isV : x = v
    · subst isV
      have other : x ≠ w := fun same => by simp [same] at before
      rw [List.idxOf_cons_self, List.idxOf_cons_ne _ other]
      exact Nat.succ_pos _
    · have notW : x ≠ w := fun same => by simp [same] at before
      rw [List.idxOf_cons_ne _ isV, List.idxOf_cons_ne _ notW] at before ⊢
      exact Nat.succ_lt_succ (idxOf_filter_lt (p := fun y => decide (y ≠ x)) (decide_eq_true (Ne.symm isV))
        (decide_eq_true (Ne.symm notW)) _ (ih (Nat.lt_of_succ_lt_succ before)))

theorem idxOf_append_lt {v w : α} (l m : List α) (before : l.idxOf v < l.idxOf w) :
    (l ++ m).idxOf v < (l ++ m).idxOf w := by
  have inV : v ∈ l := List.idxOf_lt_length_iff.mp (before.trans_le List.idxOf_le_length)
  rw [List.idxOf_append_of_mem inV]
  by_cases inW : w ∈ l
  · rwa [List.idxOf_append_of_mem inW]
  · rw [List.idxOf_append_of_notMem inW]
    exact (List.idxOf_lt_length_iff.mpr inV).trans_le (Nat.le_add_right _ _)

end

theorem nodup_allWork : allWork.Nodup := by decide

theorem mem_allWork (w : TickWork) : w ∈ allWork := by
  cases w with
  | freshness | swap | ramps => decide
  | crossing n => simp [allWork, mem_allCrossings n]
  | test n x => cases x <;> simp [allWork, mem_allCrossings n]

/-- R55: a tick's work is each piece once. -/
theorem workOf_perm (i : TickInputs) : (workOf i).Perm allWork :=
  (List.perm_ext_iff_of_nodup (nodup_distinct _) nodup_allWork).2 fun w => by
    simp [mem_distinct, mem_allWork w]

theorem workOf_freshness (i : TickInputs) : ∃ before after, workOf i = before ++ .freshness :: after
    ∧ .freshness ∉ before ∧ .freshness ∉ after := by
  obtain ⟨before, after, made⟩ := List.append_of_mem ((workOf_perm i).mem_iff.mpr (mem_allWork .freshness))
  have nodup := (workOf_perm i).nodup_iff.mpr nodup_allWork
  rw [made, List.nodup_append, List.nodup_cons] at nodup
  obtain ⟨-, ⟨notAfter, -⟩, apart⟩ := nodup
  exact ⟨before, after, made, fun inside => apart _ inside _ List.mem_cons_self rfl, notAfter⟩

section
variable {s t u : State}

/-! ### What a tick's work makes of the Timebase -/

theorem State.Kept.withLink {l : Link} (h : s.Kept t) : ({ s with link := l } : State).Kept { t with link := l } :=
  ⟨h.tb, h.configured, h.patterns, h.libraryEnabled, h.clips, h.startUp, h.draws, h.pending, rfl, h.street, h.queue⟩

/-- Every piece of work but the count of freshness. -/
theorem State.doWork_kept {was : State} {load : Vector Nat 16} {wrap : Bool} {w : TickWork} (other : w ≠ .freshness) :
    u.Kept (State.doWork was load wrap w u) := by
  have refl := State.Kept.refl u
  cases w with
  | freshness => exact absurd rfl other
  | swap =>
    cases wrap
    · exact refl
    · exact refl.swapAll
  | crossing n => exact refl.releaseAtThisTick.tickCrossing
  | test n x => exact refl.testChannel
  | ramps => exact refl.rampAll

theorem State.doWorks_kept {was : State} {load : Vector Nat 16} {wrap : Bool} (l : List TickWork) (other : .freshness ∉ l) (u : State) :
    u.Kept (forEach l (State.doWork was load wrap) u) := by
  induction l generalizing u with
  | nil => exact .refl u
  | cons w l ih =>
    have first : w ≠ .freshness := fun same => other (same ▸ List.mem_cons_self)
    exact (State.doWork_kept first).trans (ih (fun inside => other (List.mem_cons_of_mem w inside)) _)

/-- R11: the Timebase after the count of freshness. -/
def Timebase.counted (b : Timebase) : Timebase :=
  if b.presence = .present then
    if 30 ≤ b.fresh + 1 then { b with presence := .lost, fresh := 30, correction := 0 } else { b with fresh := b.fresh + 1 }
  else b

/-- R11: what the count of freshness leaves of the Timebase. -/
theorem Timebase.counted_kept (b : Timebase) : b.counted.cycle = b.cycle ∧ b.counted.pos = b.pos ∧ b.counted.mask = b.mask
    ∧ b.counted.dayNight = b.dayNight := by
  unfold Timebase.counted
  split
  · split <;> exact ⟨rfl, rfl, rfl, rfl⟩
  · exact ⟨rfl, rfl, rfl, rfl⟩

theorem Timebase.counted_cases (b : Timebase) :
    (b.presence = .lost → b.counted = b)
    ∧ (b.presence = .present → b.fresh + 1 < 30 → b.counted = { b with fresh := b.fresh + 1 })
    ∧ (b.presence = .present → 30 ≤ b.fresh + 1 → b.counted = { b with presence := .lost, fresh := 30, correction := 0 }) := by
  unfold Timebase.counted
  refine ⟨fun lost => by rw [if_neg (by rw [lost]; exact nofun)], fun present early => ?_, fun present due => ?_⟩
  · rw [if_pos present, if_neg (by omega)]
  · rw [if_pos present, if_pos due]

theorem State.countFreshness_lost (lost : s.tb.presence = .lost) : s.countFreshness = s := by
  unfold State.countFreshness
  rw [lost]

theorem State.countFreshness_present (present : s.tb.presence = .present) : s.countFreshness =
    if 30 ≤ s.tb.fresh + 1 then s.loseHost else s.modTimebase fun t => { t with fresh := t.fresh + 1 } := by
  unfold State.countFreshness
  rw [present]
  rfl

theorem State.countFreshness_kept (s : State) : ∃ d, (d = s.draws ∨ (s.tb.presence = .present ∧ 30 ≤ s.tb.fresh + 1 ∧ d = s.draws + 1))
    ∧ ({ s with tb := s.tb.counted, draws := d } : State).Kept s.countFreshness := by
  unfold Timebase.counted
  cases presence : s.tb.presence with
  | lost =>
    rw [State.countFreshness_lost presence, if_neg nofun]
    exact ⟨_, .inl rfl, .refl s⟩
  | present =>
    rw [State.countFreshness_present presence, if_pos rfl]
    by_cases due : 30 ≤ s.tb.fresh + 1
    · obtain ⟨d, drawn, kept⟩ := s.loseHost_kept
      rw [if_pos due, if_pos due]
      exact ⟨d, drawn.imp id fun more => ⟨rfl, due, more⟩, kept⟩
    · rw [if_neg due, if_neg due, ← presence]
      exact ⟨s.draws, .inl rfl, .refl _⟩

/-- R2, R11: the whole of a tick's work counts freshness once and leaves every other item of the Timebase. -/
theorem State.tickWork_kept (was : State) (i : TickInputs) (wrap : Bool) (u : State) :
    ∃ d, (d = u.draws ∨ (u.tb.presence = .present ∧ 30 ≤ u.tb.fresh + 1 ∧ d = u.draws + 1))
    ∧ ({ u with tb := u.tb.counted, draws := d } : State).Kept (forEach (workOf i) (State.doWork was i.load wrap) u) := by
  obtain ⟨before, after, order, early, late⟩ := workOf_freshness i
  have first := State.doWorks_kept (was := was) (load := i.load) (wrap := wrap) before early u
  have made : forEach (workOf i) (State.doWork was i.load wrap) u = forEach after (State.doWork was i.load wrap)
      (forEach before (State.doWork was i.load wrap) u).countFreshness := by
    rw [order]
    exact List.foldl_append
  have last := State.doWorks_kept (was := was) (load := i.load) (wrap := wrap) after late
    (forEach before (State.doWork was i.load wrap) u).countFreshness
  rw [← made] at last
  generalize forEach before (State.doWork was i.load wrap) u = v at first last
  obtain ⟨d, drawn, kept⟩ := v.countFreshness_kept
  rw [first.tb, first.draws] at drawn
  refine ⟨d, drawn, State.Kept.trans ?_ (kept.trans last)⟩
  exact ⟨by rw [first.tb], first.configured, first.patterns, first.libraryEnabled, first.clips, first.startUp, rfl,
    first.pending, first.link, first.street, first.queue⟩

theorem State.faultFrame_kept (s : State) : ∃ l, ({ s with link := l } : State).Kept s.faultFrame := by
  have reverted : (s.modLink Link.aged).Kept (s.modLink Link.aged).lineFaultRevert := (State.Kept.refl _).lineFaultRevert
  have sent {u : State} (k : (s.modLink Link.aged).Kept u) : ({ s with link := (u.sendBeacon true).link } : State).Kept (u.sendBeacon true) :=
    k.withLink
  rw [State.faultFrame_eq]
  dsimp only
  split
  · split
    · exact ⟨_, sent reverted⟩
    · exact ⟨_, sent (.refl _)⟩
  · split
    · exact ⟨_, reverted⟩
    · exact ⟨_, .refl _⟩

/-- R98, R111: the opening of a frame reaches the line, the stations and the notices alone. -/
theorem State.openFrame_kept (s : State) : ∃ l, ({ s with link := l } : State).Kept s.openFrame := by
  obtain ⟨l, kept⟩ := (s.modLink Link.opened).faultFrame_kept
  have quieter := kept.withLink (l := (s.modLink Link.opened).faultFrame.link.quieter)
  unfold State.openFrame
  dsimp only
  split
  · exact ⟨_, .refl _⟩
  · exact ⟨_, quieter⟩

/-- R27, R148: the differences of the stores reach plan records and stored bytes alone. -/
theorem State.upset_eq (s : State) (x : Upset) :
    s.upset x = { s with crossings := (s.upset x).crossings, clips := (s.upset x).clips } := by
  cases x with
  | plan n slot c => cases slot <;> rfl
  | clipByte k i v => rfl

theorem State.upsets_eq (l : List Upset) (s : State) :
    s.upsets l = { s with crossings := (s.upsets l).crossings, clips := (s.upsets l).clips } := by
  induction l generalizing s with
  | nil => rfl
  | cons x l ih =>
    have first := congrArg (fun u : State => { u with
      crossings := ((s.upset x).upsets l).crossings, clips := ((s.upset x).upsets l).clips }) (s.upset_eq x)
    exact (ih (s.upset x)).trans first

/-- R2, R11: what a tick makes of the Timebase, and what it leaves alone. -/
theorem State.tick_kept (s : State) (i : TickInputs) : ∃ (d : Nat) (l : Link) (u : State),
    (d = s.draws ∨ (s.tb.presence = .present ∧ 30 ≤ s.tb.fresh + 1 ∧ d = s.draws + 1))
    ∧ ({ s with tb := s.tb.advanced.counted, draws := d, link := l } : State).Kept u ∧ s.tick i = u.upsets i.upsets := by
  let moved := s.modTimebase Timebase.advanced
  obtain ⟨l, opened⟩ : ∃ l, ({ moved with link := l } : State).Kept (moved.when moved.running State.openFrame) := by
    unfold State.when
    split
    · exact moved.openFrame_kept
    · exact ⟨_, .refl _⟩
  obtain ⟨d, drawn, worked⟩ := State.tickWork_kept s i s.tb.wraps (moved.when moved.running State.openFrame)
  rw [opened.tb, opened.draws] at drawn
  refine ⟨d, l, _, drawn, State.Kept.trans ?_ worked, rfl⟩
  exact ⟨by rw [opened.tb]; rfl, opened.configured, opened.patterns, opened.libraryEnabled, opened.clips, opened.startUp, rfl,
    opened.pending, opened.link, opened.street, opened.queue⟩

/-- R2: the amount a tick advances the position by, and the wrap it makes, in the spec's words. -/
theorem Timebase.advanced_pos (b : Timebase) :
    let a := if 0 < b.correction then 2 else if b.correction < 0 then 0 else 1
    (b.cycle = 0 → b.nextPos = 0 ∧ b.correctionLeft = 0 ∧ b.wraps = false)
    ∧ (b.cycle ≠ 0 → b.nextPos = (if b.pos + a < b.cycle then b.pos + a else b.pos + a - b.cycle)
        ∧ b.wraps = decide (b.cycle ≤ b.pos + a)) := by
  intro a
  refine ⟨fun none => ⟨if_pos none, if_pos none, ?_⟩, fun cycle => ⟨?_, ?_⟩⟩
  · rw [Timebase.wraps, none]
    rfl
  · rw [Timebase.nextPos_eq cycle, Timebase.advanceBy_eq cycle]
  · rw [Timebase.wraps, Timebase.advanceBy_eq cycle, bne_iff_ne.mpr cycle]
    rfl

end

/-- Settles O6. -/
theorem tickAdvancesTheTimebase : Obligations.TickAdvancesTheTimebase := by
  unfold Obligations.TickAdvancesTheTimebase
  refine ⟨fun s i => ⟨s.tick i, rfl, ?_⟩, fun i => ⟨?_, fun v w before => ?_⟩, fun was load wraps u => ?_⟩
  · obtain ⟨d, l, u, drawn, kept, made⟩ := s.tick_kept i
    have rest := u.upsets_eq i.upsets
    rw [← made] at rest
    have time : (s.tick i).tb = s.tb.advanced.counted := (congrArg State.tb rest).trans kept.tb
    obtain ⟨length, pos, mask, dayNight⟩ := s.tb.advanced.counted_kept
    obtain ⟨lost, early, due⟩ := s.tb.advanced.counted_cases
    obtain ⟨still, moves⟩ := s.tb.advanced_pos
    have left (cycle : s.tb.cycle ≠ 0) : s.tb.correctionLeft =
        if 0 < s.tb.correction then s.tb.correction - 1 else if s.tb.correction < 0 then s.tb.correction + 1 else 0 := if_neg cycle
    rw [time]
    refine ⟨length, mask, dayNight, fun none => ⟨pos.trans (still none).1, ?_⟩,
      fun cycle => pos.trans (moves cycle).1, fun cycle presence => ?_, fun gone => ?_, fun present fresh => ?_,
      fun present fresh => ?_, ?_⟩
    · unfold Timebase.counted
      split
      · split
        · rfl
        · exact (still none).2.1
      · exact (still none).2.1
    · cases found : s.tb.presence with
      | lost =>
        rw [lost found]
        exact left cycle
      | present =>
        by_cases fresh : s.tb.fresh + 1 < 30
        · rw [early found fresh]
          exact left cycle
        · rw [due found (Nat.le_of_not_lt fresh), found] at presence
          exact absurd presence nofun
    · rw [lost gone]
      exact ⟨gone, rfl⟩
    · rw [early present fresh]
      exact ⟨present, rfl⟩
    · rw [due present fresh]
      exact ⟨rfl, rfl, rfl⟩
    · refine ⟨?_, ?_, ?_, ?_, ?_, ?_, fun none => ?_, ?_⟩
      · exact (congrArg State.configured rest).trans kept.configured
      · exact (congrArg State.patterns rest).trans kept.patterns
      · exact (congrArg State.startUp rest).trans kept.startUp
      · exact (congrArg State.libraryEnabled rest).trans kept.libraryEnabled
      · exact (congrArg State.pending rest).trans kept.pending
      · rw [rest]
        have same : u.draws = d := kept.draws
        rw [← same] at drawn
        exact drawn
      · rw [made, none]
        exact kept.clips
      · intro a wraps moved opened
        have isMoved : moved = s.modTimebase Timebase.advanced := by
          have correction : (if s.tb.cycle = 0 then 0 else if 0 < s.tb.correction then s.tb.correction - 1
              else if s.tb.correction < 0 then s.tb.correction + 1 else 0) = s.tb.correctionLeft := rfl
          change ({ s with tb := { s.tb with
            pos := s.tb.advanced.counted.pos, tickPos := s.tb.advanced.counted.pos
            correction := s.tb.correctionLeft } } : State) = s.modTimebase Timebase.advanced
          rw [pos]
          rfl
        have isWrap : wraps = s.tb.wraps := by
          by_cases cycle : s.tb.cycle = 0
          · rw [(still cycle).2.2]
            exact decide_eq_false fun h => h.1 cycle
          · rw [(moves cycle).2]
            exact decide_eq_decide.mpr ⟨fun h => h.2, fun h => ⟨cycle, h⟩⟩
        have isOpened : opened = (s.modTimebase Timebase.advanced).when (s.modTimebase Timebase.advanced).running
            State.openFrame := by
          change (if s.startUp.operating = .running then moved.openFrame else moved) = _
          rw [isMoved]
          unfold State.when
          by_cases running : s.startUp.operating = .running
          · rw [if_pos running]
            exact (if_pos (beq_iff_eq.mpr running)).symm
          · rw [if_neg running]
            exact (if_neg fun on => running (beq_iff_eq.mp on)).symm
        rw [isWrap, isOpened]
        rfl
  · exact (workOf_perm i).trans (by decide)
  · exact idxOf_distinct_lt _ (idxOf_append_lt _ _ before)
  · refine ⟨fun n stays => ?_, fun n w walk clears record => ?_, rfl, fun present due => ?_, fun present early => ?_,
      fun lost => State.countFreshness_lost lost, ⟨fun n x => ?_, fun n => ?_, rfl⟩, fun n x => rfl⟩
    · have same : State.releaseAtThisTick was n u = u := if_neg fun h => stays.elim (· h.1) (· h.2)
      have work : State.doWork was load wraps (.crossing n) u = (State.releaseAtThisTick was n u).tickCrossing n := rfl
      rw [work, same]
      rfl
    · have released : State.releaseAtThisTick was n u = u.setCrossing n { u.crossing n with walk := some { w with
          release := (u.tb.pos + w.clearance + w.buffer - 1) % u.tb.cycle } } := by
        unfold State.releaseAtThisTick
        rw [if_pos ⟨walk, clears⟩, State.modCrossing, Crossing.modWalk, record]
        rfl
      have work : State.doWork was load wraps (.crossing n) u = (State.releaseAtThisTick was n u).tickCrossing n := rfl
      rw [work, released]
      rfl
    · have work : State.doWork was load wraps .freshness u = u.countFreshness := rfl
      rw [work, State.countFreshness_present present, if_pos due]
      exact congrArg Host.Outcome.next (if_pos ⟨present, due⟩)
    · have work : State.doWork was load wraps .freshness u = u.countFreshness := rfl
      rw [work, State.countFreshness_present present, if_neg (by omega)]
      rfl
    · exact u.mapChannels_channel Channel.rampStep n x
    · have same := congrArg Crossing.core (u.mapChannels_crossing Channel.rampStep n)
      exact same

end Sys2Proof.Machine
end

section
/-! SUPPORT. The loss of the host (spec 01, R11, R71; spec 04, R70, R95): every crossing acts on it once, in some order. -/

namespace Sys2Proof.Machine

section
variable {s t u : State} {n m : CrossingId}

/-! ### What two crossings that agree beside the budget make of an operation -/

theorem Crossing.cancelled_core {c d : Crossing} (h : c.core = d.core) (w : Walk) (st : IntervalState) :
    (c.cancelled w st).core = (d.cancelled w st).core :=
  Crossing.entered_core (congrArg (fun x : Crossing => { x with
    placeA := restoredCall w.consumedA x.placeA
    placeB := restoredCall w.consumedB x.placeB
    served := false
    walk := none }) h) st

theorem Crossing.cleared_core {c d : Crossing} (h : c.core = d.core) (w : Walk) (on : Bool) :
    (c.cleared w on).core = (d.cleared w on).core :=
  congrArg (fun x : Crossing => { x with
    state := .clearance
    walk := some { w with count := w.clearance }
    countdownOn := on
    countdown := countdownShown on w.clearance }) h

theorem Crossing.sound_core {c d : Crossing} (h : d.core = c.core) : d.sound = c.sound := by
  have same := congrArg Crossing.sound h
  exact same

/-! ### PLAYs to some stations (R138) -/

theorem State.playsQueuedAt_iff {serves : CrossingId → Approach → Bool} : s.PlaysQueuedAt serves t ↔ ∀ a,
    ((s.station a).binding = none → t.station a = s.station a)
    ∧ ∀ b, (s.station a).binding = some b →
      ((s.station a).owner = .owned → serves b.crossing b.approach = true →
        t.station a = (s.station a).played (t.playFor a b (t.crossing b.crossing).state))
      ∧ (¬ ((s.station a).owner = .owned ∧ serves b.crossing b.approach = true) → t.station a = s.station a) := by
  refine ⟨fun h a => ?_, fun h a => ?_⟩
  · have here := h a
    refine ⟨fun none => by rwa [none] at here, fun b bound => ?_⟩
    rw [bound] at here
    exact ⟨fun owned serve => here.trans (if_pos ⟨owned, serve⟩), fun other => here.trans (if_neg other)⟩
  · obtain ⟨unbound, bound⟩ := h a
    cases binding : (s.station a).binding with
    | none => exact unbound binding
    | some b =>
      dsimp only
      split
      next named => exact (bound b binding).1 named.1 named.2
      next other => exact (bound b binding).2 other

theorem State.PlaysQueuedAt.binding {serves : CrossingId → Approach → Bool} (h : s.PlaysQueuedAt serves t) (a : StationId) :
    (t.station a).binding = (s.station a).binding := by
  obtain ⟨unbound, bound⟩ := State.playsQueuedAt_iff.mp h a
  cases binding : (s.station a).binding with
  | none => rw [unbound binding, binding]
  | some b =>
    by_cases named : (s.station a).owner = .owned ∧ serves b.crossing b.approach = true
    · rw [(bound b binding).1 named.1 named.2]
      exact binding
    · rw [(bound b binding).2 named, binding]

/-- The PLAYs do not depend on how their stations are named. -/
theorem State.PlaysQueuedAt.congr {serves serves' : CrossingId → Approach → Bool} (h : s.PlaysQueuedAt serves t)
    (same : ∀ n ap, serves' n ap = serves n ap) : s.PlaysQueuedAt serves' t := by
  obtain rfl : serves' = serves := funext fun n => funext fun ap => same n ap
  exact h

/-! ### The loss at some crossings -/

/-- R71: a crossing on which the loss of the host acts. -/
def Crossing.losesHost (c : Crossing) : Bool := c.state == .starting || c.state == .walk

/-- R63, R67, R71, R138: the loss of the host has reached the crossings of a list. -/
structure State.HostLostAt (l : List CrossingId) (s t : State) : Prop where
  beside : s.Beside t
  starts : ∀ n ∈ l, ∀ w, (s.crossing n).walk = some w → (s.crossing n).state = .starting →
    (t.crossing n).core = ((s.crossing n).cancelled w .rest).core
  truncates : ∀ n ∈ l, ∀ w, (s.crossing n).walk = some w → (s.crossing n).state = .walk →
    (t.crossing n).core = ((s.crossing n).cleared (s.truncated w .hostLoss) (s.planValues n).countdown).core
  others : ∀ n, (n ∈ l → (s.crossing n).losesHost = false) → (s.crossing n).SameButApplied (t.crossing n)
  follow : ∀ n ∈ l, (s.crossing n).losesHost = true → (t.crossing n).LampsFollow
  plays : s.PlaysQueuedAt (fun m _ => decide (m ∈ l) && (s.crossing m).losesHost) t
  street : t.street = ((l.filter fun n => (s.crossing n).state == .walk).map fun n => Notice.truncate n .hostLoss).foldl
    Street.queued s.street

theorem State.HostLostAt.none (s : State) : State.HostLostAt [] s s where
  beside := .refl s
  starts := nofun
  truncates := nofun
  others _ _ := .refl _
  follow := nofun
  plays a := by
    cases (s.station a).binding with
    | none => rfl
    | some b =>
      dsimp only
      rw [if_neg fun h => absurd h.2 nofun]
  street := rfl

/-- The loss reaches one more crossing. -/
theorem State.HostLostAt.cons {l : List CrossingId} (h : State.HostLostAt [n] s u) (k : State.HostLostAt l u t) (fresh : n ∉ l) :
    State.HostLostAt (n :: l) s t := by
  have away (m : CrossingId) (other : m ≠ n) : (s.crossing m).SameButApplied (u.crossing m) :=
    h.others m fun inside => absurd (List.mem_singleton.mp inside) other
  have after : (u.crossing n).SameButApplied (t.crossing n) := k.others n fun inside => absurd inside fresh
  have state (m : CrossingId) (other : m ≠ n) : (u.crossing m).state = (s.crossing m).state :=
    Crossing.state_of_core (away m other).core
  have loses (m : CrossingId) (other : m ≠ n) : (u.crossing m).losesHost = (s.crossing m).losesHost := by
    unfold Crossing.losesHost
    rw [state m other]
  have walk (m : CrossingId) (other : m ≠ n) : (u.crossing m).walk = (s.crossing m).walk := by
    have same := congrArg Crossing.walk (away m other).core
    exact same
  have apart {m : CrossingId} (inside : m ∈ l) : m ≠ n := fun same => fresh (same ▸ inside)
  obtain ⟨tb, -, link, patterns, -⟩ := k.beside
  obtain ⟨tb₀, -, -, patterns₀, -⟩ := h.beside
  have plays : s.PlaysQueuedAt (fun m _ => decide (m ∈ n :: l) && (s.crossing m).losesHost) t := by
    refine State.playsQueuedAt_iff.mpr fun a => ?_
    obtain ⟨unboundFirst, first⟩ := State.playsQueuedAt_iff.mp h.plays a
    obtain ⟨unboundThen, second⟩ := State.playsQueuedAt_iff.mp k.plays a
    have kept := h.plays.binding a
    refine ⟨fun none => (unboundThen (kept.trans none)).trans (unboundFirst none), fun b bound => ?_⟩
    obtain ⟨playedFirst, stayedFirst⟩ := first b bound
    obtain ⟨playedThen, stayedThen⟩ := second b (kept.trans bound)
    by_cases here : b.crossing = n
    · have stays := stayedThen fun all => fresh (here ▸ of_decide_eq_true ((Bool.and_eq_true _ _).mp all.2).1)
      have core : (t.crossing b.crossing).core = (u.crossing b.crossing).core := by rw [here]; exact after.core
      have content := State.playFor_congr (a := a) (b := b) core patterns tb link.frame (by rw [stays]) (by rw [stays])
        (by rw [stays]) (t.crossing b.crossing).state
      have inside : decide (b.crossing ∈ n :: l) = decide (b.crossing ∈ [n]) := by
        rw [here]
        exact decide_eq_decide.mpr ⟨fun _ => List.mem_singleton_self n, fun _ => List.mem_cons_self⟩
      rw [inside, stays, content, Crossing.state_of_core core]
      exact ⟨playedFirst, stayedFirst⟩
    · have stays := stayedFirst fun all => here (List.mem_singleton.mp (of_decide_eq_true ((Bool.and_eq_true _ _).mp all.2).1))
      have inside : decide (b.crossing ∈ n :: l) = decide (b.crossing ∈ l) :=
        decide_eq_decide.mpr ⟨fun all => (List.mem_cons.mp all).resolve_left here, List.mem_cons_of_mem n⟩
      rw [stays, loses b.crossing here] at playedThen stayedThen
      rw [inside]
      exact ⟨playedThen, stayedThen⟩
  refine ⟨h.beside.trans k.beside, fun m inside w has st => ?_, fun m inside w has st => ?_, fun m free => ?_,
    fun m inside moves => ?_, plays, ?_⟩
  · obtain rfl | inside := List.mem_cons.mp inside
    · exact after.core.trans (h.starts m (List.mem_singleton_self m) w has st)
    · have other := apart inside
      exact (k.starts m inside w ((walk m other).trans has) ((state m other).trans st)).trans
        (Crossing.cancelled_core (away m other).core w .rest)
  · obtain rfl | inside := List.mem_cons.mp inside
    · exact after.core.trans (h.truncates m (List.mem_singleton_self m) w has st)
    · have other := apart inside
      have values := State.planValues_core (s := s) (t := u) (away m other).core patterns₀
      have noted : u.truncated w .hostLoss = s.truncated w .hostLoss := by
        unfold State.truncated
        rw [tb₀]
      have now := k.truncates m inside w ((walk m other).trans has) ((state m other).trans st)
      rw [values, noted] at now
      exact now.trans (Crossing.cleared_core (away m other).core _ _)
  · have first := h.others m fun one => free (List.mem_singleton.mp one ▸ List.mem_cons_self)
    refine first.trans (k.others m fun inside => ?_)
    rw [loses m (apart inside)]
    exact free (List.mem_cons_of_mem n inside)
  · obtain rfl | inside := List.mem_cons.mp inside
    · exact after.lampsFollow (h.follow m (List.mem_singleton_self m) moves)
    · exact k.follow m inside ((loses m (apart inside)).trans moves)
  · have same : (l.filter fun m => (u.crossing m).state == .walk) = l.filter fun m => (s.crossing m).state == .walk :=
      List.filter_congr fun m inside => by rw [state m (apart inside)]
    rw [k.street, h.street, same, ← List.foldl_append, ← List.map_append, ← List.filter_append]
    rfl

/-- R71: the loss changes nothing at a crossing that waits, clears or buffers. -/
theorem State.HostLostAt.unmoved (free : (s.crossing n).losesHost = false) : State.HostLostAt [n] s s := by
  have idle {m : CrossingId} (inside : m ∈ [n]) : (s.crossing m).losesHost = false := by
    rwa [List.mem_singleton.mp inside]
  have neither {m : CrossingId} (inside : m ∈ [n]) : (s.crossing m).state ≠ .starting ∧ (s.crossing m).state ≠ .walk := by
    have free := idle inside
    refine ⟨fun st => ?_, fun st => ?_⟩ <;> rw [Crossing.losesHost, st] at free <;> exact absurd free nofun
  refine ⟨.refl s, fun m inside _ _ st => absurd st (neither inside).1, fun m inside _ _ st => absurd st (neither inside).2,
    fun _ _ => .refl _, fun m inside moves => absurd (moves.symm.trans (idle inside)) nofun, ?_, ?_⟩
  · refine (State.HostLostAt.none s).plays.congr fun m _ => ?_
    by_cases inside : m ∈ [n]
    · rw [idle inside, Bool.and_false, Bool.and_false]
    · rw [decide_eq_false inside]
      rfl
  · have none : ([n].filter fun m => (s.crossing m).state == .walk) = [] := List.filter_eq_nil_iff.mpr fun m inside st =>
      (neither inside).2 (beq_iff_eq.mp st)
    rw [none]
    rfl

/-- R71: the loss of the host at one crossing. -/
theorem State.hostLossAt_hostLostAt (s : State) (n : CrossingId) (sound : (s.crossing n).activeSound = true)
    (toRest : (s.crossing n).losesHost = true → ((s.crossing n).walk.any fun w => w.target == .rest) = true) :
    State.HostLostAt [n] s (s.hostLossAt n) := by
  have moved {c : Crossing} {told : Street} {t : State} (loses : (s.crossing n).losesHost = true) (h : State.Moved n c told s t)
      (starts : ∀ w, (s.crossing n).walk = some w → (s.crossing n).state = .starting → c.core = ((s.crossing n).cancelled w .rest).core)
      (truncates : ∀ w, (s.crossing n).walk = some w → (s.crossing n).state = .walk →
        c.core = ((s.crossing n).cleared (s.truncated w .hostLoss) (s.planValues n).countdown).core)
      (street : told = (([n].filter fun n => (s.crossing n).state == .walk).map fun n => Notice.truncate n .hostLoss).foldl
        Street.queued s.street) : State.HostLostAt [n] s t := by
    obtain ⟨core, ⟨follow, -⟩, -, beside, others⟩ := h.becomes
    refine ⟨beside, fun m inside w walk st => ?_, fun m inside w walk st => ?_, fun m free => others m fun same => ?_,
      fun m inside _ => ?_, h.plays.congr fun m _ => ?_, h.street.trans street⟩
    · obtain rfl := List.mem_singleton.mp inside
      exact core.trans (starts w walk st)
    · obtain rfl := List.mem_singleton.mp inside
      exact core.trans (truncates w walk st)
    · rw [same, loses] at free
      exact absurd (free (List.mem_singleton_self n)) nofun
    · rw [List.mem_singleton.mp inside]
      exact follow
    · by_cases here : m = n
      · rw [here, loses]
        simp
      · rw [decide_eq_false fun inside => here (List.mem_singleton.mp inside), beq_eq_false_iff_ne.mpr here]
        rfl
  have record (loses : (s.crossing n).losesHost = true) : ∃ w, (s.crossing n).walk = some w ∧ w.target = .rest := by
    have rest := toRest loses
    cases walk : (s.crossing n).walk with
    | none =>
      rw [walk] at rest
      exact absurd rest nofun
    | some w =>
      rw [walk] at rest
      exact ⟨w, rfl, beq_iff_eq.mp rest⟩
  cases st : (s.crossing n).state with
  | starting =>
    have loses : (s.crossing n).losesHost = true := by rw [Crossing.losesHost, st]; rfl
    obtain ⟨w, walk, target⟩ := record loses
    have made : s.hostLossAt n = s.cancel checkActive n := by simp only [State.hostLossAt, st]
    have cancelled := s.cancel_moved quiet_checkActive n walk sound
    rw [target] at cancelled
    rw [made]
    refine moved loses cancelled (fun w' walk' _ => ?_) (fun _ _ st' => absurd (st.symm.trans st') nofun) ?_
    · rw [Option.some.inj (walk.symm.trans walk')]
    · rw [List.filter_cons_of_neg (by rw [st]; exact nofun)]
      rfl
  | walk =>
    have loses : (s.crossing n).losesHost = true := by rw [Crossing.losesHost, st]; rfl
    obtain ⟨w, walk, -⟩ := record loses
    have made : s.hostLossAt n = s.truncate checkActive n .hostLoss := by simp only [State.hostLossAt, st]
    rw [made]
    refine moved loses (s.truncate_moved quiet_checkActive n .hostLoss walk sound) (fun _ _ st' => absurd (st.symm.trans st') nofun)
      (fun w' walk' _ => ?_) ?_
    · rw [Option.some.inj (walk.symm.trans walk')]
    · rw [List.filter_cons_of_pos (by rw [st]; rfl)]
      rfl
  | dark | rest | hold | fault | clearance | buffer =>
    have made : s.hostLossAt n = s := by simp only [State.hostLossAt, st]
    rw [made]
    exact .unmoved (by rw [Crossing.losesHost, st]; rfl)

/-- R71, R95: the loss of the host at the crossings of a list, each once. -/
theorem State.forEach_hostLossAt (l : List CrossingId) (s : State) (distinct : l.Nodup)
    (sound : ∀ n ∈ l, (s.crossing n).activeSound = true)
    (toRest : ∀ n ∈ l, (s.crossing n).losesHost = true → ((s.crossing n).walk.any fun w => w.target == .rest) = true) :
    State.HostLostAt l s (forEach l (fun n u => u.hostLossAt n) s) := by
  induction l generalizing s with
  | nil => exact .none s
  | cons n l ih =>
    obtain ⟨fresh, distinct⟩ := List.nodup_cons.mp distinct
    have first := s.hostLossAt_hostLostAt n (sound n List.mem_cons_self) (toRest n List.mem_cons_self)
    have away (m : CrossingId) (inside : m ∈ l) : ((s.hostLossAt n).crossing m).core = (s.crossing m).core :=
      (first.others m fun one => absurd (List.mem_singleton.mp one ▸ inside) fresh).core
    refine first.cons (ih (s.hostLossAt n) distinct (fun m inside => ?_) (fun m inside loses => ?_)) fresh
    · rw [Crossing.activeSound_core (away m inside)]
      exact sound m (List.mem_cons_of_mem n inside)
    · have walk := congrArg Crossing.walk (away m inside)
      change ((s.hostLossAt n).crossing m).walk = (s.crossing m).walk at walk
      rw [Crossing.losesHost, Crossing.state_of_core (away m inside)] at loses
      rw [walk]
      exact toRest m (List.mem_cons_of_mem n inside) loses

end

/-- Settles O8. -/
theorem hostLossWithdrawsEveryPermit : Obligations.HostLossWithdrawsEveryPermit := by
  unfold Obligations.HostLossWithdrawsEveryPermit
  intro s present due sound toRest
  let lost := (s.modTimebase fun b => { b with presence := .lost, fresh := 30, correction := 0 }).notify (.cycle .lost)
  obtain ⟨order, d, perm, drawn, made⟩ := forCrossings_order (fun c => c.state == .starting || c.state == .walk)
    (fun n s => s.hostLossAt n) lost
  have loss : s.loseHost = forEach order (fun n u => u.hostLossAt n) { lost with draws := d } := made
  have run : exec .hostLost s = .next s.loseHost := congrArg Host.Outcome.next (if_pos ⟨present, due⟩)
  have every (n : CrossingId) : n ∈ order := perm.mem_iff.mpr (mem_allCrossings n)
  have reached := State.forEach_hostLossAt order { lost with draws := d } (perm.nodup_iff.mpr nodup_allCrossings)
    (fun n _ => ((Crossing.sound_iff _).mp (sound n)).1) (fun n _ loses => toRest n (by
      rw [Crossing.losesHost, Bool.or_eq_true, beq_iff_eq, beq_iff_eq] at loses
      exact loses))
  rw [← loss] at reached
  have moves {n : CrossingId} (st : (s.crossing n).state = .starting ∨ (s.crossing n).state = .walk) :
      (s.crossing n).losesHost = true := by
    rwa [Crossing.losesHost, Bool.or_eq_true, beq_iff_eq, beq_iff_eq]
  obtain ⟨tb, configured, link, patterns, enabled, clips, startUp, draws, pending⟩ := reached.beside
  have tb : s.loseHost.tb = { s.tb with presence := .lost, fresh := 30, correction := 0 } := tb
  have draws : s.loseHost.draws = d := draws
  refine ⟨s.loseHost, run, tb, ?_, fun n w walk st => reached.starts n (every n) w walk st,
    fun n w walk st => reached.truncates n (every n) w walk st, fun n notStarting notWalk => reached.others n fun _ => ?_,
    fun n st => reached.follow n (every n) (moves st), ?_, ⟨order.filter fun n => (s.crossing n).state == .walk, perm.filter _, ?_⟩,
    ⟨rfl, configured, link, patterns, enabled, clips, startUp, rfl, pending⟩, draws ▸ drawn, order, perm, ?_⟩
  · unfold State.maskInForce
    rw [tb]
  · rw [Crossing.losesHost]
    exact Bool.or_eq_false_iff.mpr ⟨beq_eq_false_iff_ne.mpr notStarting, beq_eq_false_iff_ne.mpr notWalk⟩
  · refine State.PlaysQueuedAt.congr (serves := fun m _ => decide (m ∈ order) && (s.crossing m).losesHost) reached.plays
      fun m _ => ?_
    rw [decide_eq_true (every m), Bool.true_and]
    rfl
  · exact reached.street
  · rw [tb, draws]
    exact loss

end Sys2Proof.Machine
end

section
/-! SUPPORT. The read of a crossing's records by QUERY CROSSING (spec 02, R27 to R29, R31). -/

namespace Sys2Proof.Machine

section
variable {s t u : State} {n : CrossingId}

/-! ### PLAN_MEMORY (R28, R29, R72, R73) -/

/-- R28, R72, R73: what PLAN_MEMORY makes of crossing n by its interval state, `c` being the crossing with the cause in its set,
`on` its plan's countdown field, and `told` the Street Link before its notices. -/
structure State.PlanFaulted (n : CrossingId) (c : Crossing) (on : Bool) (told : Street) (s t : State) : Prop where
  stays : c.walk = none → c.state = .dark ∨ c.state = .fault → State.Changed n c (told.queued (.fault n c.causes)) s t
  faults : c.walk = none → c.state = .rest ∨ c.state = .hold →
    State.Moved n (c.entered .fault) (told.queued (.fault n c.causes)) s t
  cancels : ∀ w, c.walk = some w → c.state = .starting →
    State.Moved n (c.cancelled w c.settled) (told.queued (.fault n c.causes)) s t
  truncates : ∀ w, c.walk = some w → c.state = .walk →
    State.Moved n (c.cleared { s.truncated w .planMemory with target := c.settled } on)
      ((told.queued (.truncate n .planMemory)).queued (.fault n c.causes)) s t
  retargets : ∀ w, c.walk = some w → c.state = .clearance ∨ c.state = .buffer →
    State.Changed n { c with walk := some { w with target := c.settled } } (told.queued (.fault n c.causes)) s t

theorem addPlanMemory_planFaulted (n : CrossingId) (s : State) (fresh : (s.crossing n).causes.planMemory = false)
    (sound : (s.crossing n).activeSound = true) :
    State.PlanFaulted n { s.crossing n with causes := { (s.crossing n).causes with planMemory := true } }
      (s.planValues n).countdown s.street s (addCauseWith readActive n .planMemory s) := by
  obtain ⟨dark, rest, starting, walk, -, -, clearance, -⟩ := addCauseWith_acts quiet_readActive n .planMemory s fresh sound
  have unwalked (none : (s.crossing n).walk = none) : (s.crossing n).caused .planMemory =
      { s.crossing n with causes := { (s.crossing n).causes with planMemory := true } } := Crossing.retargeted_none none
  have walked {w : Walk} (some : (s.crossing n).walk = some w) := Crossing.retargeted_some
    (c := { s.crossing n with causes := { (s.crossing n).causes with planMemory := true } }) some
  have caused {w : Walk} (some : (s.crossing n).walk = some w) : (s.crossing n).caused .planMemory = _ := walked some
  refine ⟨fun none st => ?_, fun none st => ?_, fun w some st => ?_, fun w some st => ?_, fun w some st => ?_⟩
  · rw [unwalked none] at dark
    exact dark st
  · rw [unwalked none] at rest
    exact rest st
  · exact (starting w some st).recore rfl
  · exact walk w .planMemory some st rfl
  · rw [caused some] at clearance
    exact clearance st nofun

theorem State.PlanFaulted.of_modCrossing {c : Crossing} {on : Bool} {told : Street} {g : Crossing → Crossing}
    (h : State.PlanFaulted n c on told (s.modCrossing n g) t) (same : (s.crossing n).SameChannels (g (s.crossing n))) :
    State.PlanFaulted n c on told s t where
  stays none st := (h.stays none st).of_modCrossing
  faults none st := (h.faults none st).of_modCrossing same
  cancels w some st := (h.cancels w some st).of_modCrossing same
  truncates w some st := (h.truncates w some st).of_modCrossing same
  retargets w some st := (h.retargets w some st).of_modCrossing

theorem State.PlanFaulted.of_street {c : Crossing} {on : Bool} {told x : Street}
    (h : State.PlanFaulted n c on told { s with street := x } t) : State.PlanFaulted n c on told s t where
  stays none st := (h.stays none st).of_street
  faults none st := (h.faults none st).of_street
  cancels w some st := (h.cancels w some st).of_street
  truncates w some st := (h.truncates w some st).of_street
  retargets w some st := (h.retargets w some st).of_street

/-! ### The reads (R27 to R29) -/

theorem checkPlanned_none (n : CrossingId) (s : State) (none : (s.crossing n).planned = none) : checkPlanned n s = s := by
  unfold checkPlanned
  rw [none]

/-- R27: a correctable difference of the pending record is repaired in silence. -/
theorem checkPlanned_correctable (n : CrossingId) (s : State) {r : SlotRecord} (planned : (s.crossing n).planned = some r)
    (fixable : r.check = .correctable) :
    checkPlanned n s = s.modCrossing n fun c => { c with planned := some ⟨r.plan, .sound⟩ } := by
  unfold checkPlanned
  rw [planned]
  dsimp only
  rw [fixable]

/-- R27: a correctable difference of the active record is repaired in silence. -/
theorem checkActive_correctable (n : CrossingId) (s : State) {r : SlotRecord} (active : (s.crossing n).active = some r)
    (unmarked : (s.crossing n).unusable = false) (fixable : r.check = .correctable) :
    checkActive n s = s.modCrossing n fun c => { c with active := some ⟨r.plan, .sound⟩ } := by
  have read : readActive n s = s.modCrossing n fun c => { c with active := some ⟨r.plan, .sound⟩ } := by
    unfold readActive
    dsimp only
    rw [active, unmarked]
    dsimp only
    rw [fixable]
  have at_n := s.modCrossing_self n fun c => { c with active := some ⟨r.plan, .sound⟩ }
  unfold checkActive
  dsimp only
  rw [read, at_n, unmarked]
  rfl

/-- R28: an active record that cannot be corrected leaves its crossing out of plan. -/
theorem readActive_uncorrectable (n : CrossingId) (s : State) {r : SlotRecord} (active : (s.crossing n).active = some r)
    (unmarked : (s.crossing n).unusable = false) (bad : r.check = .uncorrectable) : readActive n s =
      { s.modCrossing n fun c => { c with unusable := true, inWindow := false, served := c.served && !c.inWindow } with
        street := if (s.crossing n).state = .rest ∧ (s.crossing n).inWindow = true ∧ s.hasDemand n = true
          ∧ (s.crossing n).served = false then s.street.queued (.windowMissed n) else s.street } := by
  have marks : readActive n s = (s.modCrossing n fun c => { c with unusable := true }).evaluateWindow n := by
    unfold readActive
    dsimp only
    rw [active, unmarked]
    dsimp only
    rw [bad]
  have at_n := s.modCrossing_self n fun c => { c with unusable := true }
  have out : (s.modCrossing n fun c => { c with unusable := true }).positionInWindow n = false := by
    unfold State.positionInWindow State.planInForce
    rw [at_n]
    rfl
  have demand : (s.modCrossing n fun c => { c with unusable := true }).hasDemand n = s.hasDemand n := by
    unfold State.hasDemand
    rw [at_n]
    rfl
  have told : (s.modCrossing n fun c => { c with unusable := true }).street.windowTold n { s.crossing n with unusable := true }
      false (s.hasDemand n) = if (s.crossing n).state = .rest ∧ (s.crossing n).inWindow = true ∧ s.hasDemand n = true
        ∧ (s.crossing n).served = false then s.street.queued (.windowMissed n) else s.street := by
    unfold Street.windowTold
    by_cases rest : (s.crossing n).state = .rest <;> cases (s.crossing n).served <;> cases s.hasDemand n <;>
      simp [rest]
  rw [marks, State.evaluateWindow_eq, out, at_n, demand, told, State.setCrossing_eq, State.modCrossing_modCrossing]
  rfl

/-- R28: the read of a damaged active record. -/
theorem checkActive_uncorrectable (n : CrossingId) (s : State) {r : SlotRecord} (active : (s.crossing n).active = some r)
    (unmarked : (s.crossing n).unusable = false) (bad : r.check = .uncorrectable)
    (fresh : (s.crossing n).causes.planMemory = false) : State.PlanFaulted n { s.crossing n with
        unusable := true, inWindow := false, served := (s.crossing n).served && !(s.crossing n).inWindow
        causes := { (s.crossing n).causes with planMemory := true } } false
      (if (s.crossing n).state = .rest ∧ (s.crossing n).inWindow = true ∧ s.hasDemand n = true
          ∧ (s.crossing n).served = false then s.street.queued (.windowMissed n) else s.street)
      s (checkActive n s) := by
  have read := readActive_uncorrectable n s active unmarked bad
  let f : Crossing → Crossing := fun c => { c with unusable := true, inWindow := false, served := c.served && !c.inWindow }
  have at_n := s.modCrossing_self n f
  have marked : (readActive n s).crossing n = f (s.crossing n) := by
    rw [read]
    exact at_n
  have hands : checkActive n s = addCauseWith readActive n .planMemory (readActive n s) := by
    unfold checkActive
    dsimp only
    rw [marked, unmarked]
    rfl
  have faulted := addPlanMemory_planFaulted n (readActive n s) (by rw [marked]; exact fresh) (by
    rw [marked]
    exact congrArg (Option.all fun _ => true) active)
  have blank : ((readActive n s).planValues n).countdown = false := by
    unfold State.planValues
    rw [marked]
    rfl
  rw [hands]
  rw [marked, blank] at faulted
  generalize addCauseWith readActive n .planMemory (readActive n s) = t at faulted
  rw [read] at faulted
  exact faulted.of_street.of_modCrossing ⟨rfl, rfl⟩

/-- R29: the read of a damaged pending record. -/
theorem checkPlanned_uncorrectable (n : CrossingId) (s : State) {r : SlotRecord} (planned : (s.crossing n).planned = some r)
    (bad : r.check = .uncorrectable) (sound : (s.crossing n).activeSound = true) (fresh : (s.crossing n).causes.planMemory = false) :
    State.PlanFaulted n { s.crossing n with planned := none, causes := { (s.crossing n).causes with planMemory := true } }
      (s.planValues n).countdown s.street s (checkPlanned n s) := by
  have hands : checkPlanned n s =
      addCauseWith readActive n .planMemory (s.modCrossing n fun c => { c with planned := none }) := by
    unfold checkPlanned
    rw [planned]
    dsimp only
    rw [bad]
  have at_n := s.modCrossing_self n fun c => { c with planned := none }
  have faulted := addPlanMemory_planFaulted n (s.modCrossing n fun c => { c with planned := none })
    (by rw [at_n]; exact fresh) (by rw [at_n]; exact sound)
  have values : (s.modCrossing n fun c => { c with planned := none }).planValues n = s.planValues n :=
    State.planValues_of (by rw [at_n]) (by rw [at_n]) rfl
  rw [at_n, values] at faulted
  rw [hands]
  exact faulted.of_modCrossing ⟨rfl, rfl⟩

/-- R29: a crossing whose pending slot is empty. -/
theorem State.PlanFaulted.unplanned {c : Crossing} {on : Bool} {told : Street} (h : State.PlanFaulted n c on told s t)
    (none : c.planned = none) : State.PlanFaulted n c on told s (checkPlanned n t) := by
  have entered (d : Crossing) (st : IntervalState) : (d.entered st).planned = d.planned := by
    unfold Crossing.entered
    split <;> rfl
  have quiet {d : Crossing} (core : (t.crossing n).core = d.core) (same : d.planned = c.planned) : checkPlanned n t = t := by
    have planned := congrArg Crossing.planned core
    exact checkPlanned_none n t (planned.trans (same.trans none))
  refine ⟨fun w st => ?_, fun w st => ?_, fun w some st => ?_, fun w some st => ?_, fun w some st => ?_⟩
  · have now := h.stays w st
    rwa [quiet (congrArg Crossing.core now.only.1) rfl]
  · have now := h.faults w st
    rwa [quiet now.becomes.1 (entered c _)]
  · have now := h.cancels w some st
    rwa [quiet now.becomes.1 (entered _ _)]
  · have now := h.truncates w some st
    rwa [quiet now.becomes.1 rfl]
  · have now := h.retargets w some st
    rwa [quiet (congrArg Crossing.core now.only.1) rfl]

end

/-- Settles O18. -/
theorem readFindsADamagedRecord : Obligations.ReadFindsADamagedRecord := by
  unfold Obligations.ReadFindsADamagedRecord
  intro s n tag crossing takes number
  let X := checkPlanned n (checkActive n s.handling)
  have handled : handleQueryCrossing crossing s.handling = { state := X, status := .ok, fields := X.crossingReport n } := by
    rw [handleQueryCrossing, show crossingOf crossing = some n from numberOf_eq_some n number]
  have run : exec (.queryCrossing tag crossing) s = .next { X with street := { X.street with
      reply := some ⟨.reply, replyFrame 0x12 tag .ok (X.crossingReport n)⟩ } } := by
    have taken : exec (.queryCrossing tag crossing) s = .next ((handleQueryCrossing crossing s.handling).replied 0x12 tag) :=
      congrArg Host.Outcome.next (s.takeRequest_takes _ _ _ takes)
    rw [taken, handled, Answer.replied_eq _ _ _ (by decide)]
  refine ⟨_, run, rfl, ?_⟩
  intro acts causes
  have changed {c : Crossing} {told : Street} (h : State.Changed n c told.handled s.handling X) : s.Only n c { X with street :=
      { X.street with reply := some ⟨.reply, replyFrame 0x12 tag .ok (X.crossingReport n)⟩ } } ∧ X.stations = s.stations
      ∧ X.street.notices = told.notices := ⟨h.only, h.stations, by rw [h.street]; rfl⟩
  have moved {c : Crossing} {told : Street} (h : State.Moved n c told.handled s.handling X) : s.Becomes n c { X with street :=
      { X.street with reply := some ⟨.reply, replyFrame 0x12 tag .ok (X.crossingReport n)⟩ } } ∧ s.PlaysQueued n { X with street :=
      { X.street with reply := some ⟨.reply, replyFrame 0x12 tag .ok (X.crossingReport n)⟩ } }
      ∧ X.street.notices = told.notices := ⟨h.becomes, h.plays, by rw [h.street]; rfl⟩
  have acted {c : Crossing} {on : Bool} {told : Street} (h : State.PlanFaulted n c on told.handled s.handling X) :
      acts c on told := by
    obtain ⟨stays, faults, cancels, truncates, retargets⟩ := h
    simp only [Street.queued_handled] at stays faults cancels truncates retargets
    exact ⟨fun none st => changed (stays none st), fun none st => moved (faults none st),
      fun w some st => moved (cancels w some st), fun w some st => moved (truncates w some st),
      fun w some st => changed (retargets w some st)⟩
  refine ⟨fun r active unmarked none => ⟨fun fixable => ?_, fun bad fresh => ?_⟩,
    fun r planned sound => ⟨fun fixable => ?_, fun bad fresh => ?_⟩⟩
  · have read : checkActive n s.handling = s.handling.modCrossing n fun c => { c with active := some ⟨r.plan, .sound⟩ } :=
      checkActive_correctable n s.handling active unmarked fixable
    have at_n := s.handling.modCrossing_self n fun c => { c with active := some ⟨r.plan, .sound⟩ }
    have found : X = s.handling.modCrossing n fun c => { c with active := some ⟨r.plan, .sound⟩ } := by
      change checkPlanned n (checkActive n s.handling) = _
      rw [read, checkPlanned_none _ _ (by rw [at_n]; exact none)]
    have fixed := s.handling.modCrossing_changed n fun c => { c with active := some ⟨r.plan, .sound⟩ }
    rw [← found] at fixed
    exact changed fixed
  · have faulted := (checkActive_uncorrectable n s.handling active unmarked bad fresh).unplanned none
    refine acted ?_
    rw [← Street.ite_queued_handled]
    exact faulted
  · have found : X = s.handling.modCrossing n fun c => { c with planned := some ⟨r.plan, .sound⟩ } := by
      change checkPlanned n (checkActive n s.handling) = _
      rw [checkActive_sound n s.handling sound]
      exact checkPlanned_correctable n s.handling planned fixable
    have fixed := s.handling.modCrossing_changed n fun c => { c with planned := some ⟨r.plan, .sound⟩ }
    rw [← found] at fixed
    exact changed fixed
  · have found : X = checkPlanned n s.handling := by
      change checkPlanned n (checkActive n s.handling) = _
      rw [checkActive_sound n s.handling sound]
    have faulted := checkPlanned_uncorrectable n s.handling planned bad sound fresh
    rw [← found] at faulted
    exact acted faulted

end Sys2Proof.Machine
end

section
/-! SUPPORT. An accepted SYNC (spec 01, R4 to R15): its reply, its effects in their order, and the permits that fall (R70). -/

namespace Sys2Proof.Machine

section
variable {s t u v : State} {n : CrossingId}

/-! ### The request (R4, R5, R166) -/

/-- R166: the part once an accepted SYNC is answered with the report of state `X`. -/
def State.syncAnswered (X : State) (tag : Byte) : State :=
  { X with street := { X.street with lost := false, reply := some ⟨.reply, replyFrame 0x01 tag .ok X.report⟩ } }

theorem exec_sync_accepted {cycle position : Half} {mask dn : Byte} {d : DayNight} (takes : s.Takes) (tag : Byte)
    (low : 300 ≤ cycle.toNat) (high : cycle.toNat ≤ 2400) (inside : position.toNat < cycle.toNat)
    (flag : (dn = 0 ∧ d = .day) ∨ (dn = 1 ∧ d = .night)) : exec (.sync tag cycle position mask dn) s =
      .next ((s.handling.acceptSync cycle.toNat position.toNat mask d).syncAnswered tag) := by
  have day : dayNightOf dn = some d := by obtain ⟨rfl, rfl⟩ | ⟨rfl, rfl⟩ := flag <;> rfl
  rw [exec_sync takes, handleSync_accepted mask s.handling low high inside day, Answer.replied_eq _ _ _ (by decide)]
  rfl

/-- R5: a SYNC with no drift leaves the position. -/
theorem driftOf_self (pos c : Nat) (inside : pos < c) : driftOf pos pos c = 0 := by
  have none : cycleSub pos pos c = 0 := by
    unfold cycleSub
    rw [Nat.mod_eq_of_lt inside, show pos + (c - pos) = c by omega, Nat.mod_self]
  unfold driftOf
  rw [none]
  exact if_pos (Nat.zero_le _)

/-! ### Permits that fall (R13, R70) -/

theorem filter_eq_singleton (p : CrossingId → Bool) (n : CrossingId) (only : ∀ m, p m = true ↔ m = n) :
    allCrossings.filter p = [n] := by
  have named : ∀ n : CrossingId, (allCrossings.filter fun m => m == n) = [n] := by decide
  rw [← named n]
  refine List.filter_congr fun m _ => ?_
  rw [Bool.eq_iff_iff, only m, beq_iff_eq]

/-- R46, R63, R67, R70, R72: what the fall of its permit makes of crossing n. -/
theorem State.permitFalls_acts (s : State) (n : CrossingId) (sound : (s.crossing n).activeSound = true) :
    (((s.crossing n).state = .dark ∨ (s.crossing n).state = .rest ∨ (s.crossing n).state = .hold ∨ (s.crossing n).state = .fault) →
      s.permitFalls n = s)
    ∧ (∀ w, (s.crossing n).walk = some w → (s.crossing n).state = .starting →
        State.Moved n ((s.crossing n).cancelled w w.target) s.street s (s.permitFalls n))
    ∧ (∀ w, (s.crossing n).walk = some w → (s.crossing n).state = .walk → (s.crossing n).mode ≠ .off →
        (s.crossing n).causes = {} →
        State.Moved n ({ s.crossing n with causes := { conflict := true } }.cleared
            { s.truncated w .conflict with target := .fault } (s.planValues n).countdown)
          ((s.street.queued (.truncate n .conflict)).queued (.fault n { conflict := true })) s (s.permitFalls n))
    ∧ (∀ w, (s.crossing n).walk = some w → ((s.crossing n).state = .clearance ∨ (s.crossing n).state = .buffer) →
        (s.crossing n).mode ≠ .off → (s.crossing n).causes.conflict = false →
        State.Changed n { s.crossing n with
            causes := { (s.crossing n).causes with conflict := true }, walk := some { w with target := .fault } }
          (s.street.queued (.fault n { (s.crossing n).causes with conflict := true })) s (s.permitFalls n)) := by
  have caused {w : Walk} (walk : (s.crossing n).walk = some w) (on : (s.crossing n).mode ≠ .off) :
      (s.crossing n).caused .conflict = { s.crossing n with
        causes := { (s.crossing n).causes with conflict := true }, walk := some { w with target := .fault } } := by
    have settled : ({ s.crossing n with causes := (s.crossing n).causes.add .conflict } : Crossing).settled = .fault :=
      Crossing.settled_fault on (CauseSet.isEmpty_add _ _)
    have made := Crossing.retargeted_some (c := { s.crossing n with causes := (s.crossing n).causes.add .conflict }) walk
    rw [settled] at made
    exact made
  refine ⟨fun st => ?_, fun w walk st => ?_, fun w walk st on none => ?_, fun w walk st on fresh => ?_⟩
  · obtain st | st | st | st := st <;> simp only [State.permitFalls, st]
  · have made : s.permitFalls n = s.cancel checkActive n := by simp only [State.permitFalls, st]
    rw [made]
    exact s.cancel_moved quiet_checkActive n walk sound
  · have made : s.permitFalls n = addCauseWith checkActive n .conflict s := by
      simp only [State.permitFalls, st]
      rfl
    obtain ⟨-, -, -, truncates, -⟩ := addCauseWith_acts quiet_checkActive n .conflict s (by rw [none]; rfl) sound
    have moved := truncates w .conflict walk st rfl
    have settled : ((s.crossing n).caused .conflict).settled = .fault := Crossing.settled_fault on (CauseSet.isEmpty_add _ _)
    have causes : ((s.crossing n).caused .conflict).causes = { conflict := true } := by
      change (s.crossing n).causes.add .conflict = _
      rw [none]
      rfl
    rw [settled, causes] at moved
    rw [made]
    refine moved.recore ?_
    rw [caused walk on, none]
    rfl
  · have made : s.permitFalls n = addCauseWith checkActive n .conflict s := by
      obtain st | st := st <;> simp only [State.permitFalls, st] <;> rfl
    obtain ⟨-, -, -, -, -, -, changes, -⟩ := addCauseWith_acts quiet_checkActive n .conflict s fresh sound
    have changed := changes st nofun
    rw [caused walk on] at changed
    rw [made]
    exact changed

/-! ### A SYNC that only withdraws one permit (R70) -/

/-- R6, R10: a drift of a few ticks leaves the crossings, the stations and the notices alone. -/
theorem State.doSync_gradual (u : State) {cycle pos : Nat} (d : DayNight) (same : cycle = u.tb.cycle)
    (small : (driftOf pos u.tb.pos u.tb.cycle).natAbs ≤ 20) : State.doSync .present cycle pos d .position u =
      u.modTimebase fun b => { b with correction := driftOf pos u.tb.pos u.tb.cycle } := by
  unfold State.doSync State.syncPosition
  dsimp only
  rw [if_neg (not_not.mpr same)]
  exact if_pos small

theorem perm_pair_cases {α : Type} {l : List α} {a b : α} (h : l.Perm [a, b]) : l = [a, b] ∨ l = [b, a] := by
  obtain ⟨x, y, rfl⟩ := List.length_eq_two.mp h.length_eq
  obtain rfl | rest := List.mem_cons.mp (h.mem_iff.mp List.mem_cons_self)
  · exact .inl (congrArg (x :: ·) (List.perm_singleton.mp h.cons_inv))
  · obtain rfl := List.mem_singleton.mp rest
    exact .inr (congrArg (x :: ·) (List.perm_singleton.mp (h.trans (List.Perm.swap x a [])).cons_inv))

theorem State.modTimebase_same {f : Timebase → Timebase} (u : State) (same : f u.tb = u.tb) : u.modTimebase f = u := by
  unfold State.modTimebase
  rw [same]

/-- R70: a SYNC that changes nothing but the permit of crossing n makes the fall of that permit alone, and clears the pending
correction before it or after it. -/
theorem State.acceptSync_withdraws {mask : Byte} (s : State) (present : s.tb.presence = .present) (inside : s.tb.pos < s.tb.cycle)
    (had : s.tb.mask.getLsbD n.val = true) (falls : mask.getLsbD n.val = false)
    (others : ∀ m : CrossingId, m ≠ n → s.tb.mask.getLsbD m.val = true → mask.getLsbD m.val = true) :
    ∃ k, s.acceptSync s.tb.cycle s.tb.pos mask s.tb.dayNight = (State.permitFalls { s with
      tb := { s.tb with mask := mask, fresh := 0, presence := .present, correction := k }, draws := s.draws + 1 } n).modTimebase
        fun b => { b with correction := 0 } := by
  obtain ⟨order, perm, -, made⟩ := s.acceptSync_order s.tb.cycle s.tb.pos mask s.tb.dayNight
  have permit (m : CrossingId) : s.permit m = s.tb.mask.getLsbD m.val := by
    unfold State.permit State.maskInForce
    rw [present]
  have alone : s.fallingPermits mask = [n] := filter_eq_singleton _ n fun m => by
    rw [permit, Bool.and_eq_true, Bool.not_eq_true']
    refine ⟨fun ⟨before, after⟩ => ?_, fun same => same ▸ ⟨had, falls⟩⟩
    by_contra other
    rw [others m other before] at after
    exact absurd after nofun
  have works : s.syncWorks mask s.tb.dayNight = [.fall n, .position] := by
    unfold State.syncWorks
    rw [alone, if_pos rfl]
    rfl
  have still (u : State) (pos : u.tb.pos = s.tb.pos) (cycle : u.tb.cycle = s.tb.cycle) :
      State.doSync .present s.tb.cycle s.tb.pos s.tb.dayNight .position u = u.modTimebase fun b => { b with correction := 0 } := by
    have none : driftOf s.tb.pos u.tb.pos u.tb.cycle = 0 := by rw [pos, cycle, driftOf_self _ _ inside]
    have gradual := u.doSync_gradual s.tb.dayNight cycle.symm (pos := s.tb.pos) (by rw [none]; exact Nat.zero_le _)
    rwa [none] at gradual
  rw [works] at perm
  rw [made, present]
  obtain rfl | rfl := perm_pair_cases perm
  · refine ⟨s.tb.correction, ?_⟩
    have kept := (State.Kept.refl { s with
      tb := { s.tb with mask := mask, fresh := 0, presence := .present }, draws := s.draws + 1 }).permitFalls (n := n)
    have pos := congrArg Timebase.pos kept.tb
    have cycle := congrArg Timebase.cycle kept.tb
    exact still _ pos cycle
  · refine ⟨0, ?_⟩
    have first := still { s with
      tb := { s.tb with mask := mask, fresh := 0, presence := .present }, draws := s.draws + 1 } rfl rfl
    have kept := (State.Kept.refl { s with tb := { s.tb with
      mask := mask, fresh := 0, presence := .present, correction := 0 }, draws := s.draws + 1 }).permitFalls (n := n)
    have same := congrArg (State.permitFalls · n) first
    have settled := State.modTimebase_same (f := fun b => { b with correction := 0 }) _ (by rw [kept.tb])
    exact same.trans settled.symm

end

/-- Settles O13. -/
theorem withdrawnPermitActsByInterval : Obligations.WithdrawnPermitActsByInterval := by
  unfold Obligations.WithdrawnPermitActsByInterval
  refine ⟨fun c h => ⟨rfl, rfl, by rw [Nat.min_comm]; rfl⟩, fun s n tag mask dn cycle position takes sound present low high inside sameCycle samePos flag
    had falls others => ?_⟩
  have run := exec_sync_accepted (mask := mask) takes tag low high inside flag
  rw [sameCycle, samePos] at run
  rw [sameCycle, samePos] at inside
  obtain ⟨k, made⟩ := s.handling.acceptSync_withdraws (n := n) present inside had falls others
  let y : State := { s.handling with
    tb := { s.tb with mask := mask, fresh := 0, presence := .present, correction := k }, draws := s.draws + 1 }
  have made : s.handling.acceptSync s.tb.cycle s.tb.pos mask s.tb.dayNight =
      (y.permitFalls n).modTimebase fun b => { b with correction := 0 } := made
  obtain ⟨waits, starting, walk, clears⟩ := y.permitFalls_acts n ((Crossing.sound_iff _).mp sound).1
  rw [made] at run
  generalize y.permitFalls n = v at *
  refine ⟨_, run, ?_⟩
  intro u
  have beside {c : Crossing} (h : y.Becomes n c v) :
      u.Becomes n c ((v.modTimebase fun b => { b with correction := 0 }).syncAnswered tag) := by
    obtain ⟨core, heads, budget, ⟨-, configured, link, patterns, enabled, clips, startUp, -, pending⟩, away⟩ := h
    exact ⟨core, heads, budget, ⟨rfl, configured, link, patterns, enabled, clips, startUp, rfl, pending⟩, away⟩
  have only {c : Crossing} (h : y.Only n c v) :
      u.Only n c ((v.modTimebase fun b => { b with correction := 0 }).syncAnswered tag) := by
    obtain ⟨own, away, limit, -, configured, link, patterns, enabled, clips, startUp, -, pending⟩ := h
    exact ⟨own, away, limit, rfl, configured, link, patterns, enabled, clips, startUp, rfl, pending⟩
  refine ⟨fun st => ?_, fun w has st target => ?_, fun w has st on none => ?_, fun w has st on fresh => ?_⟩
  · rw [waits st]
    exact ⟨rfl, rfl, rfl⟩
  · have moved := starting w has st
    rw [target] at moved
    have notices := congrArg Street.notices moved.street
    exact ⟨beside moved.becomes, moved.plays, notices⟩
  · have moved := walk w has st on none
    have told : (y.street.queued (.truncate n .conflict)).queued (.fault n { conflict := true }) =
        ((s.street.queued (.truncate n .conflict)).queued (.fault n { conflict := true })).handled := by
      change (s.street.handled.queued _).queued _ = _
      rw [Street.queued_handled, Street.queued_handled]
    have notices := congrArg Street.notices (moved.street.trans told)
    exact ⟨beside moved.becomes, moved.plays, notices⟩
  · have changed := clears w has st on fresh
    have told : y.street.queued (.fault n { (s.crossing n).causes with conflict := true }) =
        (s.street.queued (.fault n { (s.crossing n).causes with conflict := true })).handled := Street.queued_handled _ _
    have notices := congrArg Street.notices (changed.street.trans told)
    exact ⟨only changed.only, changed.stations, notices⟩

end Sys2Proof.Machine
end

section
/-! SUPPORT. The swap of a crossing's plans (spec 02, R24), and the step of a SYNC over the top of the cycle (R25). -/

namespace Sys2Proof.Machine

section
variable {s t u v : State} {n m : CrossingId} {a : StationId}

/-! ### The swap of a sound pending record -/

theorem IntervalState.swaps_iff {st : IntervalState} : st.swaps = !st.walks := by cases st <;> rfl

theorem State.PlaysOnly.sameFor (h : s.PlaysOnly t) (a : StationId) : State.SameFor a s t where
  crossings := h.crossings
  patterns := by rw [h.rest]
  clips := by rw [h.rest]
  binding := by rw [h.station]
  barred := by rw [h.station]

/-- R155: PLAYs leave what a station's caches hold. -/
theorem State.PlaysOnly.served (h : s.PlaysOnly t) {x : Station} (k : s.Served a x) : t.Served a x := by
  have needs := (h.sameFor a).needs
  have mirror : (t.station a).mirror = (s.station a).mirror := by rw [h.station]
  have job : (t.station a).job = (s.station a).job := by rw [h.station]
  have clip (k : ClipId) : t.clip k = s.clip k := by rw [h.rest]; rfl
  unfold State.Served at k ⊢
  simp only [needs, mirror, job, clip]
  exact k

/-- R24, R30: crossing n with the record it takes. -/
def Crossing.swapped (c : Crossing) (p : Plan) : Crossing := { c with active := some ⟨p, .sound⟩, planned := none, unusable := false }

/-- R27: the pending record once it was read and found good. -/
theorem checkPlanned_good (n : CrossingId) (s : State) {r : SlotRecord} (planned : (s.crossing n).planned = some r)
    (good : r.check ≠ .uncorrectable) : ((checkPlanned n s).crossing n).planned = some ⟨r.plan, .sound⟩
      ∧ (checkPlanned n s).modCrossing n (Crossing.swapped · r.plan) = s.modCrossing n (Crossing.swapped · r.plan) := by
  cases check : r.check with
  | sound =>
    have same : checkPlanned n s = s := by
      unfold checkPlanned
      rw [planned]
      dsimp only
      rw [check]
    rw [same, planned]
    exact ⟨congrArg some (by rw [← check]), rfl⟩
  | correctable =>
    rw [checkPlanned_correctable n s planned check]
    exact ⟨by rw [State.modCrossing_self], State.modCrossing_modCrossing s n _ _⟩
  | uncorrectable => exact absurd check good

/-- R19, R56: the position now in force in the window of the record a crossing took. -/
theorem State.swapped_inWindow (s : State) (n : CrossingId) (p : Plan) :
    (s.modCrossing n (Crossing.swapped · p)).positionInWindow n = (decide (p.cycle = s.tb.cycle) && p.inWindow s.tb.pos) := by
  have inForce : (s.modCrossing n (Crossing.swapped · p)).planInForce n = if p.cycle = s.tb.cycle then some p else none := by
    unfold State.planInForce
    rw [State.modCrossing_self]
    change Option.filter _ (some p) = _
    by_cases same : p.cycle = s.tb.cycle
    · rw [if_pos same, Option.filter_some_pos (by simpa using same)]
    · rw [if_neg same, Option.filter_some_neg (by simpa using same)]
  unfold State.positionInWindow
  rw [inForce]
  by_cases same : p.cycle = s.tb.cycle
  · rw [if_pos same, decide_eq_true same, Bool.true_and]
    rfl
  · rw [if_neg same, decide_eq_false same]
    rfl

/-- R24, R56: crossing n took a record and had its window evaluated to `inside`; its needs and PLAYs are still to come. -/
def State.taking (s : State) (n : CrossingId) (p : Plan) (inside : Bool) : State :=
  { s.modCrossing n fun c => (c.swapped p).windowed inside with
    street := s.street.windowTold n (s.crossing n) inside (s.hasDemand n) }

theorem State.taking_crossing (s : State) (n : CrossingId) (p : Plan) (inside : Bool) :
    (s.taking n p inside).crossing n = ((s.crossing n).swapped p).windowed inside :=
  s.modCrossing_self n fun c => (c.swapped p).windowed inside

/-- R155: the needs of the OWNED stations of a crossing that took a record. -/
theorem State.taking_caches (s : State) (n : CrossingId) (p : Plan) (inside : Bool) :
    (s.taking n p inside).CachesOnly ((s.taking n p inside).recomputeAll (s.ownedAt n))
    ∧ ∀ a, ((s.taking n p inside).recomputeAll (s.ownedAt n)).station a =
      if (s.station a).owner = .owned ∧ (s.station a).atCrossing n = true then (s.taking n p inside).servedStation a
      else s.station a := by
  obtain ⟨caches, stations⟩ := State.recomputeAll_sound (s.ownedAt n) (s.taking n p inside) (s.nodup_ownedAt n)
    fun a mem b bound => by
      obtain ⟨x, bound', rfl⟩ := Station.atCrossing_iff.mp (State.mem_ownedAt.mp mem).2
      obtain rfl : b = x := Option.some.inj (bound.symm.trans bound')
      rw [State.taking_crossing]
      rfl
  refine ⟨caches, fun a => (stations a).trans (if_congr ?_ rfl rfl)⟩
  rw [State.mem_ownedAt]
  exact ⟨And.left, fun h => ⟨h, h.1⟩⟩

/-- R24: a sound or correctable pending record is taken, the window is evaluated, the needs and the PLAYs follow. -/
theorem State.swapAt_eq (s : State) (n : CrossingId) {r : SlotRecord} (planned : (s.crossing n).planned = some r)
    (good : r.check ≠ .uncorrectable) (waits : (s.crossing n).state.walks = false) :
    let e := s.taking n r.plan (decide (r.plan.cycle = s.tb.cycle) && r.plan.inWindow s.tb.pos)
    let f := e.recomputeAll (s.ownedAt n)
    s.swapAt n = if (s.crossing n).state = .dark then f else f.queuePlays checkActive n := by
  intro e f
  obtain ⟨taken, same⟩ := checkPlanned_good n s planned good
  have at_n := s.modCrossing_self n (Crossing.swapped · r.plan)
  have demand : (s.modCrossing n (Crossing.swapped · r.plan)).hasDemand n = s.hasDemand n := by
    unfold State.hasDemand
    rw [at_n]
    rfl
  have evaluated : (s.modCrossing n (Crossing.swapped · r.plan)).evaluateWindow n = e := by
    rw [State.evaluateWindow_eq, State.swapped_inWindow, at_n, demand, State.setCrossing_eq, State.modCrossing_modCrossing]
    rfl
  have waitsLit (u : State) (st : (u.crossing n).state = (s.crossing n).state) :
      (if (u.crossing n).state.waitsLit then u.queuePlays checkActive n else u) =
        if (s.crossing n).state = .dark then u else u.queuePlays checkActive n := by
    rw [st]
    cases now : (s.crossing n).state with
    | dark | rest | hold | fault => rfl
    | starting | walk | clearance | buffer =>
      rw [now] at waits
      exact absurd waits nofun
  unfold State.swapAt
  rw [if_neg (by rw [planned, IntervalState.swaps_iff, waits]; exact fun h => h.elim nofun nofun)]
  dsimp only
  rw [taken]
  dsimp only
  have takes : (checkPlanned n s).modCrossing n (fun c => { c with
      active := some ⟨r.plan, .sound⟩, planned := none, unusable := false }) =
      s.modCrossing n (Crossing.swapped · r.plan) := same
  rw [takes, evaluated]
  refine waitsLit f ?_
  rw [(s.taking_caches n r.plan _).1.crossing, State.taking_crossing]
  rfl

/-- R24, R56, R138, R155: the swap of crossing n, which has no walk in hand. -/
structure State.Swapped (n : CrossingId) (p : Plan) (inside : Bool) (s t : State) : Prop where
  only : s.Only n (((s.crossing n).swapped p).windowed inside) t
  street : t.street = s.street.windowTold n (s.crossing n) inside (s.hasDemand n)
  serves : ∀ a, (s.station a).owner = .owned → (s.station a).atCrossing n = true → t.Served a (s.station a)
  others : ∀ a, ¬ ((s.station a).owner = .owned ∧ (s.station a).atCrossing n = true) → t.station a = s.station a
  plays : ∀ a b, (s.station a).owner = .owned → (s.station a).binding = some b → b.crossing = n →
    { t.station a with mirror := (s.station a).mirror, job := (s.station a).job } =
      if (s.crossing n).state = .dark then s.station a else (s.station a).played (t.playFor a b (s.crossing n).state)

theorem State.swapAt_swapped (s : State) (n : CrossingId) {r : SlotRecord} (planned : (s.crossing n).planned = some r)
    (good : r.check ≠ .uncorrectable) (waits : (s.crossing n).state.walks = false) :
    State.Swapped n r.plan (decide (r.plan.cycle = s.tb.cycle) && r.plan.inWindow s.tb.pos) s (s.swapAt n) := by
  have made := s.swapAt_eq n planned good waits
  generalize inside : (decide (r.plan.cycle = s.tb.cycle) && r.plan.inWindow s.tb.pos) = flag at *
  have own := s.modCrossing_only n fun c => (c.swapped r.plan).windowed flag
  obtain ⟨caches, stations⟩ := s.taking_caches n r.plan flag
  have at_n := s.taking_crossing n r.plan flag
  dsimp only at made
  generalize (s.taking n r.plan flag).recomputeAll (s.ownedAt n) = f at *
  have beside (a : StationId) : { f.station a with mirror := (s.station a).mirror, job := (s.station a).job } = s.station a :=
    caches.beside a
  have away (a : StationId) (other : ¬ ((s.station a).owner = .owned ∧ (s.station a).atCrossing n = true)) :
      f.station a = s.station a := (stations a).trans (if_neg other)
  have taken {t : State} (plays : f.PlaysOnly t) : s.Only n (((s.crossing n).swapped r.plan).windowed flag) t
      ∧ t.street = s.street.windowTold n (s.crossing n) flag (s.hasDemand n)
      ∧ ∀ a, (s.station a).owner = .owned → (s.station a).atCrossing n = true → t.Served a (s.station a) := by
    obtain ⟨-, others, limit, tb, configured, link, patterns, enabled, clips, startUp, draws, pending⟩ := own
    have kept := caches.kept
    have crossing (m : CrossingId) : t.crossing m = (s.taking n r.plan flag).crossing m :=
      (plays.crossing m).trans (caches.crossing m)
    have first : s.Beside f := ⟨kept.tb, kept.configured, .inl caches.link, kept.patterns, kept.libraryEnabled, kept.clips,
      kept.startUp, kept.draws, kept.pending⟩
    refine ⟨⟨(crossing n).trans at_n, fun m ne => (crossing m).trans (others m ne), plays.limit.trans caches.limit,
      first.trans plays.beside⟩, plays.street.trans caches.street, fun a owned here => plays.served (caches.served ?_)⟩
    exact (stations a).trans (if_pos ⟨owned, here⟩)
  by_cases dark : (s.crossing n).state = .dark
  · rw [if_pos dark] at made
    obtain ⟨only, street, serves⟩ := taken (.refl f)
    rw [made]
    exact ⟨only, street, serves, away, fun a b _ _ _ => by rw [if_pos dark]; exact beside a⟩
  · have state : (f.crossing n).state = (s.crossing n).state := by
      rw [caches.crossing, at_n]
      rfl
    have sound : (f.crossing n).activeSound = true := by
      rw [caches.crossing, at_n]
      rfl
    obtain ⟨playsOnly, queued⟩ := f.queuePlaysTo_ownedAt n
    rw [if_neg dark, State.queuePlays_quiet quiet_checkActive f n sound] at made
    obtain ⟨only, street, serves⟩ := taken playsOnly
    rw [made]
    have queued := State.playsQueuedAt_iff.mp queued
    have owner (a : StationId) : (f.station a).owner = (s.station a).owner := by
      have same := congrArg Station.owner (beside a)
      exact same
    have binding (a : StationId) : (f.station a).binding = (s.station a).binding := by
      have same := congrArg Station.binding (beside a)
      exact same
    refine ⟨only, street, serves, fun a other => ?_, fun a b owned bound at_b => ?_⟩
    · obtain ⟨unbound, named⟩ := queued a
      refine Eq.trans ?_ (away a other)
      cases bound : (s.station a).binding with
      | none => exact unbound ((binding a).trans bound)
      | some b =>
        refine (named b ((binding a).trans bound)).2 fun ⟨owned, at_b⟩ => other ⟨(owner a).symm.trans owned, ?_⟩
        exact Station.atCrossing_iff.mpr ⟨b, bound, beq_iff_eq.mp at_b⟩
    · have played := ((queued a).2 b ((binding a).trans bound)).1 ((owner a).trans owned) (beq_iff_eq.mpr at_b)
      have st : ((f.queuePlaysTo (f.ownedAt n)).crossing b.crossing).state = (s.crossing n).state := by
        rw [at_b, only.1]
        rfl
      rw [st] at played
      rw [if_neg dark, played]
      exact congrArg (Station.played · _) (beside a)

/-! ### The swap of a damaged pending record (R29) -/

theorem State.swapAt_damaged (s : State) (n : CrossingId) {r : SlotRecord} (planned : (s.crossing n).planned = some r)
    (waits : (s.crossing n).state.walks = false) (emptied : ((checkPlanned n s).crossing n).planned = none) :
    s.swapAt n = checkPlanned n s := by
  unfold State.swapAt
  rw [if_neg (by rw [planned, IntervalState.swaps_iff, waits]; exact fun h => h.elim nofun nofun)]
  dsimp only
  rw [emptied]

theorem State.swapAt_none (s : State) (n : CrossingId)
    (idle : (s.crossing n).planned = none ∨ (s.crossing n).state.walks = true) : s.swapAt n = s := by
  refine if_pos ?_
  rw [IntervalState.swaps_iff]
  exact idle.imp (fun none => by rw [none]; rfl) fun walks => by rw [walks]; rfl

/-! ### Swaps of several crossings (R24) -/

/-- R24, R56: what the swap makes of crossing n. -/
def State.swappedCrossing (s : State) (n : CrossingId) : Crossing :=
  match (s.crossing n).planned with
  | none => s.crossing n
  | some r => ((s.crossing n).swapped r.plan).windowed (decide (r.plan.cycle = s.tb.cycle) && r.plan.inWindow s.tb.pos)

theorem Crossing.planned_good {c : Crossing} (sound : c.plannedSound = true) {r : SlotRecord} (planned : c.planned = some r) :
    r.check = .sound := by
  rw [Crossing.plannedSound, planned] at sound
  exact beq_iff_eq.mp sound

theorem State.swapAt_only (s : State) (n : CrossingId) (sound : (s.crossing n).plannedSound = true)
    (waits : (s.crossing n).state.walks = false) : s.Only n (s.swappedCrossing n) (s.swapAt n)
      ∧ ((s.crossing n).state ≠ .rest → (s.swapAt n).street = s.street) := by
  unfold State.swappedCrossing
  cases planned : (s.crossing n).planned with
  | none =>
    rw [s.swapAt_none n (.inl planned)]
    exact ⟨⟨rfl, fun _ _ => rfl, rfl, .refl s⟩, fun _ => rfl⟩
  | some r =>
    have good : r.check ≠ .uncorrectable := by rw [Crossing.planned_good sound planned]; exact nofun
    obtain ⟨only, street, -⟩ := s.swapAt_swapped n planned good waits
    exact ⟨only, fun st => street.trans (if_pos (.inl st))⟩

theorem State.forEach_swapAt (l : List CrossingId) (s : State) (distinct : l.Nodup)
    (sound : ∀ n ∈ l, (s.crossing n).plannedSound = true) (waits : ∀ n ∈ l, (s.crossing n).state.walks = false) :
    (∀ n, (forEach l (fun n v => v.swapAt n) s).crossing n = if n ∈ l then s.swappedCrossing n else s.crossing n)
      ∧ ((∀ n ∈ l, (s.crossing n).state ≠ .rest) → (forEach l (fun n v => v.swapAt n) s).street = s.street) := by
  induction l generalizing s with
  | nil => exact ⟨fun n => by rw [if_neg nofun]; rfl, fun _ => rfl⟩
  | cons n l ih =>
    obtain ⟨fresh, distinct⟩ := List.nodup_cons.mp distinct
    obtain ⟨⟨own, others, -, beside⟩, street⟩ := s.swapAt_only n (sound n List.mem_cons_self) (waits n List.mem_cons_self)
    have away {m : CrossingId} (inside : m ∈ l) : (s.swapAt n).crossing m = s.crossing m :=
      others m fun same => fresh (same ▸ inside)
    obtain ⟨crossings, told⟩ := ih (s.swapAt n) distinct (fun m inside => by rw [away inside]; exact sound m (List.mem_cons_of_mem n inside))
      (fun m inside => by rw [away inside]; exact waits m (List.mem_cons_of_mem n inside))
    refine ⟨fun m => (crossings m).trans ?_, fun silent => (told fun m inside => ?_).trans (street (silent n List.mem_cons_self))⟩
    · by_cases here : m = n
      · subst here
        rw [if_neg fresh, if_pos List.mem_cons_self, own]
      · by_cases inside : m ∈ l
        · rw [if_pos inside, if_pos (List.mem_cons_of_mem n inside)]
          unfold State.swappedCrossing
          rw [away inside, beside.1]
        · rw [if_neg inside, if_neg fun all => inside ((List.mem_cons.mp all).resolve_left here), others m here]
    · rw [away inside]
      exact silent m (List.mem_cons_of_mem n inside)

/-! ### What the swap of one crossing leaves of another -/

section
variable {P : State → Prop} (cl : ClosedAt m P) (serve : ∀ (u : State) (a : StationId), P u → P (u.serveNeeds a))
include cl serve

/-- R155: the needs of stations of crossing m read its records alone. -/
theorem ClosedAt.recomputeAll (l : List StationId) (u : State) (h : P u)
    (bound : ∀ a ∈ l, ∀ b, (u.station a).binding = some b → b.crossing = m) : P (u.recomputeAll l) := by
  induction l generalizing u with
  | nil => exact h
  | cons a l ih =>
    have binding (c : StationId) : ((u.recomputeNeeds a).station c).binding = (u.station c).binding :=
      ((State.Steady.refl u).recomputeNeeds.stations c).binding
    refine ih (u.recomputeNeeds a) ?_ fun c inside b has => bound c (List.mem_cons_of_mem a inside) b ((binding c).symm.trans has)
    unfold State.recomputeNeeds
    split
    next b _ has =>
      rw [bound a List.mem_cons_self b has]
      exact serve _ a (cl.checkPlanned (cl.checkActive h))
    next => exact h

theorem ClosedAt.swapAt (h : P u) : P (u.swapAt m) := by
  unfold State.swapAt
  split
  · exact h
  · have read := cl.checkPlanned h
    generalize Machine.checkPlanned m u = v at read
    dsimp only
    split
    · exact read
    · next r _ =>
      have taken := cl.mod v (fun c => { c with active := some r, planned := none, unusable := false })
        (fun _ => ⟨rfl, rfl⟩) read
      generalize v.modCrossing m (fun c => { c with active := some r, planned := none, unusable := false }) = w at taken
      have served := cl.recomputeAll serve (w.ownedAt m) (w.evaluateWindow m) (cl.evaluateWindow taken) fun a inside b bound => by
        obtain ⟨x, bound', at_m⟩ := Station.atCrossing_iff.mp (State.mem_ownedAt.mp inside).2
        rw [State.station, w.evaluateWindow_stations] at bound
        obtain rfl : b = x := Option.some.inj (bound.symm.trans bound')
        exact at_m
      split
      · exact cl.queuePlays (fun _ => cl.checkActive) served
      · exact served

end

/-- An operation at crossing m leaves every other crossing but for the budget. -/
theorem away_closedAt (other : n ≠ m) (c : Crossing) : ClosedAt m fun u => (u.crossing n).core = c.core where
  mod u f _ h := by
    rw [State.modCrossing_crossing, if_neg other]
    exact h
  heads u h := (u.headsUpToDate_core m n).trans h
  notify _ _ h := h
  plays u h := by
    rw [(u.queuePlaysTo_ownedAt m).1.crossing]
    exact h

theorem State.swapAt_away (s : State) (other : n ≠ m) : ((s.swapAt m).crossing n).core = (s.crossing n).core :=
  (away_closedAt other (s.crossing n)).swapAt (fun u a h => by
    rw [(u.serveNeeds_cachesOnly a).crossing]
    exact h) rfl

theorem State.permitFalls_away (s : State) (other : n ≠ m) : ((s.permitFalls m).crossing n).core = (s.crossing n).core :=
  (away_closedAt other (s.crossing n)).permitFalls rfl

/-- R14, R90, R146: a change of day and night sets the heads' targets, and beside them reaches the levels of stations alone. -/
theorem State.turn_heads (s : State) (d : DayNight) :
    (s.turn d).crossings = (s.modTimebase fun b => { b with dayNight := d }).retargetHeads.crossings
    ∧ (s.turn d).budgetLimit = (s.modTimebase fun b => { b with dayNight := d }).retargetHeads.budgetLimit
    ∧ (s.turn d).street = s.street ∧ s.link.SameButAgain (s.turn d).link := by
  unfold State.turn State.dayNightChanged
  have start : (s.modTimebase fun b => { b with dayNight := d }).retargetHeads.street = s.street
      ∧ (s.modTimebase fun b => { b with dayNight := d }).retargetHeads.link = s.link := ⟨rfl, rfl⟩
  generalize (s.modTimebase fun b => { b with dayNight := d }).retargetHeads = v at start
  refine forEach_keeps (fun u => u.crossings = v.crossings ∧ u.budgetLimit = v.budgetLimit ∧ u.street = s.street
      ∧ s.link.SameButAgain u.link) _ (fun a u h => ?_) _ v ⟨rfl, rfl, start.1, .inl start.2⟩
  split
  · obtain ⟨crossings, limit, street, link⟩ := h
    exact ⟨(u.reevaluateLevel_crossings a).trans crossings, (u.reevaluateLevel_budgetLimit a).trans limit,
      (u.reevaluateLevel_street a).trans street, link.trans (u.reevaluateLevel_link a)⟩
  · exact h

theorem State.turn_core (s : State) (d : DayNight) (n : CrossingId) : ((s.turn d).crossing n).core = (s.crossing n).core
    ∧ (s.turn d).street = s.street := by
  obtain ⟨crossings, -, street, -⟩ := s.turn_heads d
  refine ⟨?_, street⟩
  rw [State.crossing, crossings]
  change ((State.retargetHeads _).crossing n).core = _
  unfold State.retargetHeads
  rw [State.rebudget_crossing, Crossing.mapChannels_core, State.mapChannels_crossing, Crossing.mapChannels_core]
  rfl

/-! ### A wrap step among the effects of a SYNC (R25) -/

/-- A loop keeps what each of the changes it makes keeps. -/
theorem forEach_keeps_of_mem {ι : Type} {P : State → Prop} {f : ι → State → State} (l : List ι)
    (step : ∀ w ∈ l, ∀ u, P u → P (f w u)) (u : State) (h : P u) : P (forEach l f u) := by
  induction l generalizing u with
  | nil => exact h
  | cons w l ih => exact ih (fun v k => step v (List.mem_cons_of_mem w k)) _ (step w List.mem_cons_self u h)

/-- A loop that keeps `A` before it comes to `x`, turns it into `B` there, and keeps `B` after it. -/
theorem forEach_turns {ι : Type} {A B : State → Prop} {f : ι → State → State} {x : ι} (turns : ∀ u, A u → B (f x u))
    (l : List ι) (before : ∀ w ∈ l, w ≠ x → ∀ u, A u → A (f w u)) (after : ∀ w ∈ l, w ≠ x → ∀ u, B u → B (f w u))
    (distinct : l.Nodup) (inside : x ∈ l) (u : State) (h : A u) : B (forEach l f u) := by
  induction l generalizing u with
  | nil => exact absurd inside List.not_mem_nil
  | cons w l ih =>
    obtain ⟨fresh, distinct⟩ := List.nodup_cons.mp distinct
    by_cases here : w = x
    · subst here
      exact forEach_keeps_of_mem l (fun v k => after v (List.mem_cons_of_mem w k) fun e => fresh (e ▸ k)) _ (turns u h)
    · exact ih (fun v k => before v (List.mem_cons_of_mem w k)) (fun v k => after v (List.mem_cons_of_mem w k)) distinct
        ((List.mem_cons.mp inside).resolve_left (Ne.symm here)) _ (before w List.mem_cons_self here u h)

/-- R8, R10: a forward step over the top of the cycle. -/
theorem State.doSync_steps (u : State) {cycle pos : Nat} (d : DayNight) (same : cycle = u.tb.cycle)
    (far : 20 < driftOf pos u.tb.pos u.tb.cycle) (wraps : (u.tb.cycle : Int) ≤ u.tb.pos + driftOf pos u.tb.pos u.tb.cycle) :
    State.doSync .present cycle pos d .position u = ((u.notify (.cycle .step)).stepTo cycle pos).swapAll := by
  have wrap : stepWraps (driftOf pos u.tb.pos u.tb.cycle) u.tb.pos u.tb.cycle = true := by
    unfold stepWraps
    rw [decide_eq_true (by omega), decide_eq_true wraps]
    rfl
  unfold State.doSync State.syncPosition
  dsimp only
  have limit : ¬ (driftOf pos u.tb.pos u.tb.cycle).natAbs ≤ Config.driftLimit := by
    unfold Config.driftLimit
    omega
  rw [if_neg (not_not.mpr same), if_neg limit, wrap]
  rfl

/-- R6 to R10: what the position of a SYNC can do at the cycle length in force. -/
theorem State.doSync_position_cases (u : State) {cycle pos : Nat} (d : DayNight) (same : cycle = u.tb.cycle) {P : State → Prop}
    (corrects : ∀ k, P (u.modTimebase fun b => { b with correction := k }))
    (steps : P ((u.notify (.cycle .step)).stepTo cycle pos))
    (swaps : ∀ m v, P v → P (v.swapAt m)) : P (State.doSync .present cycle pos d .position u) := by
  unfold State.doSync State.syncPosition
  dsimp only
  rw [if_neg (not_not.mpr same)]
  split
  · exact corrects _
  · cases stepWraps (driftOf pos u.tb.pos u.tb.cycle) u.tb.pos u.tb.cycle
    · exact steps
    · have swapped := forEach_keeps P _ swaps allCrossings _ steps
      exact swapped

theorem State.mem_syncWorks_position (s : State) (mask : Byte) (d : DayNight) : .position ∈ s.syncWorks mask d :=
  List.mem_append_right _ (List.mem_singleton.mpr rfl)

theorem State.mem_syncWorks_fall {s : State} {mask : Byte} {d : DayNight} {n : CrossingId} : .fall n ∈ s.syncWorks mask d ↔
    s.permit n = true ∧ mask.getLsbD n.val = false := by
  have turn : SyncWork.fall n ∉ (if s.tb.dayNight = d then [] else [SyncWork.turn]) := by
    split <;> simp
  unfold State.syncWorks State.fallingPermits
  simp [turn, mem_allCrossings]

/-- R24, R46, R63: crossing n after its start was cancelled and a wrap step came before the cancellation, which it cannot act
on, or after it. -/
structure Crossing.FellAndStepped (c after : Crossing) (r : SlotRecord) (now : Crossing) : Prop where
  state : now.state = .rest
  walk : now.walk = none
  places : ∀ ap, now.place ap = after.place ap
  plans : (now.planned = none ∧ now.active = some r) ∨ (now.planned = some r ∧ now.active = c.active)

theorem Crossing.FellAndStepped.of_core {c after now d : Crossing} {r : SlotRecord} (h : c.FellAndStepped after r now)
    (core : d.core = now.core) : c.FellAndStepped after r d := by
  have state := congrArg Crossing.state core
  have walk := congrArg Crossing.walk core
  have planned := congrArg Crossing.planned core
  have active := congrArg Crossing.active core
  have places (ap : Approach) : d.place ap = now.place ap := by
    have same := congrArg (Crossing.place · ap) core
    cases ap <;> exact same
  obtain ⟨rest, none, placed, plans⟩ := h
  refine ⟨state.trans rest, walk.trans none, fun ap => (places ap).trans (placed ap), ?_⟩
  exact plans.imp (fun h => ⟨planned.trans h.1, active.trans h.2⟩) fun h => ⟨planned.trans h.1, active.trans h.2⟩

/-- R24: a swap at a crossing in REST takes the pending record. -/
theorem Crossing.FellAndStepped.swapAt {c after : Crossing} {r : SlotRecord} (good : r.check = .sound)
    (h : c.FellAndStepped after r (u.crossing n)) (m : CrossingId) :
    c.FellAndStepped after r ((u.swapAt m).crossing n) := by
  by_cases other : n = m
  · subst other
    obtain ⟨rest, none, placed, plans⟩ := h
    obtain ⟨unplanned, active⟩ | ⟨planned, active⟩ := plans
    · rw [u.swapAt_none n (.inl unplanned)]
      exact ⟨rest, none, placed, .inl ⟨unplanned, active⟩⟩
    · obtain ⟨⟨own, -⟩, -⟩ := u.swapAt_swapped n planned (by rw [good]; exact nofun) (by rw [rest]; rfl)
      rw [own]
      refine ⟨rest, none, fun ap => Eq.trans ?_ (placed ap), .inl ⟨rfl, congrArg some (by rw [← good])⟩⟩
      cases ap <;> rfl
  · exact h.of_core (u.swapAt_away other)

theorem State.permitFalls_waits (u : State) (m : CrossingId)
    (st : (u.crossing m).state = .dark ∨ (u.crossing m).state = .rest ∨ (u.crossing m).state = .hold ∨ (u.crossing m).state = .fault) :
    u.permitFalls m = u := by
  obtain st | st | st | st := st <;> simp only [State.permitFalls, st]

/-- R6 to R10: a SYNC of the cycle length in force keeps it. -/
theorem State.doSync_cycle (u : State) {found : Presence} {cycle pos : Nat} (d : DayNight) (w : SyncWork) (same : u.tb.cycle = cycle) :
    (State.doSync found cycle pos d w u).tb.cycle = cycle := by
  obtain ⟨_, -, kept⟩ := State.doSync_kept found cycle pos d w u
  have made := congrArg Timebase.cycle kept.tb
  refine made.trans ?_
  cases w with
  | fall _ => exact same
  | turn => exact same
  | position =>
    change (u.tb.synced found cycle pos).cycle = cycle
    unfold Timebase.synced
    dsimp only
    split
    · exact same
    · rfl

/-- R5: the effects of an accepted SYNC before one of them, that one, and those after it. -/
theorem State.acceptSync_turns {A B : State → Prop} {cycle pos : Nat} {mask : Byte} {d : DayNight} (s : State) (x : SyncWork)
    (inside : x ∈ s.syncWorks mask d)
    (start : A { s with tb := { s.tb with mask := mask, fresh := 0, presence := .present }, draws := s.draws + 1 })
    (turns : ∀ u, A u → B (State.doSync s.tb.presence cycle pos d x u))
    (before : ∀ w ∈ s.syncWorks mask d, w ≠ x → ∀ u, A u → A (State.doSync s.tb.presence cycle pos d w u))
    (after : ∀ w ∈ s.syncWorks mask d, w ≠ x → ∀ u, B u → B (State.doSync s.tb.presence cycle pos d w u)) :
    B (s.acceptSync cycle pos mask d) := by
  obtain ⟨order, perm, -, made⟩ := s.acceptSync_order cycle pos mask d
  rw [made]
  exact forEach_turns turns order (fun w k => before w (perm.mem_iff.mp k)) (fun w k => after w (perm.mem_iff.mp k))
    (perm.nodup_iff.mpr (s.nodup_syncWorks mask d)) (perm.mem_iff.mpr inside) _ start

/-- R25: at crossings that are all DARK, before a wrap step. -/
structure State.AllDark (s u : State) : Prop where
  cycle : u.tb.cycle = s.tb.cycle
  pos : u.tb.pos = s.tb.pos
  core : ∀ n, (u.crossing n).core = (s.crossing n).core

/-- R25: at crossings that are all DARK, after a wrap step. -/
def State.AllSwapped (s u : State) : Prop := ∀ n, (u.crossing n).state = .dark ∧ (u.crossing n).planned = none
  ∧ (u.crossing n).active = ((s.crossing n).planned <|> (s.crossing n).active)

theorem State.AllSwapped.of_core (h : s.AllSwapped u) (core : ∀ n, (v.crossing n).core = (u.crossing n).core) : s.AllSwapped v := by
  intro n
  have state := congrArg Crossing.state (core n)
  have planned := congrArg Crossing.planned (core n)
  have active := congrArg Crossing.active (core n)
  obtain ⟨dark, none, held⟩ := h n
  exact ⟨state.trans dark, planned.trans none, active.trans held⟩

/-- R24: the swap of every crossing, each DARK. -/
theorem State.AllDark.swapAll (h : ∀ n, (u.crossing n).core = (s.crossing n).core) (dark : ∀ n, (s.crossing n).state = .dark)
    (sound : s.PlansSound) : s.AllSwapped u.swapAll := by
  have state (n : CrossingId) : (u.crossing n).state = .dark := by
    have same := congrArg Crossing.state (h n)
    exact same.trans (dark n)
  have planned (n : CrossingId) : (u.crossing n).planned = (s.crossing n).planned := by
    have same := congrArg Crossing.planned (h n)
    exact same
  have active (n : CrossingId) : (u.crossing n).active = (s.crossing n).active := by
    have same := congrArg Crossing.active (h n)
    exact same
  have good (n : CrossingId) : (s.crossing n).plannedSound = true := ((Crossing.sound_iff _).mp (sound n)).2
  obtain ⟨crossings, -⟩ := State.forEach_swapAt allCrossings u nodup_allCrossings
    (fun n _ => by rw [Crossing.plannedSound, planned]; exact good n) fun n _ => by rw [state]; rfl
  intro n
  have now : u.swapAll.crossing n = u.swappedCrossing n := (crossings n).trans (if_pos (mem_allCrossings n))
  rw [now]
  unfold State.swappedCrossing
  rw [planned]
  cases pending : (s.crossing n).planned with
  | none => exact ⟨state n, (planned n).trans pending, (active n).trans rfl⟩
  | some r => exact ⟨state n, rfl, congrArg some (by rw [← Crossing.planned_good (good n) pending])⟩

end

/-- Settles O17. -/
theorem swapTakesThePendingPlan : Obligations.SwapTakesThePendingPlan := by
  unfold Obligations.SwapTakesThePendingPlan
  refine ⟨State.swapAt_none, fun s n r planned good waits => ?_, fun s n r planned bad sound none fresh => ?_, ?_, ?_⟩
  · obtain ⟨only, street, serves, others, plays⟩ := s.swapAt_swapped n planned good waits
    exact ⟨only, street, serves, others, plays⟩
  · intro c t
    obtain ⟨stays, faults, -⟩ := checkPlanned_uncorrectable n s planned bad sound fresh
    have emptied {d : Crossing} (core : ((checkPlanned n s).crossing n).core = d.core) (clear : d.planned = .none)
        (waits : (s.crossing n).state.walks = false) : t = checkPlanned n s := by
      have same := congrArg Crossing.planned core
      exact s.swapAt_damaged n planned waits (same.trans clear)
    have dark (st : c.state = .dark ∨ c.state = .fault) : State.Changed n c (s.street.queued (.fault n c.causes)) s t := by
      have changed := stays none st
      have waits : c.state.walks = false := by obtain st | st := st <;> rw [st] <;> rfl
      rw [emptied (congrArg Crossing.core changed.only.1) rfl waits]
      exact changed
    have rest (st : c.state = .rest ∨ c.state = .hold) :
        State.Moved n (c.entered .fault) (s.street.queued (.fault n c.causes)) s t := by
      have moved := faults none st
      have waits : c.state.walks = false := by obtain st | st := st <;> rw [st] <;> rfl
      rw [emptied moved.becomes.1 rfl waits]
      exact moved
    refine ⟨fun st => ⟨(dark st).only, (dark st).stations⟩, fun st => ⟨(rest st).becomes, (rest st).plays⟩, fun waits => ?_⟩
    cases st : c.state with
    | dark => exact (dark (.inl st)).street
    | fault => exact (dark (.inr st)).street
    | rest => exact (rest (.inl st)).street
    | hold => exact (rest (.inr st)).street
    | starting | walk | clearance | buffer =>
      rw [st] at waits
      exact absurd waits nofun
  · intro s tag dn cycle position takes sound dark present low high inside same flag far wraps
    obtain ⟨d, flag⟩ : ∃ d, (dn = 0 ∧ d = DayNight.day) ∨ (dn = 1 ∧ d = DayNight.night) :=
      flag.elim (fun e => ⟨.day, .inl ⟨e, rfl⟩⟩) fun e => ⟨.night, .inr ⟨e, rfl⟩⟩
    refine ⟨_, exec_sync_accepted (mask := s.tb.mask) takes tag low high inside flag, ?_⟩
    suffices swapped : s.AllSwapped (s.handling.acceptSync cycle.toNat position.toNat s.tb.mask d) from fun n => (swapped n).2
    have core (u : State) (w : SyncWork) (other : w ≠ .position) (waits : ∀ n, (u.crossing n).state = .dark) (n : CrossingId) :
        ((State.doSync s.tb.presence cycle.toNat position.toNat d w u).crossing n).core = (u.crossing n).core := by
      cases w with
      | fall m =>
        have still : State.doSync s.tb.presence cycle.toNat position.toNat d (.fall m) u = u :=
          u.permitFalls_waits m (.inl (waits m))
        rw [still]
      | turn => exact (u.turn_core d n).1
      | position => exact absurd rfl other
    refine s.handling.acceptSync_turns (A := s.AllDark) .position (s.handling.mem_syncWorks_position _ _)
      ⟨rfl, rfl, fun _ => rfl⟩ (fun u h => ?_) (fun w _ other u h => ?_) fun w _ other u h => ?_
    · change s.AllSwapped (State.doSync s.tb.presence _ _ d .position u)
      rw [present, u.doSync_steps d (same.trans h.cycle.symm) (by rw [h.pos, h.cycle]; exact far)
        (by rw [h.pos, h.cycle]; exact wraps)]
      exact State.AllDark.swapAll h.core dark sound
    · have waits (n : CrossingId) : (u.crossing n).state = .dark := by
        have state := congrArg Crossing.state (h.core n)
        exact state.trans (dark n)
      refine ⟨(u.doSync_cycle d w (h.cycle.trans same.symm)).trans same, ?_, fun n => (core u w other waits n).trans (h.core n)⟩
      obtain ⟨_, -, kept⟩ := State.doSync_kept s.tb.presence cycle.toNat position.toNat d w u
      have pos := congrArg Timebase.pos kept.tb
      refine Eq.trans (Eq.trans pos ?_) h.pos
      cases w with
      | fall _ | turn => rfl
      | position => exact absurd rfl other
    · exact h.of_core (core u w other fun n => (h n).1)
  · intro s n tag mask dn cycle position w r takes sound st walk target planned present had falls low high inside same flag far wraps
    obtain ⟨d, flag⟩ : ∃ d, (dn = 0 ∧ d = DayNight.day) ∨ (dn = 1 ∧ d = DayNight.night) :=
      flag.elim (fun e => ⟨.day, .inl ⟨e, rfl⟩⟩) fun e => ⟨.night, .inr ⟨e, rfl⟩⟩
    refine ⟨_, exec_sync_accepted (mask := mask) takes tag low high inside flag, ?_⟩
    obtain ⟨activeSound, plannedSound⟩ := (Crossing.sound_iff _).mp (sound n)
    have good := Crossing.planned_good plannedSound planned
    suffices met : (s.crossing n).FellAndStepped ((s.crossing n).cancelled w .rest) r
        ((s.handling.acceptSync cycle.toNat position.toNat mask d).crossing n) from ⟨met.state, met.walk, met.places, met.plans⟩
    have falling : SyncWork.fall n ∈ s.handling.syncWorks mask d := State.mem_syncWorks_fall.mpr ⟨by
      unfold State.permit State.maskInForce
      change (match s.tb.presence with | .present => s.tb.mask | .lost => 0).getLsbD n.val = true
      rw [present]
      exact had, falls⟩
    refine (s.handling.acceptSync_turns (A := fun u => u.tb.cycle = cycle.toNat ∧ (u.crossing n).core = (s.crossing n).core)
      (B := fun u => u.tb.cycle = cycle.toNat ∧ (s.crossing n).FellAndStepped ((s.crossing n).cancelled w .rest) r (u.crossing n))
      (.fall n) falling ⟨same.symm, rfl⟩ (fun u ⟨length, core⟩ => ⟨u.doSync_cycle d _ length, ?_⟩)
      (fun x _ other u ⟨length, core⟩ => ⟨u.doSync_cycle d x length, ?_⟩)
      fun x _ other u ⟨length, met⟩ => ⟨u.doSync_cycle d x length, ?_⟩).2
    · have state := congrArg Crossing.state core
      have had := congrArg Crossing.walk core
      have active := congrArg Crossing.activeSound core
      obtain ⟨-, starting, -⟩ := u.permitFalls_acts n (active.trans activeSound)
      have moved := starting w (had.trans walk) (state.trans st)
      rw [target] at moved
      have fell : (s.crossing n).FellAndStepped ((s.crossing n).cancelled w .rest) r ((s.crossing n).cancelled w .rest) :=
        ⟨rfl, rfl, fun _ => rfl, .inr ⟨planned, rfl⟩⟩
      exact fell.of_core (moved.becomes.1.trans (Crossing.cancelled_core core w .rest))
    · cases x with
      | fall m => exact (u.permitFalls_away fun e => other (congrArg SyncWork.fall e.symm)).trans core
      | turn => exact (u.turn_core d n).1.trans core
      | position =>
        change ((State.doSync s.tb.presence _ _ d .position u).crossing n).core = _
        rw [present]
        refine u.doSync_position_cases d length.symm (P := fun v => (v.crossing n).core = (s.crossing n).core)
          (fun _ => core) core fun m v h => ?_
        by_cases here : n = m
        · subst here
          have state := congrArg Crossing.state h
          rw [v.swapAt_none n (.inr (by rw [show (v.crossing n).state = .starting from state.trans st]; rfl))]
          exact h
        · exact (v.swapAt_away here).trans h
    · cases x with
      | fall m => exact met.of_core (u.permitFalls_away fun e => other (congrArg SyncWork.fall e.symm))
      | turn => exact met.of_core (u.turn_core d n).1
      | position =>
        change (s.crossing n).FellAndStepped _ r ((State.doSync s.tb.presence _ _ d .position u).crossing n)
        rw [present]
        exact u.doSync_position_cases d length.symm (P := fun v => (s.crossing n).FellAndStepped _ r (v.crossing n))
          (fun _ => met) met fun m v h => h.swapAt good m

end Sys2Proof.Machine
end

section
/-! SUPPORT. The CYCLE notices of a SYNC at a part whose crossings have nothing to tell (spec 01, R15). -/

namespace Sys2Proof.Machine

section
variable {s u v : State} {n : CrossingId}

/-- Every crossing is DARK, in HOLD or in FAULT: none has a notice for a fall of its permit or an evaluation of its window. -/
def State.Silent (u : State) : Prop :=
  ∀ n, (u.crossing n).state = .dark ∨ (u.crossing n).state = .hold ∨ (u.crossing n).state = .fault

theorem State.Silent.of_core (h : u.Silent) (core : ∀ n, (v.crossing n).core = (u.crossing n).core) : v.Silent := by
  intro n
  have state := congrArg Crossing.state (core n)
  rw [show (v.crossing n).state = (u.crossing n).state from state]
  exact h n

theorem State.Silent.notRest (h : u.Silent) (n : CrossingId) : (u.crossing n).state ≠ .rest := by
  obtain st | st | st := h n <;> rw [st] <;> exact nofun

theorem State.Silent.waits (h : u.Silent) (n : CrossingId) : (u.crossing n).state.walks = false := by
  obtain st | st | st := h n <;> rw [st] <;> rfl

theorem State.PlansSound.of_core (h : u.PlansSound) (core : ∀ n, (v.crossing n).core = (u.crossing n).core) : v.PlansSound := by
  intro n
  have sound := congrArg Crossing.sound (core n)
  exact sound.trans (h n)

/-- R56: an evaluation of its window is silent at a crossing that is not in REST, and keeps its state and records. -/
theorem State.evaluateWindow_silent (n : CrossingId) (silent : u.Silent) (sound : u.PlansSound) :
    (u.evaluateWindow n).Silent ∧ (u.evaluateWindow n).PlansSound ∧ (u.evaluateWindow n).street = u.street := by
  rw [State.evaluateWindow_eq, State.setCrossing_eq]
  have at_m (m : CrossingId) : ((u.modCrossing n fun _ => (u.crossing n).windowed (u.positionInWindow n)).crossing m).state =
      (u.crossing m).state ∧ ((u.modCrossing n fun _ => (u.crossing n).windowed (u.positionInWindow n)).crossing m).sound =
      (u.crossing m).sound := by
    rw [State.modCrossing_crossing]
    split
    next here => subst here; exact ⟨rfl, rfl⟩
    · exact ⟨rfl, rfl⟩
  refine ⟨fun m => ?_, fun m => (at_m m).2.trans (sound m), if_pos (.inl (silent.notRest n))⟩
  have same := (at_m m).1
  have was := silent m
  rw [← same] at was
  exact was

/-- R26: a new cycle length has nothing to tell at a part without damaged records whose crossings do not rest. -/
theorem State.cycleChanged_silent (was : State) (silent : u.Silent) (sound : u.PlansSound) :
    (State.cycleChanged was u).Silent ∧ (State.cycleChanged was u).street = u.street := by
  unfold State.cycleChanged
  obtain ⟨order, d, -, -, made⟩ := forCrossings_order Crossing.flawed (fun n s =>
    let s := checkActive n s
    if s.outOfPlan n = was.outOfPlan n then s else s.evaluateWindow n) u
  rw [made]
  refine (fun kept => ⟨kept.1, kept.2.2⟩) (forEach_keeps (fun v => v.Silent ∧ v.PlansSound ∧ v.street = u.street) _
    (fun n v ⟨silent, sound, street⟩ => ?_) order { u with draws := d } ⟨silent, sound, rfl⟩)
  dsimp only
  rw [checkActive_sound n v ((Crossing.sound_iff _).mp (sound n)).1]
  split
  · exact ⟨silent, sound, street⟩
  · obtain ⟨silent', sound', street'⟩ := State.evaluateWindow_silent n silent sound
    exact ⟨silent', sound', street'.trans street⟩

/-- R24: a swap has nothing to tell there. -/
theorem State.swapWhen_silent (b : Bool) (silent : u.Silent) (sound : u.PlansSound) :
    (u.when b State.swapAll).Silent ∧ (u.when b State.swapAll).street = u.street := by
  cases b with
  | false => exact ⟨silent, rfl⟩
  | true =>
    obtain ⟨crossings, street⟩ := State.forEach_swapAt allCrossings u nodup_allCrossings
      (fun n _ => ((Crossing.sound_iff _).mp (sound n)).2) fun n _ => silent.waits n
    refine ⟨fun n => ?_, street fun n _ => silent.notRest n⟩
    have now : (u.when true State.swapAll).crossing n = u.swappedCrossing n := (crossings n).trans (if_pos (mem_allCrossings n))
    have state : (u.swappedCrossing n).state = (u.crossing n).state := by
      unfold State.swappedCrossing
      split <;> rfl
    rw [now, state]
    exact silent n

/-- R15: the CYCLE notices of a SYNC that found the Timebase `b`, the host as in `found`. -/
def Timebase.syncNotices (b : Timebase) (found : Presence) (cycle pos : Nat) : List Notice :=
  if found = .lost then
    if b.cycle = 0 then []
    else if cycle = b.cycle then [.cycle .regained] else [.cycle .regained, .cycle .length]
  else if cycle ≠ b.cycle then [.cycle .length]
  else if 20 < (driftOf pos b.pos b.cycle).natAbs then [.cycle .step] else []

/-- R15: the position of a SYNC queues its CYCLE notices and no other. -/
theorem State.syncPosition_silent (found : Presence) (cycle pos : Nat) (silent : u.Silent) (sound : u.PlansSound) :
    (u.syncPosition found cycle pos).Silent
    ∧ (u.syncPosition found cycle pos).street = (u.tb.syncNotices found cycle pos).foldl Street.queued u.street := by
  unfold State.syncPosition Timebase.syncNotices
  cases found with
  | lost =>
    dsimp only
    rw [if_pos rfl]
    split
    · exact State.cycleChanged_silent u (u := u.stepTo cycle pos) silent sound
    · split
      · exact State.swapWhen_silent _ (u := (u.notify (.cycle .regained)).stepTo cycle pos) silent sound
      · exact State.cycleChanged_silent _ (u := ((u.notify (.cycle .regained)).notify (.cycle .length)).stepTo cycle pos) silent sound
  | present =>
    dsimp only
    rw [if_neg (nofun : ¬ Presence.present = .lost)]
    split
    · exact State.cycleChanged_silent _ (u := (u.notify (.cycle .length)).stepTo cycle pos) silent sound
    · have limit : Config.driftLimit = 20 := rfl
      rw [limit]
      by_cases near : (driftOf pos u.tb.pos u.tb.cycle).natAbs ≤ 20
      · rw [if_pos near, if_neg (Nat.not_lt.mpr near)]
        exact ⟨silent, rfl⟩
      · rw [if_neg near, if_pos (Nat.lt_of_not_le near)]
        exact State.swapWhen_silent _ (u := (u.notify (.cycle .step)).stepTo cycle pos) silent sound

/-- R13, R14: beside the position, an effect of a SYNC leaves crossings that have nothing to tell but for their channels. -/
theorem State.doSync_silent {found : Presence} {cycle pos : Nat} {d : DayNight} {w : SyncWork} (other : w ≠ .position)
    (silent : u.Silent) : (∀ n, ((State.doSync found cycle pos d w u).crossing n).core = (u.crossing n).core)
    ∧ (State.doSync found cycle pos d w u).street = u.street
    ∧ (State.doSync found cycle pos d w u).tb.cycle = u.tb.cycle ∧ (State.doSync found cycle pos d w u).tb.pos = u.tb.pos := by
  cases w with
  | fall m =>
    have still : State.doSync found cycle pos d (.fall m) u = u :=
      u.permitFalls_waits m ((silent m).imp_right .inr)
    rw [still]
    exact ⟨fun _ => rfl, rfl, rfl, rfl⟩
  | turn =>
    have turned : State.doSync found cycle pos d .turn u = u.turn d := rfl
    rw [turned, (u.turn_kept d).tb]
    exact ⟨fun n => (u.turn_core d n).1, (u.turn_core d 0).2, rfl, rfl⟩
  | position => exact absurd rfl other

end

/-- Settles O12. -/
theorem syncQueuesItsCycleNotices : Obligations.SyncQueuesItsCycleNotices := by
  unfold Obligations.SyncQueuesItsCycleNotices
  intro s tag mask dn cycle position takes sound silent low high inside flag
  obtain ⟨d, flag⟩ : ∃ d, (dn = 0 ∧ d = DayNight.day) ∨ (dn = 1 ∧ d = DayNight.night) :=
    flag.elim (fun e => ⟨.day, .inl ⟨e, rfl⟩⟩) fun e => ⟨.night, .inr ⟨e, rfl⟩⟩
  refine ⟨_, exec_sync_accepted takes tag low high inside flag, ?_⟩
  suffices told : (s.handling.acceptSync cycle.toNat position.toNat mask d).street =
      (s.tb.syncNotices s.tb.presence cycle.toNat position.toNat).foldl Street.queued s.street.handled by
    have notices := congrArg Street.notices (told.trans (Street.foldl_queued_handled _ s.street))
    exact notices
  refine (s.handling.acceptSync_turns (mask := mask) (d := d) (cycle := cycle.toNat) (pos := position.toNat) .position
    (A := fun u => u.tb.cycle = s.tb.cycle ∧ u.tb.pos = s.tb.pos ∧ u.Silent ∧ u.PlansSound ∧ u.street = s.street.handled)
    (B := fun u => u.Silent ∧ u.street =
      (s.tb.syncNotices s.tb.presence cycle.toNat position.toNat).foldl Street.queued s.street.handled)
    (s.handling.mem_syncWorks_position _ _) ⟨rfl, rfl, silent, sound, rfl⟩
    (fun u ⟨length, pos, silent, sound, street⟩ => ?_) (fun w _ other u ⟨length, pos, silent, sound, street⟩ => ?_)
    fun w _ other u ⟨silent, street⟩ => ?_).2
  · have settled := State.syncPosition_silent (u := u) s.tb.presence cycle.toNat position.toNat silent sound
    have told : u.tb.syncNotices s.tb.presence cycle.toNat position.toNat =
        s.tb.syncNotices s.tb.presence cycle.toNat position.toNat := by
      unfold Timebase.syncNotices
      rw [length, pos]
    rw [told, street] at settled
    exact settled
  · obtain ⟨core, told, cycle, at_pos⟩ := State.doSync_silent (found := s.tb.presence) (cycle := cycle.toNat)
      (pos := position.toNat) (d := d) other silent
    exact ⟨cycle.trans length, at_pos.trans pos, silent.of_core core, sound.of_core core, told.trans street⟩
  · obtain ⟨core, told, -⟩ := State.doSync_silent (found := s.tb.presence) (cycle := cycle.toNat)
      (pos := position.toNat) (d := d) other silent
    exact ⟨silent.of_core core, told.trans street⟩

end Sys2Proof.Machine
end

section
/-! SUPPORT. An accepted SYNC as a whole (spec 01, R5 to R14): Timebase, report, free orders, nominal targets, levels. -/

namespace Sys2Proof.Machine

section
variable {s t u v : State} {n : CrossingId}

/-! ### The Timebase (R6 to R10) -/

/-- R6: a host found PRESENT whose position drifts by 20 ticks or less on the cycle length in force. -/
theorem Timebase.synced_eq (b : Timebase) (found : Presence) (cycle pos : Nat) :
    let drift := driftOf pos b.pos b.cycle
    let gradual : Bool := found == .present && cycle == b.cycle && decide (drift.natAbs ≤ 20)
    b.synced found cycle pos = { b with
      cycle := cycle, pos := if gradual then b.pos else pos, correction := if gradual then drift else 0 } := by
  intro drift gradual
  have reads : gradual = true ↔ found = .present ∧ cycle = b.cycle ∧ drift.natAbs ≤ Config.driftLimit := by
    simp [gradual, Config.driftLimit, and_assoc]
  unfold Timebase.synced
  by_cases small : gradual = true
  · obtain ⟨-, same, -⟩ := reads.mp small
    rw [if_pos (reads.mp small), small, same]
    rfl
  · rw [if_neg (small ∘ reads.mpr), if_neg small, if_neg small]

/-- R13: the permits in force that a new mask withdraws. -/
theorem State.fallingPermits_eq (s : State) (mask : Byte) : s.fallingPermits mask = allCrossings.filter fun n =>
    s.tb.presence == .present && s.tb.mask.getLsbD n.val && !mask.getLsbD n.val := by
  unfold State.fallingPermits State.permit State.maskInForce
  refine List.filter_congr fun n _ => ?_
  cases s.tb.presence
  · rfl
  · simp

/-! ### What the effects beside the change of day and night keep -/

/-- A property that every effect of a SYNC but the change of day and night keeps, at whatever crossing. -/
structure ClosedInSync (P : State → Prop) : Prop where
  crossing : ∀ n, ClosedAt n P
  serve : ∀ (u : State) (a : StationId), P u → P (u.serveNeeds a)
  time : ∀ (u : State) (f : Timebase → Timebase), P u → P (u.modTimebase f)
  draw : ∀ (u : State) (d : Nat), P u → P { u with draws := d }

section
variable {P : State → Prop} (cl : ClosedInSync P)
include cl

theorem ClosedInSync.notify (x : Notice) (h : P u) : P (u.notify x) := (cl.crossing 0).notify u x h

theorem ClosedInSync.swapWhen (b : Bool) (h : P u) : P (u.when b State.swapAll) := by
  cases b with
  | false => exact h
  | true => exact forEach_keeps P _ (fun m _ k => (cl.crossing m).swapAt cl.serve k) allCrossings u h

theorem ClosedInSync.cycleChanged (was : State) (h : P u) : P (State.cycleChanged was u) := by
  unfold State.cycleChanged
  obtain ⟨order, d, -, -, made⟩ := forCrossings_order Crossing.flawed (fun n s =>
    let s := checkActive n s
    if s.outOfPlan n = was.outOfPlan n then s else s.evaluateWindow n) u
  rw [made]
  refine forEach_keeps P _ (fun n v k => ?_) _ _ (cl.draw u d h)
  have read := (cl.crossing n).checkActive k
  dsimp only
  split
  · exact read
  · exact (cl.crossing n).evaluateWindow read

theorem ClosedInSync.syncPosition (found : Presence) (cycle pos : Nat) (h : P u) : P (u.syncPosition found cycle pos) := by
  have stepped {v : State} (k : P v) : P (v.stepTo cycle pos) := cl.time v _ k
  unfold State.syncPosition
  cases found with
  | lost =>
    dsimp only
    split
    · exact cl.cycleChanged _ (stepped h)
    · split
      · exact cl.swapWhen _ (stepped (cl.notify _ h))
      · exact cl.cycleChanged _ (stepped (cl.notify _ (cl.notify _ h)))
  | present =>
    dsimp only
    split
    · exact cl.cycleChanged _ (stepped (cl.notify _ h))
    · split
      · exact cl.time _ _ h
      · exact cl.swapWhen _ (stepped (cl.notify _ h))

theorem ClosedInSync.doSync {found : Presence} {cycle pos : Nat} {d : DayNight} {w : SyncWork} (other : w ≠ .turn) (h : P u) :
    P (State.doSync found cycle pos d w u) := by
  cases w with
  | fall n => exact (cl.crossing n).permitFalls h
  | turn => exact absurd rfl other
  | position => exact cl.syncPosition found cycle pos h

end

/-! ### Notices lost (R167) -/

/-- R167: a notices-lost flag that was set stays, and one that was not is set by a full queue alone. -/
def Street.LostGrows (was now : Street) : Prop :=
  (was.lost = true → now.lost = true) ∧ (now.lost = true → was.lost = true ∨ 32 ≤ now.notices.length)

theorem Street.LostGrows.queued {was now : Street} (h : was.LostGrows now) (x : Notice) : was.LostGrows (now.queued x) := by
  obtain ⟨stays, set⟩ := h
  unfold Street.queued
  split
  next room =>
    refine ⟨stays, fun lost => (set lost).imp_right fun full => ?_⟩
    rw [List.length_append]
    exact full.trans (Nat.le_add_right _ _)
  next full => exact ⟨fun _ => rfl, fun _ => .inr (Nat.not_lt.mp full)⟩

theorem lostGrows_closedInSync (was : Street) : ClosedInSync fun u => was.LostGrows u.street where
  crossing n := {
    mod := fun _ _ _ h => h
    heads := fun _ h => h
    notify := fun _ x h => h.queued x
    plays := fun u h => by rw [(u.queuePlaysTo_ownedAt n).1.street]; exact h }
  serve u a h := by rw [(u.serveNeeds_cachesOnly a).street]; exact h
  time _ _ h := h
  draw _ _ h := h

theorem State.acceptSync_lostGrows (s : State) (cycle pos : Nat) (mask : Byte) (d : DayNight) :
    s.street.LostGrows (s.acceptSync cycle pos mask d).street := by
  obtain ⟨order, -, -, made⟩ := s.acceptSync_order cycle pos mask d
  rw [made]
  refine forEach_keeps (fun u => s.street.LostGrows u.street) _ (fun w u h => ?_) order _ ⟨id, .inl⟩
  by_cases turns : w = .turn
  · subst turns
    have street : (State.doSync s.tb.presence cycle pos d .turn u).street = u.street := (u.turn_core d 0).2
    rw [street]
    exact h
  · exact (lostGrows_closedInSync s.street).doSync turns h

/-! ### Nominal targets (R86, R90) -/

/-- R86: what the nominal target of a channel is made of, and the target. -/
def Channel.targets (c : Channel) : Nat × Nat × Nat × Nat := (c.nominal, c.coarse, c.dayFine, c.nightFine)

theorem targets_closedInSync (s : State) : ClosedInSync fun u => ∀ m x, (u.channel m x).targets = (s.channel m x).targets where
  crossing n := {
    mod := fun u f same h m x => by
      refine Eq.trans (congrArg Channel.targets ?_) (h m x)
      unfold State.channel
      rw [State.modCrossing_crossing]
      split
      next here => subst here; exact (same _).channel x
      · rfl
    heads := fun u h m x => by
      refine Eq.trans ?_ (h m x)
      rw [u.headsUpToDate_channel]
      split
      next here => subst here; rw [Channel.switched_eq]; rfl
      · rfl
    notify := fun _ _ h => h
    plays := fun u h m x => by
      rw [State.channel, (u.queuePlaysTo_ownedAt n).1.crossing]
      exact h m x }
  serve u a h m x := by
    rw [State.channel, (u.serveNeeds_cachesOnly a).crossing]
    exact h m x
  time _ _ h := h
  draw _ _ h := h

/-- R90: the channels after a change of day and night. -/
theorem State.turn_channel (s : State) (d : DayNight) (m : CrossingId) (x : Aspect) (k : Nat) :
    { (s.turn d).channel m x with applied := k } =
      { s.channel m x with nominal := (s.channel m x).nominalFor d, applied := k } := by
  obtain ⟨crossings, -⟩ := s.turn_heads d
  have same : (s.turn d).channel m x = (s.modTimebase fun b => { b with dayNight := d }).retargetHeads.channel m x := by
    unfold State.channel State.crossing
    rw [crossings]
  rw [same, State.retargetHeads, State.rebudget_channel, Channel.apply_withApplied, State.mapChannels_channel]
  rfl

theorem State.turn_budgetLaw (s : State) (d : DayNight) : (s.turn d).BudgetLaw := by
  obtain ⟨crossings, limit, -⟩ := s.turn_heads d
  have law : (s.modTimebase fun b => { b with dayNight := d }).retargetHeads.BudgetLaw := State.rebudget_budgetLaw _
  refine law.congr limit fun m x => ?_
  have same : (s.turn d).channel m x = (s.modTimebase fun b => { b with dayNight := d }).retargetHeads.channel m x := by
    unfold State.channel State.crossing
    rw [crossings]
  rw [same]
  exact .refl _

/-! ### Free orders (R147) -/

theorem State.syncPosition_draws (u : State) (found : Presence) (cycle pos : Nat) (length : 0 < cycle) :
    (u.syncPosition found cycle pos).draws = u.draws
    ∨ cycle ≠ u.tb.cycle ∧ (u.syncPosition found cycle pos).draws = u.draws + 1 := by
  have swaps (v : State) (b : Bool) : (v.when b State.swapAll).draws = v.draws := by
    cases b with
    | false => rfl
    | true => exact (State.Kept.refl v).swapAll.draws
  by_cases same : cycle = u.tb.cycle
  · left
    unfold State.syncPosition
    cases found with
    | lost =>
      dsimp only
      rw [if_neg (by omega), if_pos same, swaps]
      rfl
    | present =>
      dsimp only
      rw [if_neg (not_not.mpr same)]
      split
      · rfl
      · rw [swaps]
        rfl
  · obtain ⟨k, either, kept⟩ := u.syncPosition_kept found cycle pos
    obtain rfl | rfl := either
    · exact .inl kept.draws
    · exact .inr ⟨same, kept.draws⟩

/-- R147: an accepted SYNC reads its own free order, and one more where it changes the cycle length (log 43). -/
theorem State.acceptSync_draws (s : State) {cycle : Nat} (pos : Nat) (mask : Byte) (d : DayNight) (length : 0 < cycle) :
    (s.acceptSync cycle pos mask d).draws = s.draws + 1
    ∨ cycle ≠ s.tb.cycle ∧ (s.acceptSync cycle pos mask d).draws = s.draws + 2 := by
  have still (u : State) (w : SyncWork) (other : w ≠ .position) :
      (State.doSync s.tb.presence cycle pos d w u).draws = u.draws
      ∧ (State.doSync s.tb.presence cycle pos d w u).tb.cycle = u.tb.cycle := by
    cases w with
    | fall n =>
      have kept := (State.Kept.refl u).permitFalls (n := n)
      exact ⟨kept.draws, congrArg Timebase.cycle kept.tb⟩
    | turn =>
      have turned : State.doSync s.tb.presence cycle pos d .turn u = u.turn d := rfl
      rw [turned, (u.turn_kept d).tb, (u.turn_kept d).draws]
      exact ⟨rfl, rfl⟩
    | position => exact absurd rfl other
  refine s.acceptSync_turns (A := fun u => u.draws = s.draws + 1 ∧ u.tb.cycle = s.tb.cycle)
    (B := fun u => u.draws = s.draws + 1 ∨ cycle ≠ s.tb.cycle ∧ u.draws = s.draws + 2) .position
    (s.mem_syncWorks_position _ _) ⟨rfl, rfl⟩ (fun u ⟨drawn, same⟩ => ?_)
    (fun w _ other u ⟨drawn, same⟩ => ⟨(still u w other).1.trans drawn, (still u w other).2.trans same⟩)
    fun w _ other u h => ?_
  · have draws := u.syncPosition_draws s.tb.presence cycle pos length
    rw [drawn, same] at draws
    exact draws
  · rw [(still u w other).1]
    exact h

/-- R5: what an accepted SYNC leaves alone. -/
theorem State.acceptSync_beside (s : State) (cycle pos : Nat) (mask : Byte) (d : DayNight) :
    (s.acceptSync cycle pos mask d).configured = s.configured ∧ (s.acceptSync cycle pos mask d).patterns = s.patterns
    ∧ (s.acceptSync cycle pos mask d).clips = s.clips ∧ (s.acceptSync cycle pos mask d).libraryEnabled = s.libraryEnabled
    ∧ (s.acceptSync cycle pos mask d).startUp = s.startUp ∧ (s.acceptSync cycle pos mask d).pending = s.pending := by
  obtain ⟨order, -, -, made⟩ := s.acceptSync_order cycle pos mask d
  rw [made]
  refine forEach_keeps (fun u => u.configured = s.configured ∧ u.patterns = s.patterns ∧ u.clips = s.clips
    ∧ u.libraryEnabled = s.libraryEnabled ∧ u.startUp = s.startUp ∧ u.pending = s.pending) _
    (fun w u ⟨configured, patterns, clips, enabled, startUp, pending⟩ => ?_) order _ ⟨rfl, rfl, rfl, rfl, rfl, rfl⟩
  obtain ⟨_, -, kept⟩ := State.doSync_kept s.tb.presence cycle pos d w u
  exact ⟨kept.configured.trans configured, kept.patterns.trans patterns, kept.clips.trans clips,
    kept.libraryEnabled.trans enabled, kept.startUp.trans startUp, kept.pending.trans pending⟩

theorem State.mem_syncWorks_turn {s : State} {mask : Byte} {d : DayNight} : .turn ∈ s.syncWorks mask d ↔ s.tb.dayNight ≠ d := by
  unfold State.syncWorks
  by_cases same : s.tb.dayNight = d <;> simp [same]

/-- R14, R90: the nominal targets after an accepted SYNC. -/
theorem State.acceptSync_nominal (s : State) (cycle pos : Nat) (mask : Byte) (d : DayNight) (n : CrossingId) (x : Aspect) :
    ((s.acceptSync cycle pos mask d).channel n x).nominal =
      if d = s.tb.dayNight then (s.channel n x).nominal else (s.channel n x).nominalFor d := by
  by_cases same : d = s.tb.dayNight
  · obtain ⟨order, perm, -, made⟩ := s.acceptSync_order cycle pos mask d
    rw [if_pos same, made]
    have still : SyncWork.turn ∉ order := fun inside => State.mem_syncWorks_turn.mp (perm.mem_iff.mp inside) same.symm
    have kept := forEach_keeps_of_mem (P := fun u => ∀ m y, (u.channel m y).targets = (s.channel m y).targets)
      (f := State.doSync s.tb.presence cycle pos d) order
      (fun w inside u h => (targets_closedInSync s).doSync (fun turns : w = .turn => still (turns ▸ inside)) h)
      { s with tb := { s.tb with mask := mask, fresh := 0, presence := .present }, draws := s.draws + 1 } (fun _ _ => rfl)
    have targets := kept n x
    exact congrArg Prod.fst targets
  · rw [if_neg same]
    have turned (u : State) (m : CrossingId) (y : Aspect) : ((u.turn d).channel m y).targets =
        ((u.channel m y).nominalFor d, (u.channel m y).coarse, (u.channel m y).dayFine, (u.channel m y).nightFine) := by
      have targets := congrArg Channel.targets (u.turn_channel d m y 0)
      exact targets
    have kept := s.acceptSync_turns (mask := mask) (cycle := cycle) (pos := pos) (d := d) .turn
      (A := fun u => ∀ m y, (u.channel m y).targets = (s.channel m y).targets)
      (B := fun u => ∀ m y, (u.channel m y).targets = ((s.turn d).channel m y).targets)
      (State.mem_syncWorks_turn.mpr (Ne.symm same)) (fun _ _ => rfl)
      (fun u h m y => by
        change ((u.turn d).channel m y).targets = _
        rw [turned, turned]
        have targets := h m y
        unfold Channel.targets at targets
        unfold Channel.nominalFor Channel.fullScale
        simp only [Prod.mk.injEq] at targets
        obtain ⟨-, coarse, day, night⟩ := targets
        rw [coarse, day, night])
      (fun w _ other u h => (targets_closedInSync s).doSync other h)
      (fun w _ other u h => (targets_closedInSync (s.turn d)).doSync other h)
    have nominal := (kept n x).trans (turned s n x)
    exact congrArg Prod.fst nominal

theorem forEach_pair {ι : Type} (f : ι → State → State) (a b : ι) (u : State) : forEach [a, b] f u = f b (f a u) := rfl

/-- R5: the part when the effects of an accepted SYNC begin. -/
def State.syncStarted (s : State) (mask : Byte) : State :=
  { s with tb := { s.tb with mask := mask, fresh := 0, presence := .present }, draws := s.draws + 1 }

/-- R6, R10, R13, R14: a SYNC of a small drift that withdraws no permit makes the change of day and night alone, if any. -/
theorem State.acceptSync_gradual (s : State) {pos : Nat} {mask : Byte} {d : DayNight} (present : s.tb.presence = .present)
    (small : (driftOf pos s.tb.pos s.tb.cycle).natAbs ≤ 20) (none : s.fallingPermits mask = []) :
    ∃ f, s.acceptSync s.tb.cycle pos mask d =
      State.modTimebase (if d = s.tb.dayNight then s.syncStarted mask else (s.syncStarted mask).turn d) f := by
  obtain ⟨order, perm, before, made⟩ := s.acceptSync_order s.tb.cycle pos mask d
  have made : s.acceptSync s.tb.cycle pos mask d =
      forEach order (State.doSync s.tb.presence s.tb.cycle pos d) (s.syncStarted mask) := made
  have gradual (u : State) (cycle : u.tb.cycle = s.tb.cycle) (at_pos : u.tb.pos = s.tb.pos) :
      State.doSync .present s.tb.cycle pos d .position u =
        u.modTimebase fun b => { b with correction := driftOf pos s.tb.pos s.tb.cycle } := by
    have made := u.doSync_gradual d cycle.symm (pos := pos) (by rw [cycle, at_pos]; exact small)
    rwa [cycle, at_pos] at made
  rw [made, present]
  unfold State.syncWorks at perm
  rw [none] at perm
  by_cases same : d = s.tb.dayNight
  · rw [if_pos same.symm] at perm
    obtain rfl := List.perm_singleton.mp perm
    rw [if_pos same]
    exact ⟨_, gradual (s.syncStarted mask) rfl rfl⟩
  · rw [if_neg (Ne.symm same)] at perm
    rw [if_neg same]
    obtain rfl | rfl := perm_pair_cases perm
    · have turned := ((s.syncStarted mask).turn_kept d).tb
      have turns : State.doSync .present s.tb.cycle pos d .turn (s.syncStarted mask) = (s.syncStarted mask).turn d := by
        rw [State.doSync]
      rw [forEach_pair, turns]
      generalize (s.syncStarted mask).turn d = v at *
      exact ⟨_, gradual v (by rw [turned]; rfl) (by rw [turned]; rfl)⟩
    · exact absurd (before (by decide)) (by decide)

/-- R145, R146: a bound station whose level was re-evaluated under a day/night flag. -/
theorem Station.relevelled_bound (d : DayNight) (x : Station) {b : Binding} (bound : x.binding = some b) :
    let ceiling := b.settings.ceiling d
    let target := min (max (x.ambient + b.settings.margin) b.settings.floor) ceiling
    let moves := x.level + 20 ≤ target ∨ target + 20 ≤ x.level ∨ ceiling < x.level ∨ x.level < b.settings.floor
    x.relevelled d = { x with
      level := if moves then target else x.level
      settings := if moves ∧ target ≠ x.level ∧ x.controlled = true then { x.settings with level := true } else x.settings } := by
  intro ceiling target moves
  unfold Station.relevelled
  rw [bound]
  dsimp only
  have reads : b.moves d x = decide moves := rfl
  rw [reads]
  by_cases move : moves
  · simp only [move, decide_true, if_true, true_and, Bool.true_and, Bool.and_eq_true, bne_iff_ne]
    rfl
  · simp only [move, decide_false, if_false, false_and, Bool.false_and, Bool.false_eq_true]

end

/-- Settles O10. -/
theorem syncAcceptedSetsTheTimebase : Obligations.SyncAcceptedSetsTheTimebase := by
  unfold Obligations.SyncAcceptedSetsTheTimebase
  intro s tag mask dn cycle position d takes low high inside flag
  refine ⟨_, exec_sync_accepted takes tag low high inside flag, ?_⟩
  intro drift gradual falls
  have time := s.handling.acceptSync_tb cycle.toNat position.toNat mask d
  rw [Timebase.synced_eq] at time
  obtain ⟨order, perm, before, made⟩ := s.handling.acceptSync_order cycle.toNat position.toNat mask d
  obtain ⟨-, -, -, notices, lost, street⟩ := State.forEach_doSync_beside s.handling.tb.presence cycle.toNat position.toNat d order
    { s.handling with tb := { s.handling.tb with mask := mask, fresh := 0, presence := .present }, draws := s.handling.draws + 1 }
  rw [← made] at street
  obtain ⟨configured, patterns, clips, enabled, startUp, pending⟩ :=
    s.handling.acceptSync_beside cycle.toNat position.toNat mask d
  obtain ⟨stays, set⟩ := s.handling.acceptSync_lostGrows cycle.toNat position.toNat mask d
  have draws := s.handling.acceptSync_draws position.toNat mask d (show 0 < cycle.toNat by omega)
  have nominal := s.handling.acceptSync_nominal cycle.toNat position.toNat mask d
  have falling : falls = s.handling.fallingPermits mask := (State.fallingPermits_eq s.handling mask).symm
  have receiver := congrArg Street.receiver street
  have busy := congrArg Street.busy street
  have sending := congrArg Street.sending street
  have either (n : CrossingId) (x : Aspect) : (s.channel n x).nominalFor d = 100 * (s.channel n x).coarse
      * (if d = .day then (s.channel n x).dayFine else (s.channel n x).nightFine) / 255 := by cases d <;> rfl
  simp only [State.syncWorks, ← falling] at perm
  refine ⟨time, receiver, busy, sending, rfl, ⟨_, rfl, stays, set⟩, configured, patterns, clips, enabled, startUp, pending, draws,
    ⟨order, ?_, fun differ => ?_, ?_⟩, fun n x => ?_, fun small none => ?_⟩
  · rw [if_congr (eq_comm (a := d)) rfl rfl]
    exact perm
  · refine before (perm.mem_iff.mpr ?_)
    rw [if_neg (show ¬ s.handling.tb.dayNight = d from Ne.symm differ)]
    simp
  · intro u
    have same : s.handling.acceptSync cycle.toNat position.toNat mask d = u := made
    rw [← same]
    exact ⟨rfl, rfl, rfl, rfl, rfl⟩
  · rw [← either n x]
    exact nominal n x
  · simp only [gradual, Bool.and_eq_true, beq_iff_eq, decide_eq_true_eq] at small
    obtain ⟨⟨present, same⟩, near⟩ := small
    obtain ⟨f, alone⟩ := s.handling.acceptSync_gradual (d := d) (pos := position.toNat) present near (falling.symm.trans none)
    rw [same]
    have alone : s.handling.acceptSync s.tb.cycle position.toNat mask d = _ := alone
    rw [alone]
    by_cases still : d = s.tb.dayNight
    · rw [if_pos (show d = s.handling.tb.dayNight from still)]
      exact ⟨rfl, .refl _, fun _ => ⟨rfl, rfl, rfl⟩, fun differ => absurd still differ⟩
    · rw [if_neg (show ¬ d = s.handling.tb.dayNight from still)]
      obtain ⟨-, -, silent, line⟩ := (s.handling.syncStarted mask).turn_heads d
      have budget := (s.handling.syncStarted mask).turn_budgetLaw d
      have core := (s.handling.syncStarted mask).turn_core d
      have channel := (s.handling.syncStarted mask).turn_channel d
      have station := (s.handling.syncStarted mask).turn_station d
      generalize (s.handling.syncStarted mask).turn d = v at *
      have notices := congrArg Street.notices silent
      refine ⟨notices, line, fun same => absurd same still, fun _ => ⟨budget, fun n => (core n).1,
        fun n x => ?_, fun a => ⟨fun unbound => ?_, fun b bound => ?_⟩⟩⟩
      · have set := congrArg (fun ch : Channel => { ch with nominal := (s.channel n x).nominal })
          (channel n x (s.channel n x).applied)
        exact set
      · exact (station a).trans (Station.relevelled_unbound d _ unbound)
      · exact (station a).trans (Station.relevelled_bound d _ bound)

end Sys2Proof.Machine
end

section
/-! SUPPORT. The count of free orders (spec 01, R147) is read by nothing that a press or a sample does: their work commutes with a
change of it. -/

namespace Sys2Proof.Machine

/-- The state with another count of free orders. -/
def State.drawing (s : State) (d : Nat) : State := { s with draws := d }

/-- An operation that neither reads nor sets the count of free orders. -/
def Blind (f : State → State) : Prop := ∀ (s : State) (d : Nat), f (s.drawing d) = (f s).drawing d

section
variable {s : State} {d : Nat} {n : CrossingId} {a : StationId}

/-! ### What the count of free orders leaves as it is -/

@[simp] theorem State.drawing_crossing : (s.drawing d).crossing n = s.crossing n := rfl
@[simp] theorem State.drawing_station : (s.drawing d).station a = s.station a := rfl
@[simp] theorem State.drawing_tb : (s.drawing d).tb = s.tb := rfl
@[simp] theorem State.drawing_link : (s.drawing d).link = s.link := rfl
@[simp] theorem State.drawing_planValues : (s.drawing d).planValues n = s.planValues n := rfl
@[simp] theorem State.drawing_planInForce : (s.drawing d).planInForce n = s.planInForce n := rfl
@[simp] theorem State.drawing_positionInWindow : (s.drawing d).positionInWindow n = s.positionInWindow n := rfl
@[simp] theorem State.drawing_hasDemand : (s.drawing d).hasDemand n = s.hasDemand n := rfl
@[simp] theorem State.drawing_ownedAt : (s.drawing d).ownedAt n = s.ownedAt n := rfl
@[simp] theorem State.drawing_ownedServing (x : Approach) : (s.drawing d).ownedServing n x = s.ownedServing n x := rfl
@[simp] theorem State.drawing_targetLevel : (s.drawing d).targetLevel a = s.targetLevel a := rfl
@[simp] theorem State.drawing_levelMoves : (s.drawing d).levelMoves a = s.levelMoves a := rfl
@[simp] theorem State.drawing_playFor (b : Binding) (st : IntervalState) : (s.drawing d).playFor a b st = s.playFor a b st := rfl
@[simp] theorem State.drawing_modCrossing (f : Crossing → Crossing) :
    (s.drawing d).modCrossing n f = (s.modCrossing n f).drawing d := rfl
@[simp] theorem State.drawing_modStation (f : Station → Station) :
    (s.drawing d).modStation a f = (s.modStation a f).drawing d := rfl
@[simp] theorem State.drawing_modLink (f : Link → Link) : (s.drawing d).modLink f = (s.modLink f).drawing d := rfl
@[simp] theorem State.drawing_notify (x : Notice) : (s.drawing d).notify x = (s.notify x).drawing d := rfl
@[simp] theorem State.drawing_notifyFault : (s.drawing d).notifyFault n = (s.notifyFault n).drawing d := rfl
@[simp] theorem State.drawing_headsUpToDate : (s.drawing d).headsUpToDate n = (s.headsUpToDate n).drawing d := rfl
@[simp] theorem State.drawing_noteTruncation (k : TruncationCause) :
    (s.drawing d).noteTruncation n k = (s.noteTruncation n k).drawing d := rfl
@[simp] theorem State.drawing_takeTarget : (s.drawing d).takeTarget a = (s.takeTarget a).drawing d := rfl

@[simp] theorem State.drawing_ite {p : Prop} [Decidable p] (s t : State) :
    (if p then s.drawing d else t.drawing d) = (if p then s else t).drawing d := by split <;> rfl

/-! ### Station work (R103, R104, R136) -/

@[simp] theorem State.drawing_markAgain (p : Item → Bool) : (s.drawing d).markAgain a p = (s.markAgain a p).drawing d := by
  unfold State.markAgain
  rw [State.drawing_link]
  split
  · split <;> rfl
  · rfl

@[simp] theorem State.drawing_queueUrgent (x : Urgent) : (s.drawing d).queueUrgent a x = (s.queueUrgent a x).drawing d := by
  unfold State.queueUrgent
  rw [State.drawing_station]
  dsimp only
  split <;> simp

@[simp] theorem State.drawing_addSetting (x : Setting) : (s.drawing d).addSetting a x = (s.addSetting a x).drawing d := by
  unfold State.addSetting
  rw [State.drawing_station]
  dsimp only
  split <;> simp

@[simp] theorem State.drawing_queuePlayTo : (s.drawing d).queuePlayTo a = (s.queuePlayTo a).drawing d := by
  unfold State.queuePlayTo
  rw [State.drawing_station]
  split
  · rfl
  · simp

theorem Blind.forEach {ι : Type} {f : ι → State → State} (blind : ∀ i, Blind (f i)) (l : List ι) :
    Blind (Machine.forEach l f) := by
  induction l with
  | nil => exact fun _ _ => rfl
  | cons i l ih => exact fun s d => (congrArg (Machine.forEach l f) (blind i s d)).trans (ih _ d)

@[simp] theorem State.drawing_queuePlaysTo (l : List StationId) : (s.drawing d).queuePlaysTo l = (s.queuePlaysTo l).drawing d :=
  Blind.forEach (fun _ _ _ => State.drawing_queuePlayTo) l s d

/-! ### Samples and levels (R142, R145) -/

@[simp] theorem State.drawing_reevaluateLevel : (s.drawing d).reevaluateLevel a = (s.reevaluateLevel a).drawing d := by
  unfold State.reevaluateLevel
  rw [State.drawing_levelMoves]
  split
  · simp only [State.drawing_targetLevel, State.drawing_station, State.drawing_takeTarget, State.drawing_addSetting,
      State.drawing_ite]
  · rfl

theorem State.drawing_sampleFrom (r : PollReport) : (s.drawing d).sampleFrom a r = (s.sampleFrom a r).drawing d := by
  unfold State.sampleFrom State.takeSample
  split
  · rw [State.drawing_modStation, State.drawing_reevaluateLevel]
  · rfl

/-! ### The window and the active record (R27, R56) -/

@[simp] theorem State.drawing_evaluateWindow : (s.drawing d).evaluateWindow n = (s.evaluateWindow n).drawing d := by
  unfold State.evaluateWindow State.windowEntry State.windowExit
  rw [State.drawing_positionInWindow, State.drawing_crossing, State.drawing_hasDemand]
  split
  · dsimp only
    split <;> rfl
  · dsimp only
    split <;> rfl
  · rfl

theorem blind_readActive (n : CrossingId) : Blind (readActive n) := fun s d => by
  unfold readActive
  rw [State.drawing_crossing]
  dsimp only
  split
  · split <;> simp
  · rfl

/-! ### Operations of the sequencer, for a read that is blind (R46, R63, R67, R72 to R78) -/

section
variable {read : PlanRead} (blind : ∀ n, Blind (read n))
include blind

theorem Blind.queuePlays : (s.drawing d).queuePlays read n = (s.queuePlays read n).drawing d := by
  unfold State.queuePlays
  dsimp only
  rw [blind n s d]
  simp only [State.drawing_ownedAt, State.drawing_crossing, State.drawing_queuePlaysTo, State.drawing_ite]

theorem Blind.enter (st : IntervalState) : (s.drawing d).enter read n st = (s.enter read n st).drawing d := by
  unfold State.enter
  rw [State.drawing_modCrossing, State.drawing_headsUpToDate, Blind.queuePlays blind]

theorem Blind.enterWaiting (st : IntervalState) :
    (s.drawing d).enterWaiting read n st = (s.enterWaiting read n st).drawing d := by
  unfold State.enterWaiting
  rw [State.drawing_modCrossing, State.drawing_ite, Blind.enter blind]

theorem Blind.enterClearance : (s.drawing d).enterClearance read n = (s.enterClearance read n).drawing d := by
  unfold State.enterClearance
  dsimp only
  rw [State.drawing_modCrossing, State.drawing_headsUpToDate, blind n _ d, State.drawing_planValues, State.drawing_modCrossing,
    Blind.queuePlays blind]

theorem Blind.cancel : (s.drawing d).cancel read n = (s.cancel read n).drawing d := by
  unfold State.cancel
  dsimp only
  rw [State.drawing_crossing, State.drawing_modCrossing, Blind.enterWaiting blind]

theorem Blind.addCauseWith (x : Cause) : Machine.addCauseWith read n x (s.drawing d) = (Machine.addCauseWith read n x s).drawing d := by
  unfold Machine.addCauseWith
  rw [State.drawing_crossing]
  split
  · rfl
  · dsimp only
    rw [State.drawing_modCrossing, State.drawing_crossing]
    generalize (s.modCrossing n fun c => Crossing.retargeted { c with causes := c.causes.add x }) = u
    cases (u.crossing n).state with
    | dark | fault => rfl
    | rest | hold =>
      dsimp only
      rw [State.drawing_notifyFault, Blind.enterWaiting blind]
    | starting =>
      dsimp only
      rw [State.drawing_notifyFault, Blind.cancel blind]
    | walk =>
      cases x.truncates with
      | none => rfl
      | some k =>
        dsimp only
        rw [State.drawing_noteTruncation, State.drawing_notifyFault, Blind.enterClearance blind]
    | clearance | buffer =>
      dsimp only
      rw [State.drawing_notifyFault, State.drawing_modCrossing, Blind.enterWaiting blind, State.drawing_ite]

end

@[simp] theorem State.drawing_checkActive : checkActive n (s.drawing d) = (checkActive n s).drawing d := by
  unfold checkActive
  dsimp only
  rw [blind_readActive n s d, Blind.addCauseWith blind_readActive, State.drawing_crossing, State.drawing_crossing,
    State.drawing_ite]

/-! ### Presses (R35 to R42, R64, R66) -/

@[simp] theorem State.drawing_placeChanged (x : Approach) (presser : CallSource) :
    (s.drawing d).placeChanged n x presser = (s.placeChanged n x presser).drawing d := by
  unfold State.placeChanged
  simp only [State.drawing_ownedServing, State.drawing_crossing, State.drawing_checkActive, State.drawing_queuePlaysTo,
    State.drawing_ite]

@[simp] theorem State.drawing_requestAck (newly : Bool) : (s.drawing d).requestAck n a newly = (s.requestAck n a newly).drawing d := by
  unfold State.requestAck
  simp only [State.drawing_station, State.drawing_checkActive, State.drawing_planValues, State.drawing_queueUrgent,
    State.drawing_ite]

@[simp] theorem State.drawing_registerAs (counted : Bool) (e : CallEvent) :
    (s.drawing d).registerAs counted e = (s.registerAs counted e).drawing d := by
  unfold State.registerAs
  dsimp only
  rw [State.drawing_crossing, State.drawing_tb, State.drawing_modCrossing, State.drawing_notify, State.drawing_ite,
    State.drawing_placeChanged, State.drawing_ite]
  split
  · rfl
  · rw [State.drawing_requestAck, State.drawing_ite]

/-! ### Joins, extensions and presses (R35, R41, R64, R66) -/

theorem State.drawing_tryJoin (e : CallEvent) (w : Walk) (p : Option Plan) :
    (s.drawing d).tryJoin e w p = (s.tryJoin e w p).drawing d := by
  unfold State.tryJoin State.registerFailed
  cases p with
  | none => exact State.drawing_registerAs true e
  | some p => simp only [State.drawing_tb, State.drawing_modCrossing, State.drawing_registerAs, State.drawing_ite]

theorem State.drawing_tryExtend (e : CallEvent) (w : Walk) (p : Option Plan) :
    (s.drawing d).tryExtend e w p = (s.tryExtend e w p).drawing d := by
  unfold State.tryExtend State.registerFailed
  cases p with
  | none => exact State.drawing_registerAs true e
  | some p =>
    simp only [State.drawing_tb]
    cases p.extensionRoom s.tb.tickPos with
    | none => exact State.drawing_registerAs true e
    | some room => simp only [State.drawing_modCrossing, State.drawing_notify, State.drawing_registerAs, State.drawing_ite]

theorem State.drawing_walkEvent (e : CallEvent) : (s.drawing d).walkEvent e = (s.walkEvent e).drawing d := by
  unfold State.walkEvent State.register
  simp only [State.drawing_checkActive, State.drawing_crossing, State.drawing_planInForce]
  split
  · exact State.drawing_tryJoin e _ _
  · exact State.drawing_tryExtend e _ _
  · rfl
  · exact State.drawing_registerAs _ e

theorem State.drawing_callEvent (e : CallEvent) : (s.drawing d).callEvent e = (s.callEvent e).drawing d := by
  unfold State.callEvent State.register
  simp only [State.drawing_crossing]
  cases (s.crossing e.crossing).state with
  | dark => rfl
  | rest | hold | fault | clearance | buffer => exact State.drawing_registerAs _ e
  | starting | walk =>
    cases (s.crossing e.crossing).walk with
    | none => rfl
    | some w => simp only [State.drawing_walkEvent, State.drawing_ite]

/-- R35, R36: the decoding of a press reads and sets no count of free orders. -/
theorem State.drawing_decodePress (r : PressReport) : (s.drawing d).decodePress a r = (s.decodePress a r).drawing d := by
  unfold State.decodePress
  simp only [State.drawing_station, State.drawing_modStation]
  split
  · rfl
  · split
    · rfl
    · exact State.drawing_callEvent _

end

end Sys2Proof.Machine
end

section
/-! SUPPORT. The report, the press and the sample of a poll (spec 07, R125, R127; spec 08, R142 to R145). -/

namespace Sys2Proof.Machine

section
variable {s t u : State} {a : StationId}

/-! ### The sample (R142, R143, R145) -/

theorem State.sampleFrom_station (u : State) (a : StationId) (r : PollReport) : (u.sampleFrom a r).station a =
    if r.gives then
      ({ u.station a with ambient := filtered (u.station a).ambient (sampleOf r.ambient) } : Station).relevelled u.tb.dayNight
    else u.station a := by
  unfold State.sampleFrom State.takeSample
  by_cases gives : r.gives = true
  · rw [if_pos gives, if_pos gives, State.reevaluateLevel_relevelled, if_pos rfl, State.modStation_station, if_pos rfl]
    rfl
  · rw [if_neg gives, if_neg gives]

/-- R142: a reply gives a sample where it carries a reading, with its microphone good and no sound of its own. -/
theorem State.sampleFrom_eq (u : State) (a : StationId) (reply : KerbReply) : u.sampleFrom a (pollReport reply) =
    if replyByte reply 6 ≠ 255 ∧ (pollReport reply).microphone = false ∧ (pollReport reply).sounding = false then
      u.takeSample a (replyByte reply 6)
    else u := by
  unfold State.sampleFrom PollReport.gives
  refine if_congr ?_ rfl rfl
  rw [Bool.and_eq_true, Bool.and_eq_true, bne_iff_ne, Bool.not_eq_true', Bool.not_eq_true', and_assoc]
  rfl

/-! ### The press (R35) -/

/-- R35, R138: the press of an OWNED station changes its own press state and urgent list alone, its crossing's records sound. -/
theorem State.decodePress_station (u : State) (r : PressReport) {b : Binding} (bound : (u.station a).binding = some b)
    (sound : (u.crossing b.crossing).activeSound = true) :
    (u.decodePress a r).tb = u.tb ∧ ∃ p l, (u.decodePress a r).station a = { u.station a with press := p, urgent := l } := by
  have pressed (p : PressState) : (u.modStation a fun t => { t with press := p }).station a = { u.station a with press := p } :=
    (u.modStation_station a a _).trans (if_pos rfl)
  cases decoded : r.decode b.settings.holdThreshold (u.station a).press with | mk p event
  cases event with
  | none =>
    rw [State.decodePress_quiet bound decoded]
    exact ⟨rfl, p, _, pressed p⟩
  | some rung =>
    obtain ⟨accessible, upgrade⟩ := rung
    rw [State.decodePress_rings bound decoded]
    have heard := (u.modStation a fun t => { t with press := p }).callEvent_heard
      ⟨b.crossing, b.approach, accessible, some a, upgrade⟩ sound
    generalize (u.modStation a fun t => { t with press := p }).callEvent
      ⟨b.crossing, b.approach, accessible, some a, upgrade⟩ = v at heard
    cases heard with
    | nothing | joined w | extended w x => exact ⟨rfl, p, _, pressed p⟩
    | registered counted =>
      have made := (u.modStation a fun t => { t with press := p }).registerAs_station counted
        ⟨b.crossing, b.approach, accessible, some a, upgrade⟩ rfl sound
      have own := made.own
      rw [pressed] at own
      exact ⟨made.tb, p, _, own⟩

/-! ### The end of a poll by the station's ownership (R102, R125, R127) -/

/-- What a poll does between its reply and the next transaction. -/
def State.polled (s : State) (a : StationId) (reply : KerbReply) : State :=
  (s.idled.clearFailures a).pollOk a (pollReport reply)

theorem exec_poll {reply : KerbReply} {again : Bool} (carries : s.Carries a .poll again) (ok : OkReply a .poll reply) :
    exec (.poll reply) s = .next ((s.polled a reply).proceed ⟨a, .poll, false, again⟩) :=
  exec_ending_ok (item := .poll) carries ok

/-- R127: the part once a station leads to TAKING by its reply. -/
def State.returning (s : State) (a : StationId) (reply : KerbReply) : State :=
  ((((s.idled.clearFailures a).clearFailures a).modStation a fun t => t.report (pollReport reply)).enterTaking a).notifyStation a

theorem State.cleared_station (s : State) (a b : StationId) : ((s.idled.clearFailures a).clearFailures a).station b =
    if b = a then { s.station a with failures := 0 } else s.station b := by
  by_cases here : b = a
  · subst here
    simp [State.clearFailures_station]
  · simp [State.clearFailures_station, here]

theorem State.polled_owned {reply : KerbReply} (owned : (s.station a).owner = .owned) (reports : replyByte reply 2 = 1) :
    s.polled a reply = (s.reportTaken a reply).pressAndSample a (pollReport reply) := by
  have owner : (((s.idled.clearFailures a).clearFailures a).station a).owner = .owned := by
    rw [s.cleared_station, if_pos rfl]
    exact owned
  have mode : (pollReport reply).mode = .owned := if_pos reports
  unfold State.polled State.pollOk
  simp only [owner, mode, State.takeReport_taken]

theorem State.polled_returns {reply : KerbReply}
    (leaves : (s.station a).owner = .owned ∧ replyByte reply 2 ≠ 1 ∨ (s.station a).owner = .lost) :
    s.polled a reply = s.returning a reply := by
  have owner : (((s.idled.clearFailures a).clearFailures a).station a).owner = (s.station a).owner := by
    rw [s.cleared_station, if_pos rfl]
  unfold State.polled State.pollOk
  obtain ⟨owned, other⟩ | lost := leaves
  · have mode : (pollReport reply).mode = .local := if_neg other
    simp only [owner, owned, mode]
    rfl
  · simp only [owner, lost]
    rfl

theorem State.polled_taking {reply : KerbReply} (taking : (s.station a).owner = .taking) :
    s.polled a reply = s.reportTaken a reply := by
  have owner : (((s.idled.clearFailures a).clearFailures a).station a).owner = .taking := by
    rw [s.cleared_station, if_pos rfl]
    exact taking
  unfold State.polled State.pollOk
  simp only [owner, State.takeReport_taken]

theorem State.polled_outside {reply : KerbReply} (outside : (s.station a).owner = .local ∨ (s.station a).owner = .absent) :
    s.polled a reply = (s.idled.clearFailures a).clearFailures a := by
  have owner : (((s.idled.clearFailures a).clearFailures a).station a).owner = (s.station a).owner := by
    rw [s.cleared_station, if_pos rfl]
  unfold State.polled State.pollOk
  obtain away | away := outside <;> simp only [owner, away]

/-- R127: a report of LOCAL and the return of a LOST station lead to TAKING, with a STATION notice. -/
theorem State.returning_taken (s : State) (a : StationId) (reply : KerbReply) :
    (s.returning a reply).station a = ((s.station a).reported reply).taken s.takeOverSet
    ∧ (s.returning a reply).street = s.street.queued (((s.returning a reply).station a).notice a)
    ∧ s.BesideStation a (s.returning a reply) := by
  have reported (b : StationId) : (((s.idled.clearFailures a).clearFailures a).modStation a fun t =>
      t.report (pollReport reply)).station b = if b = a then (s.station a).reported reply else s.station b := by
    rw [State.modStation_station, s.cleared_station, if_pos rfl, s.cleared_station]
    by_cases here : b = a
    · rw [if_pos here, if_pos here, Station.report_reported _ reply _ rfl]
    · rw [if_neg here, if_neg here, if_neg here]
  have stations (b : StationId) : (s.returning a reply).station b =
      if b = a then ((s.station a).reported reply).taken s.takeOverSet else s.station b := by
    unfold State.returning
    rw [State.notifyStation_station, State.enterTaking_station, reported, reported, if_pos rfl]
    by_cases here : b = a
    · rw [if_pos here, if_pos here]
      rfl
    · rw [if_neg here, if_neg here, if_neg here]
  have only : s.idled.StationsOnly (s.returning a reply) :=
    (State.StationsOnly.refl s.idled).clearFailures.clearFailures.modStation.enterTaking.notifyStation
  refine ⟨(stations a).trans (if_pos rfl), ?_, only.besideStation fun b other => (stations b).trans (if_neg other)⟩
  have told (v : State) : (v.notifyStation a).street = v.street.queued ((v.station a).notice a) := v.notify_street _
  unfold State.returning
  rw [told, State.enterTaking_street, State.notifyStation_station]
  rfl

theorem State.reportTaken_station (s : State) (a b : StationId) (reply : KerbReply) : (s.reportTaken a reply).station b =
    if b = a then (s.station a).reported reply else s.station b :=
  s.modStation_station a b fun _ => (s.station a).reported reply

/-- R125, R142 to R145: an OWNED station after its report and sample, its press aside. -/
theorem Station.sampled_eq (x : Station) (reply : KerbReply) (d : DayNight) {b : Binding} (bound : x.binding = some b)
    (owned : x.owner = .owned) (p : PressState) (l : List Urgent) :
    let v := replyByte reply 6
    let sampled : Bool := v != 255 && !(replyByte reply 5).getLsbD 4 && !(replyByte reply 5).getLsbD 1
    let ambient := if sampled then (3 * x.ambient + (300 + 5 * min v.toNat 140) + 2) / 4 else x.ambient
    let target := min (max (ambient + b.settings.margin) b.settings.floor) (b.settings.ceiling d)
    let level := x.level
    let moves : Bool := sampled && (decide (level + 20 ≤ target) || decide (target + 20 ≤ level)
      || decide (b.settings.ceiling d < level) || decide (level < b.settings.floor))
    (if (pollReport reply).gives then ({ x with
        press := p, urgent := l, ambient := filtered x.ambient (sampleOf (pollReport reply).ambient) } : Station).relevelled d
      else { x with press := p, urgent := l }) = { x with
        press := p, urgent := l, ambient := ambient, level := if moves then target else level
        settings := if moves = true ∧ target ≠ level then { x.settings with level := true } else x.settings } := by
  intro v sampled ambient target level moves
  have gives : (pollReport reply).gives = sampled := rfl
  rw [gives]
  cases given : sampled with
  | false =>
    have still : moves = false := by
      change (sampled && _) = false
      rw [given]
      rfl
    have same : ambient = x.ambient := if_neg (by rw [given]; exact nofun)
    rw [still, same]
    simp only [Bool.false_eq_true, if_false, false_and]
    rfl
  | true =>
    have taken : ambient = filtered x.ambient (sampleOf v) := if_pos given
    have moved : moves = true ↔ (level + 20 ≤ target ∨ target + 20 ≤ level ∨ b.settings.ceiling d < level
        ∨ level < b.settings.floor) := by
      change (sampled && _) = true ↔ _
      rw [given]
      simp only [Bool.true_and, Bool.or_eq_true, decide_eq_true_eq, or_assoc]
    have relevelled := Station.relevelled_bound d { x with press := p, urgent := l, ambient := ambient } bound
    have controlled : ({ x with press := p, urgent := l, ambient := ambient } : Station).controlled = true := by
      change x.controlled = true
      unfold Station.controlled
      rw [owned]
      rfl
    rw [if_pos rfl, ← show ambient = filtered x.ambient (sampleOf (pollReport reply).ambient) from taken, relevelled, controlled]
    simp only [and_true, moved]
    rfl

end

/-- Settles O23. -/
theorem pollTakesTheReport : Obligations.PollTakesTheReport := by
  unfold Obligations.PollTakesTheReport
  intro s a again reply carries ok
  refine ⟨_, exec_poll carries ok, fun b owned reports bound sound => ?_, fun owned reports => ?_, fun leaves => ?_,
    fun taking => ?_, fun outside => ?_⟩
  · have activeSound := ((Crossing.sound_iff _).mp sound).1
    have taken : (s.reportTaken a reply).station a = (s.station a).reported reply :=
      (s.reportTaken_station a a reply).trans (if_pos rfl)
    have bound' : ((s.reportTaken a reply).station a).binding = some b := by rw [taken]; exact bound
    obtain ⟨tb, p, l, pressed⟩ := State.decodePress_station (s.reportTaken a reply) (pollReport reply).press bound' activeSound
    have settled : s.polled a reply =
        ((s.reportTaken a reply).decodePress a (pollReport reply).press).sampleFrom a (pollReport reply) := by
      rw [State.polled_owned owned reports]
      refine State.pressAndSample_sound _ a _ fun b' is => ?_
      obtain rfl : b = b' := Option.some.inj (bound'.symm.trans is)
      exact sound
    have sampled := Station.sampled_eq ((s.station a).reported reply) reply s.tb.dayNight bound owned p l
    rw [State.proceed_station, settled, State.sampleFrom_station, pressed, tb, taken]
    have rested := congrArg (fun x : Station => { x with press := (s.station a).press, urgent := (s.station a).urgent }) sampled
    exact rested
  · intro report idle taken sample press follows
    have followed {u v : State} (same : v.crossings = u.crossings ∧ v.stations = u.stations ∧ v.budgetLimit = u.budgetLimit
        ∧ v.street = u.street) (made : s.polled a reply = v) : (((s.polled a reply).proceed ⟨a, .poll, false, again⟩).crossings =
        u.crossings ∧ ((s.polled a reply).proceed ⟨a, .poll, false, again⟩).stations = u.stations
        ∧ ((s.polled a reply).proceed ⟨a, .poll, false, again⟩).budgetLimit = u.budgetLimit
        ∧ ((s.polled a reply).proceed ⟨a, .poll, false, again⟩).street = u.street) := by
      rw [made, v.proceed_eq]
      exact same
    have sampleEq (u : State) : sample u = u.sampleFrom a (pollReport reply) := (u.sampleFrom_eq a reply).symm
    have settled := State.polled_owned owned reports
    have drawn (d : Nat) : ({ s.reportTaken a reply with draws := d } : State) = taken.drawing d := rfl
    unfold State.pressAndSample at settled
    dsimp only at settled
    rw [drawn, State.drawing_sampleFrom, State.drawing_decodePress, State.drawing_decodePress, State.drawing_sampleFrom] at settled
    split at settled
    · split at settled
      · refine .inr (followed ?_ settled)
        rw [sampleEq]
        exact ⟨rfl, rfl, rfl, rfl⟩
      · refine .inl (followed ?_ settled)
        rw [sampleEq]
        exact ⟨rfl, rfl, rfl, rfl⟩
    · refine .inl (followed ?_ settled)
      rw [sampleEq]
      exact ⟨rfl, rfl, rfl, rfl⟩
  · rw [State.polled_returns leaves, State.proceed_station, State.proceed_street]
    obtain ⟨own, street, beside⟩ := s.returning_taken a reply
    exact ⟨own, street, beside.proceed⟩
  · rw [State.polled_taking taking, State.proceed_station, State.proceed_street]
    exact ⟨(s.reportTaken_station a a reply).trans (if_pos rfl), rfl, State.BesideStation.proceed
      ⟨⟨rfl, rfl, rfl, rfl, rfl, rfl, rfl, rfl, rfl⟩, fun b other => (s.reportTaken_station a b reply).trans (if_neg other), rfl⟩⟩
  · rw [State.polled_outside outside, State.proceed_station, State.proceed_street]
    exact ⟨(s.cleared_station a a).trans (if_pos rfl), rfl, State.BesideStation.proceed
      ⟨⟨rfl, rfl, rfl, rfl, rfl, rfl, rfl, rfl, rfl⟩, fun b other => (s.cleared_station a b).trans (if_neg other), rfl⟩⟩

end Sys2Proof.Machine
end

section
/-! SUPPORT. The laws of the Sequencer at one crossing (spec 04, R51, R52, R70; spec 05, R83, R85), and the operations of the
Sequencer that keep them. -/

namespace Sys2Proof.Machine

/-! ### The laws of one crossing -/

/-- R51, R52, R70, R85: what `WalkLaw` and `CountdownLaw` say of a crossing beside its channels; a walk may start or go on where
`allowed` holds, and the part is RUNNING where `running` holds. -/
structure Crossing.Sequenced (allowed running : Prop) (c : Crossing) : Prop where
  record : c.walk.isSome = c.state.walks
  target : ∀ w, c.walk = some w → w.target = c.settled
  waits : c.state.walks = false → c.state = c.settled ∨ (c.state = .fault ∧ c.mode = .off ∧ c.causes.dontLamp = true)
  permitted : c.state = .starting ∨ c.state = .walk → c.causes = {} ∧ (c.mode = .normal ∨ c.mode = .recall) ∧ allowed
  counted : ∀ w, c.state = .clearance → c.walk = some w → c.countdown = countdownShown c.countdownOn w.count
  blank : c.state ≠ .clearance → c.countdown = none
  idle : ¬ running → c.state = .dark ∧ c.mode = .off

/-- R83: a channel in use is called for. -/
def Crossing.Called (c : Crossing) : Prop := ∀ x, (c.channel x).inUse = true → c.state.calls x = true

/-- R51, R52, R70, R83, R85: what `WalkLaw` and `CountdownLaw` say of a crossing. -/
structure Crossing.Lawful (allowed running : Prop) (c : Crossing) : Prop extends Crossing.Sequenced allowed running c where
  called : c.Called

/-- R65, R67: a crossing on its entry into CLEARANCE, its countdown not yet set. -/
structure Crossing.Clearing (running : Prop) (c : Crossing) : Prop where
  state : c.state = .clearance
  walk : c.walk.isSome = true
  target : ∀ w, c.walk = some w → w.target = c.settled
  called : c.Called
  running : running

/-- What the laws read of a crossing. -/
def Crossing.legal (c : Crossing) : IntervalState × Mode × CauseSet × Option Nat × Bool × Option (IntervalState × Nat) × Bool × Bool :=
  (c.state, c.mode, c.causes, c.countdown, c.countdownOn, c.walk.map fun w => (w.target, w.count), c.walkLamp.inUse, c.dontLamp.inUse)

section
variable {A B R : Prop} {c d : Crossing} {s t u v : State} {n m : CrossingId}

theorem IntervalState.walks_iff {st : IntervalState} :
    st.walks = true ↔ st = .starting ∨ st = .walk ∨ st = .clearance ∨ st = .buffer := by cases st <;> decide

theorem Crossing.settled_waits (c : Crossing) : c.settled.walks = false := by
  unfold Crossing.settled
  split
  · rfl
  · split
    · rfl
    · split <;> rfl

/-- R51, R70, R85: the laws of a part are those of its crossings. -/
theorem State.walkLaw_iff (s : State) : s.WalkLaw ∧ s.CountdownLaw ↔ ∀ n, (s.crossing n).Lawful
    (s.tb.presence = .present ∧ s.tb.mask.getLsbD n.val = true) (s.startUp.operating = .running) := by
  refine ⟨fun ⟨walk, countdown⟩ n => ?_, fun lawful => ⟨fun n => ?_, fun n => ?_⟩⟩
  · obtain ⟨record, target, waits, permitted, called, idle⟩ := walk n
    have shown := countdown n
    refine ⟨⟨record, target, waits, permitted, fun w clears held => ?_, fun other => ?_, idle⟩, called⟩
    · rw [shown, clears, held]
      rfl
    · rw [shown]
      split
      next clears _ => exact absurd clears other
      · rfl
  · obtain ⟨⟨record, target, waits, permitted, -, -, idle⟩, called⟩ := lawful n
    exact ⟨record, target, waits, permitted, called, idle⟩
  · obtain ⟨⟨record, -, -, -, counted, blank, -⟩, -⟩ := lawful n
    by_cases clears : (s.crossing n).state = .clearance
    · rw [clears] at record ⊢
      obtain ⟨w, held⟩ := Option.isSome_iff_exists.mp record
      rw [counted w clears held, held]
      rfl
    · rw [blank clears]
      split
      next is _ => exact absurd is clears
      · rfl

/-! ### What the laws read -/

theorem Crossing.Sequenced.of_core (h : c.Sequenced A R) (core : d.core = c.core) : d.Sequenced A R := by
  obtain ⟨record, target, waits, permitted, counted, blank, idle⟩ := h
  have cored : d.core.Sequenced A R := by
    rw [core]
    exact ⟨record, target, waits, permitted, counted, blank, idle⟩
  obtain ⟨record, target, waits, permitted, counted, blank, idle⟩ := cored
  exact ⟨record, target, waits, permitted, counted, blank, idle⟩

theorem Crossing.Called.of_same (h : c.Called) (state : d.state = c.state)
    (lamps : ∀ x, (d.channel x).inUse = (c.channel x).inUse) : d.Called := fun x used => by
  rw [state]
  exact h x ((lamps x).symm.trans used)

theorem Crossing.Lawful.of_legal (h : c.Lawful A R) (same : d.legal = c.legal) : d.Lawful A R := by
  obtain ⟨⟨record, target, waits, permitted, counted, blank, idle⟩, called⟩ := h
  simp only [Crossing.legal, Prod.mk.injEq] at same
  obtain ⟨state, mode, causes, countdown, on, walk, walkLamp, dontLamp⟩ := same
  have settled : d.settled = c.settled := by
    unfold Crossing.settled
    rw [mode, causes]
  have held (w : Walk) (is : d.walk = some w) : ∃ v, c.walk = some v ∧ v.target = w.target ∧ v.count = w.count := by
    rw [is, Option.map_some] at walk
    obtain ⟨v, has, key⟩ := Option.map_eq_some_iff.mp walk.symm
    simp only [Prod.mk.injEq] at key
    exact ⟨v, has, key⟩
  refine ⟨⟨?_, fun w is => ?_, fun st => ?_, fun st => ?_, fun w st is => ?_, fun st => ?_, fun out => ?_⟩, ?_⟩
  · have some := congrArg Option.isSome walk
    rw [Option.isSome_map, Option.isSome_map] at some
    rw [some, state, record]
  · obtain ⟨v, has, key, -⟩ := held w is
    rw [settled, ← key]
    exact target v has
  · rw [state] at st ⊢
    rw [settled, mode, causes]
    exact waits st
  · rw [state] at st
    rw [causes, mode]
    exact permitted st
  · rw [state] at st
    obtain ⟨v, has, -, key⟩ := held w is
    rw [countdown, on, ← key]
    exact counted v st has
  · rw [state] at st
    rw [countdown]
    exact blank st
  · rw [state, mode]
    exact idle out
  · refine called.of_same state fun x => ?_
    cases x
    · exact walkLamp
    · exact dontLamp

theorem Crossing.SameButApplied.legal (h : c.SameButApplied d) : d.legal = c.legal := by
  have same := congrArg Crossing.legal h
  exact same

theorem Crossing.Lawful.allow (h : c.Lawful A R) (still : c.state = .starting ∨ c.state = .walk → B) : c.Lawful B R := by
  obtain ⟨⟨record, target, waits, permitted, counted, blank, idle⟩, called⟩ := h
  exact ⟨⟨record, target, waits, fun st => ⟨(permitted st).1, (permitted st).2.1, still st⟩, counted, blank, idle⟩, called⟩

/-- A crossing that is not DARK is one of a RUNNING part. -/
theorem Crossing.Sequenced.runs (h : c.Sequenced A R) (lit : c.state ≠ .dark) : R := by
  by_contra out
  exact lit (h.idle out).1

theorem Crossing.Lawful.clearing (h : c.Lawful A R) (clears : c.state = .clearance) : c.Clearing R where
  state := clears
  walk := by rw [h.record, clears]; rfl
  target := h.target
  called := h.called
  running := h.runs (by rw [clears]; exact nofun)

theorem Crossing.Clearing.lawful (h : c.Clearing R) (counted : ∀ w, c.walk = some w → c.countdown = countdownShown c.countdownOn w.count) :
    c.Lawful A R := by
  obtain ⟨state, walk, target, called, running⟩ := h
  refine ⟨⟨by rw [walk, state]; rfl, target, fun st => ?_, fun st => ?_, fun w _ => counted w, fun other => absurd state other,
    fun out => absurd running out⟩, called⟩
  · rw [state] at st
    exact absurd st nofun
  · rw [state] at st
    exact st.elim nofun nofun

theorem Crossing.Clearing.of_legal (h : c.Clearing R) (same : d.legal = c.legal) : d.Clearing R := by
  obtain ⟨state, walk, target, called, running⟩ := h
  simp only [Crossing.legal, Prod.mk.injEq] at same
  obtain ⟨st, mode, causes, -, -, record, walkLamp, dontLamp⟩ := same
  have settled : d.settled = c.settled := by
    unfold Crossing.settled
    rw [mode, causes]
  refine ⟨st.trans state, ?_, fun w is => ?_, called.of_same st fun x => ?_, running⟩
  · have some := congrArg Option.isSome record
    rw [Option.isSome_map, Option.isSome_map] at some
    exact some.trans walk
  · rw [is, Option.map_some] at record
    obtain ⟨v, has, key⟩ := Option.map_eq_some_iff.mp record.symm
    simp only [Prod.mk.injEq] at key
    rw [settled, ← key.1]
    exact target v has
  · cases x
    · exact walkLamp
    · exact dontLamp

/-! ### Heads, windows and reads (R27, R28, R56, R83) -/

theorem State.headsUpToDate_called (u : State) (n : CrossingId) : ((u.headsUpToDate n).crossing n).Called := fun x used => by
  have follows := u.headsUpToDate_lampsFollow (n := n) x
  rw [used] at follows
  exact (Bool.and_eq_true_iff.mp follows.symm).2

theorem Crossing.Sequenced.heads (h : (u.crossing n).Sequenced A R) : ((u.headsUpToDate n).crossing n).Lawful A R :=
  ⟨h.of_core (u.headsUpToDate_core n n), u.headsUpToDate_called n⟩

theorem State.evaluateWindow_legal (u : State) (n : CrossingId) : ((u.evaluateWindow n).crossing n).legal = (u.crossing n).legal := by
  rw [State.evaluateWindow_eq, State.setCrossing_eq]
  have at_n := u.modCrossing_self n fun _ => (u.crossing n).windowed (u.positionInWindow n)
  have same := congrArg Crossing.legal at_n
  exact same

theorem readActive_legal (n : CrossingId) (u : State) : ((readActive n u).crossing n).legal = (u.crossing n).legal := by
  have set (f : Crossing → Crossing) (same : ∀ c : Crossing, (f c).legal = c.legal) :
      ((u.modCrossing n f).crossing n).legal = (u.crossing n).legal := by
    rw [State.modCrossing_self]
    exact same _
  unfold readActive
  dsimp only
  split
  · split
    · rfl
    · exact set _ fun _ => rfl
    · exact (State.evaluateWindow_legal _ n).trans (set _ fun _ => rfl)
  · rfl

/-- A read of a plan record keeps the laws of its crossing, and a crossing on its entry into CLEARANCE there. -/
structure PlanRead.Lawful (rd : PlanRead) (n : CrossingId) (A R : Prop) : Prop where
  lawful : ∀ u : State, (u.crossing n).Lawful A R → ((rd n u).crossing n).Lawful A R
  clearing : ∀ u : State, (u.crossing n).Clearing R → ((rd n u).crossing n).Clearing R

theorem readActive_lawful (n : CrossingId) (A R : Prop) : PlanRead.Lawful readActive n A R where
  lawful u h := h.of_legal (readActive_legal n u)
  clearing u h := h.of_legal (readActive_legal n u)

/-! ### Entries (R77, R78, R65, R67) -/

section
variable {rd : PlanRead} (r : PlanRead.Lawful rd n A R)
include r

theorem PlanRead.Lawful.queuePlays (h : (u.crossing n).Lawful A R) : ((u.queuePlays rd n).crossing n).Lawful A R := by
  unfold State.queuePlays
  dsimp only
  split
  · exact h
  · split
    · rw [((rd n u).queuePlaysTo_ownedAt n).1.crossing]
      exact r.lawful u h
    · exact r.lawful u h

theorem PlanRead.Lawful.enter {st : IntervalState}
    (h : ({ u.crossing n with state := st, countdown := none, countdownOn := false } : Crossing).Sequenced A R) :
    ((u.enter rd n st).crossing n).Lawful A R := by
  unfold State.enter
  refine r.queuePlays (Crossing.Sequenced.heads ?_)
  rw [State.modCrossing_self]
  exact h

/-- R52, R77: a waiting state is entered that is the settled state, or FAULT with DONT_LAMP among its causes. -/
theorem PlanRead.Lawful.enterWaiting {st : IntervalState} (none : (u.crossing n).walk = none) (waits : st.walks = false)
    (settles : st = (u.crossing n).settled
      ∨ (st = .fault ∧ (u.crossing n).mode = .off ∧ (u.crossing n).causes.dontLamp = true))
    (idle : ¬ R → st = .dark ∧ (u.crossing n).mode = .off) : ((u.enterWaiting rd n st).crossing n).Lawful A R := by
  have sequenced (c : Crossing) (walk : c.walk = .none) (same : c.settled = (u.crossing n).settled)
      (mode : c.mode = (u.crossing n).mode) (causes : c.causes = (u.crossing n).causes) :
      ({ c with state := st, countdown := .none, countdownOn := false } : Crossing).Sequenced A R := by
    refine ⟨?_, fun w has => ?_, fun _ => ?_, fun walks => ?_, fun w clears _ => ?_, fun _ => rfl, fun out => ?_⟩
    · change c.walk.isSome = st.walks
      rw [walk, waits]
      rfl
    · exact absurd (walk.symm.trans has) nofun
    · change st = c.settled ∨ _
      rw [same]
      exact settles.imp_right fun ⟨fault, off, dont⟩ => ⟨fault, mode.trans off, by
        change c.causes.dontLamp = true
        rw [causes]
        exact dont⟩
    · obtain rfl | rfl : st = .starting ∨ st = .walk := walks
      · exact absurd waits nofun
      · exact absurd waits nofun
    · obtain rfl : st = .clearance := clears
      exact absurd waits nofun
    · exact ⟨(idle out).1, mode.trans (idle out).2⟩
  unfold State.enterWaiting
  by_cases dark : st = .dark
  · rw [if_pos dark]
    refine r.enter ?_
    rw [State.modCrossing_self]
    exact sequenced _ none rfl rfl rfl
  · rw [if_neg dark]
    exact r.enter (sequenced _ none rfl rfl rfl)

/-- R65, R67: CLEARANCE is entered with a walk in hand. -/
theorem PlanRead.Lawful.enterClearance (held : (u.crossing n).walk.isSome = true)
    (target : ∀ w, (u.crossing n).walk = some w → w.target = (u.crossing n).settled) (running : R) :
    ((u.enterClearance rd n).crossing n).Lawful A R := by
  let f : Crossing → Crossing := fun c => { c with
    state := .clearance, walk := c.walk.map fun w => { w with count := w.clearance } }
  have began : (((u.modCrossing n f).headsUpToDate n).crossing n).Clearing R := by
    have core := (u.modCrossing n f).headsUpToDate_core (n := n) n
    rw [State.modCrossing_self] at core
    have state := congrArg Crossing.state core
    have walk := congrArg Crossing.walk core
    have settled := congrArg Crossing.settled core
    have walk : (((u.modCrossing n f).headsUpToDate n).crossing n).walk =
      (u.crossing n).walk.map fun w => { w with count := w.clearance } := walk
    refine ⟨state, ?_, fun w is => ?_, State.headsUpToDate_called _ n, running⟩
    · rw [walk, Option.isSome_map]
      exact held
    · rw [walk] at is
      obtain ⟨v, has, rfl⟩ := Option.map_eq_some_iff.mp is
      exact (target v has).trans settled.symm
  have read := r.clearing _ began
  unfold State.enterClearance
  change ((State.queuePlays rd (State.modCrossing (rd n ((u.modCrossing n f).headsUpToDate n)) n _) n).crossing n).Lawful A R
  generalize rd n ((u.modCrossing n f).headsUpToDate n) = v at read
  refine r.queuePlays ?_
  rw [State.modCrossing_self]
  obtain ⟨state, walk, target, called, running⟩ := read
  refine Crossing.Clearing.lawful ⟨state, walk, target, called, running⟩ fun w has => ?_
  have has : (v.crossing n).walk = some w := has
  change countdownFor _ (((v.crossing n).walk.map Walk.count).getD 0) = _
  rw [has, countdownFor_shown]
  rfl

/-- R46, R63: a commit is cancelled. -/
theorem PlanRead.Lawful.cancel (target : ∀ w, (u.crossing n).walk = some w → w.target = (u.crossing n).settled) (running : R) :
    ((u.cancel rd n).crossing n).Lawful A R := by
  have settles : u.cancel rd n = State.enterWaiting rd (u.modCrossing n Crossing.uncommitted) n (u.crossing n).settled := by
    unfold State.cancel
    cases has : (u.crossing n).walk with
    | none => rfl
    | some w =>
      dsimp only
      rw [target w has]
      rfl
  have same : (u.crossing n).uncommitted.settled = (u.crossing n).settled := by
    unfold Crossing.uncommitted Crossing.restored
    split <;> rfl
  rw [settles]
  refine r.enterWaiting ?_ (Crossing.settled_waits _) (.inl ?_) fun out => absurd running out
  · rw [State.modCrossing_self]
    rfl
  · rw [State.modCrossing_self, same]

end

/-! ### The settled state follows (R52) -/

theorem Crossing.settled_dark_iff : c.settled = .dark ↔ c.mode = .off := by
  unfold Crossing.settled
  by_cases off : c.mode = .off
  · rw [if_pos off]
    exact ⟨fun _ => off, fun _ => rfl⟩
  · rw [if_neg off]
    refine ⟨fun dark => ?_, fun is => absurd is off⟩
    split at dark
    · exact absurd dark nofun
    · split at dark <;> exact absurd dark nofun

theorem Crossing.settled_on (settled : c.settled ≠ .dark) : c.mode ≠ .off := fun off => settled (Crossing.settled_dark_iff.mpr off)

theorem Crossing.retargeted_target (c : Crossing) (w : Walk) (has : c.retargeted.walk = some w) : w.target = c.retargeted.settled := by
  obtain ⟨v, -, rfl⟩ := Option.map_eq_some_iff.mp has
  rfl

/-- R52: a crossing whose mode and causes changed, with its walk's target following. -/
theorem Crossing.Lawful.resettled (h : c.Lawful A R) (mode : Mode) (causes : CauseSet)
    (waits : c.state.walks = false → c.state = ({ c with mode := mode, causes := causes } : Crossing).settled
      ∨ (c.state = .fault ∧ mode = .off ∧ causes.dontLamp = true))
    (permitted : c.state = .starting ∨ c.state = .walk → causes = {} ∧ (mode = .normal ∨ mode = .recall))
    (idle : ¬ R → c.state = .dark ∧ mode = .off) :
    ({ c with mode := mode, causes := causes } : Crossing).retargeted.Lawful A R := by
  have settled : ({ c with mode := mode, causes := causes } : Crossing).retargeted.settled =
    ({ c with mode := mode, causes := causes } : Crossing).settled := rfl
  refine ⟨⟨?_, Crossing.retargeted_target _, fun st => ?_, fun st => ?_, fun w st has => ?_, h.blank, idle⟩, fun x => ?_⟩
  · exact Option.isSome_map.trans h.record
  · rw [settled]
    exact waits st
  · obtain ⟨clean, walks⟩ := permitted st
    exact ⟨clean, walks, (h.permitted st).2.2⟩
  · obtain ⟨v, is, rfl⟩ := Option.map_eq_some_iff.mp has
    exact h.counted v st is
  · cases x
    · exact h.called .walk
    · exact h.called .dont

/-! ### Causes (R72 to R74) -/

theorem CauseSet.add_dontLamp {k : CauseSet} (h : k.dontLamp = true) (x : Cause) : (k.add x).dontLamp = true := by
  cases x
  · exact h
  · exact h
  · rfl
  · exact h

/-- R72: the settled state with a cause present, the mode not OFF. -/
theorem Crossing.caused_settled (on : c.mode ≠ .off) (x : Cause) : (c.caused x).settled = .fault :=
  Crossing.settled_fault on (CauseSet.isEmpty_add _ _)

theorem Crossing.Lawful.caused (h : c.Lawful A R) (x : Cause)
    (st : c.state = .dark ∨ c.state = .fault ∨ c.state = .clearance ∨ c.state = .buffer) : (c.caused x).Lawful A R := by
  refine h.resettled c.mode (c.causes.add x) (fun waits => ?_) (fun walks => ?_) h.idle
  · obtain settled | ⟨fault, off, dont⟩ := h.waits waits
    · obtain dark | fault | clears | buffers := st
      · have off : c.mode = .off := Crossing.settled_dark_iff.mp (settled.symm.trans dark)
        exact .inl (dark.trans (Crossing.settled_dark_iff (c := { c with causes := c.causes.add x }).mpr off).symm)
      · have on : c.mode ≠ .off := Crossing.settled_on (by rw [← settled, fault]; exact nofun)
        exact .inl (fault.trans (Crossing.settled_fault (c := { c with causes := c.causes.add x }) on (CauseSet.isEmpty_add _ _)).symm)
      · rw [clears] at waits
        exact absurd waits nofun
      · rw [buffers] at waits
        exact absurd waits nofun
    · exact .inr ⟨fault, off, CauseSet.add_dontLamp dont x⟩
  · obtain walks | walks := walks <;> rw [walks] at st <;> exact absurd st (by decide)

theorem Crossing.Sequenced.unwalked (h : c.Sequenced A R) (st : c.state.walks = false) : c.walk = none :=
  Option.isSome_eq_false_iff.mp (h.record.trans st) |> Option.isNone_iff_eq_none.mp

section
variable {rd : PlanRead} (r : PlanRead.Lawful rd n A R)
include r

/-- R72: a new cause ends what a permit allowed. -/
theorem PlanRead.Lawful.addNewCause {x : Cause} (h : (u.crossing n).Lawful B R) (fresh : (u.crossing n).causes.has x = false)
    (permits : (u.crossing n).state = .walk → x ≠ .dontLamp) : ((Machine.addCauseWith rd n x u).crossing n).Lawful A R := by
  rw [addCauseWith_fresh n x u fresh]
  have at_n := u.modCrossing_self n (Crossing.caused · x)
  generalize u.modCrossing n (Crossing.caused · x) = v at at_n
  have at_n : ∀ w : State, w.crossings = v.crossings → w.crossing n = (u.crossing n).caused x := fun w same => by
    rw [State.crossing, same]
    exact at_n
  have state : (v.crossing n).state = (u.crossing n).state := by rw [at_n v rfl]; rfl
  have target (w : Walk) (has : ((u.crossing n).caused x).walk = some w) : w.target = ((u.crossing n).caused x).settled :=
    Crossing.retargeted_target _ w has
  have told : (v.notifyFault n).crossing n = (u.crossing n).caused x := at_n _ rfl
  have held : ((u.crossing n).caused x).walk.isSome = (u.crossing n).walk.isSome := Option.isSome_map
  dsimp only
  rw [state]
  cases st : (u.crossing n).state with
  | dark =>
    rw [show (v.notifyFault n).crossing n = _ from told]
    exact (h.caused x (.inl st)).allow fun walks => absurd (st ▸ walks) (by decide)
  | fault =>
    rw [show (v.notifyFault n).crossing n = _ from told]
    exact (h.caused x (.inr (.inl st))).allow fun walks => absurd (st ▸ walks) (by decide)
  | rest | hold =>
    have waits : (u.crossing n).state.walks = false := by rw [st]; rfl
    have settled : (u.crossing n).settled ≠ .dark := by
      obtain same | ⟨fault, -⟩ := h.waits waits
      · rw [← same, st]
        exact nofun
      · rw [st] at fault
        exact absurd fault nofun
    refine r.enterWaiting ?_ rfl (.inl ?_) fun out => ?_
    · rw [told]
      exact congrArg (Option.map _) (h.unwalked waits)
    · rw [told]
      exact (Crossing.caused_settled (Crossing.settled_on settled) x).symm
    · have dark := (h.idle out).1
      rw [st] at dark
      exact absurd dark nofun
  | starting =>
    refine r.cancel (fun w has => ?_) (h.runs (by rw [st]; exact nofun))
    rw [told] at has ⊢
    exact target w has
  | walk =>
    have truncates : ∃ k, x.truncates = some k := by
      cases x with
      | dontLamp => exact absurd rfl (permits st)
      | _ => exact ⟨_, rfl⟩
    obtain ⟨k, cuts⟩ := truncates
    rw [cuts]
    dsimp only
    have noted : ((v.noteTruncation n k).notifyFault n).crossing n = ((u.crossing n).caused x).modWalk fun w =>
        { w with truncation := some k, release := (v.tb.pos + w.clearance + w.buffer) % v.tb.cycle } := by
      have at_v := v.modCrossing_self n fun c => c.modWalk fun w =>
        { w with truncation := some k, release := (v.tb.pos + w.clearance + w.buffer) % v.tb.cycle }
      rw [at_n v rfl] at at_v
      exact at_v
    refine r.enterClearance ?_ (fun w has => ?_) (h.runs (by rw [st]; exact nofun))
    · rw [noted]
      refine Option.isSome_map.trans ?_
      rw [held, h.record, st]
      rfl
    · rw [noted] at has ⊢
      obtain ⟨w', is, rfl⟩ := Option.map_eq_some_iff.mp has
      exact target w' is
  | clearance | buffer =>
    have lit : (u.crossing n).state ≠ .dark := by rw [st]; exact nofun
    have running := h.runs lit
    dsimp only
    by_cases dont : x = .dontLamp
    · rw [if_pos dont]
      have cut := (v.notifyFault n).modCrossing_self n fun c => { c with walk := none }
      rw [told] at cut
      refine r.enterWaiting ?_ rfl ?_ fun out => absurd running out
      · rw [cut]
      · rw [cut]
        by_cases off : (u.crossing n).mode = .off
        · refine .inr ⟨rfl, off, ?_⟩
          rw [dont]
          rfl
        · exact .inl (Crossing.caused_settled off x).symm
    · rw [if_neg dont, told]
      refine Crossing.Lawful.allow (h.caused x ?_) fun walks => absurd (st ▸ walks) (by decide)
      rw [st]
      decide

theorem PlanRead.Lawful.addCauseWith {x : Cause} (h : (u.crossing n).Lawful A R)
    (permits : (u.crossing n).state = .walk → x ≠ .dontLamp) : ((Machine.addCauseWith rd n x u).crossing n).Lawful A R := by
  by_cases present : (u.crossing n).causes.has x = true
  · rw [addCauseWith_present rd n x u present]
    exact h
  · exact r.addNewCause h (eq_false_of_ne_true present) permits

end

/-! ### The checked reads (R27 to R29) -/

/-- R72: a cause that truncates reaches a crossing on its entry into CLEARANCE. -/
theorem Crossing.Clearing.caused (h : c.Clearing R) (x : Cause) : (c.caused x).Clearing R where
  state := h.state
  walk := Option.isSome_map.trans h.walk
  target := Crossing.retargeted_target _
  called y := by
    cases y
    · exact h.called .walk
    · exact h.called .dont
  running := h.running

theorem addCauseWith_clearing (rd : PlanRead) (n : CrossingId) {x : Cause} (u : State) (other : x ≠ .dontLamp)
    (h : (u.crossing n).Clearing R) : ((addCauseWith rd n x u).crossing n).Clearing R := by
  by_cases present : (u.crossing n).causes.has x = true
  · rw [addCauseWith_present rd n x u present]
    exact h
  · rw [addCauseWith_fresh n x u (eq_false_of_ne_true present)]
    have at_n := u.modCrossing_self n (Crossing.caused · x)
    have state : ((u.modCrossing n (Crossing.caused · x)).crossing n).state = .clearance := by
      rw [at_n]
      exact h.state
    dsimp only
    rw [state]
    dsimp only
    rw [if_neg other]
    change ((u.modCrossing n (Crossing.caused · x)).crossing n).Clearing R
    rw [at_n]
    exact h.caused x

theorem checkActive_lawful (n : CrossingId) (A R : Prop) : PlanRead.Lawful checkActive n A R where
  lawful u h := by
    have read := (readActive_lawful n A R).lawful u h
    unfold checkActive
    dsimp only
    split
    · exact (readActive_lawful n A R).addCauseWith read fun _ => nofun
    · exact read
  clearing u h := by
    have read := (readActive_lawful n A R).clearing u h
    unfold checkActive
    dsimp only
    split
    · exact addCauseWith_clearing readActive n _ nofun read
    · exact read

theorem checkPlanned_lawful (h : (u.crossing n).Lawful A R) : ((checkPlanned n u).crossing n).Lawful A R := by
  have set (f : Crossing → Crossing) (same : ∀ c : Crossing, (f c).legal = c.legal) : ((u.modCrossing n f).crossing n).Lawful A R := by
    rw [State.modCrossing_self]
    exact h.of_legal (same _)
  unfold checkPlanned
  split
  · exact h
  · split
    · exact h
    · exact set _ fun _ => rfl
    · exact (readActive_lawful n A R).addCauseWith (set _ fun _ => rfl) fun _ => nofun

end

end Sys2Proof.Machine
end

section
/-! SUPPORT. The ends of intervals, a crossing's tick, permits, the loss of the host and modes keep the laws of the Sequencer at their
crossing (spec 04, R54 to R71). -/

namespace Sys2Proof.Machine

section
variable {A B R : Prop} {c d : Crossing} {s t u v : State} {n m : CrossingId}

/-! ### Settled states and walks -/

theorem Crossing.settled_rest (settled : c.settled = .rest) : c.causes = {} ∧ c.mode ≠ .off ∧ c.mode ≠ .hold := by
  have on := Crossing.settled_on (c := c) (by rw [settled]; exact nofun)
  unfold Crossing.settled at settled
  rw [if_neg on] at settled
  cases empty : c.causes.isEmpty with
  | false =>
    rw [empty] at settled
    exact absurd settled nofun
  | true =>
    rw [empty] at settled
    refine ⟨CauseSet.eq_of_isEmpty empty, on, fun hold => ?_⟩
    rw [hold] at settled
    exact absurd settled nofun

theorem Crossing.Sequenced.walking (h : c.Sequenced A R) {w : Walk} (walk : c.walk = some w) : c.state.walks = true := by
  rw [← h.record, walk]
  rfl

theorem Crossing.Sequenced.walking_runs (h : c.Sequenced A R) {w : Walk} (walk : c.walk = some w) : R :=
  h.runs fun dark => by
    have walks := h.walking walk
    rw [dark] at walks
    exact absurd walks nofun

/-- A change of a crossing that the laws do not read. -/
theorem Crossing.Lawful.mod (h : (u.crossing n).Lawful A R) {f : Crossing → Crossing} (same : (f (u.crossing n)).legal = (u.crossing n).legal) :
    ((u.modCrossing n f).crossing n).Lawful A R := by
  rw [State.modCrossing_self]
  exact h.of_legal same

/-- Away from `.clearance` the laws read no count of a walk. -/
theorem Crossing.Lawful.recounted (h : c.Lawful A R) {w x : Walk} (walk : c.walk = some w) (target : x.target = w.target)
    (other : c.state ≠ .clearance) : ({ c with walk := some x } : Crossing).Lawful A R := by
  obtain ⟨⟨record, targets, waits, permitted, -, blank, idle⟩, called⟩ := h
  refine ⟨⟨?_, fun y is => ?_, waits, permitted, fun _ clears => absurd clears other, blank, idle⟩, fun y used => ?_⟩
  · rw [← record, walk]
    rfl
  · obtain rfl := Option.some.inj is
    exact target.trans (targets w walk)
  · cases y
    · exact called .walk used
    · exact called .dont used

/-- R51, R70: a crossing that goes on from one interval of its walk to the next, or starts one; away from CLEARANCE. -/
theorem Crossing.Lawful.goesOn (h : c.Lawful A R) {w : Walk} {st : IntervalState} (lit : c.state ≠ .dark)
    (walks : st.walks = true) (other : st ≠ .clearance) (target : w.target = c.settled) {pa pb : Option Call} {served on : Bool}
    (permitted : st = .starting ∨ st = .walk → c.causes = {} ∧ (c.mode = .normal ∨ c.mode = .recall) ∧ A) :
    ({ c with
      placeA := pa, placeB := pb, served := served, state := st, walk := some w, countdown := none
      countdownOn := on } : Crossing).Sequenced A R where
  record := walks.symm
  target x is := by
    obtain rfl := Option.some.inj is
    exact target
  waits out := absurd (walks.symm.trans out) (by decide)
  permitted := permitted
  counted _ clears := absurd clears other
  blank _ := rfl
  idle out := absurd (h.runs lit) out

theorem Mode.cases_walks (m : Mode) : m = .off ∨ m = .hold ∨ (m = .normal ∨ m = .recall) := by cases m <;> decide

/-! ### The ends of intervals (R62, R65, R68, R69) -/

theorem lightWalk_lawful (h : (u.crossing n).Lawful A R) (st : (u.crossing n).state = .starting) :
    ((u.lightWalk n).crossing n).Lawful A R := by
  unfold State.lightWalk
  split
  · exact h
  · next w walk =>
    have lit : (u.crossing n).state ≠ .dark := by rw [st]; exact nofun
    have blank : (u.crossing n).countdown = none := h.blank (by rw [st]; exact nofun)
    have goes := h.goesOn (st := .walk) lit rfl nofun
      (w := { w with count := w.walkLength, lampStart := u.tb.pos
                     release := (u.tb.pos + w.walkLength + w.clearance + w.buffer) % u.tb.cycle })
      (h.target w walk) (pa := (u.crossing n).placeA) (pb := (u.crossing n).placeB) (served := (u.crossing n).served)
      (on := (u.crossing n).countdownOn) fun _ => h.permitted (.inl st)
    rw [← blank] at goes
    change ((State.headsUpToDate (u.modCrossing n _) n).crossing n).Lawful A R
    refine Crossing.Sequenced.heads ?_
    rw [State.modCrossing_self]
    exact goes

theorem endWalk_lawful (h : (u.crossing n).Lawful A R) (st : (u.crossing n).state = .walk) : ((u.endWalk n).crossing n).Lawful A R :=
  (checkActive_lawful n A R).enterClearance (by rw [h.record, st]; rfl) h.target (h.runs (by rw [st]; exact nofun))

theorem releaseWalk_lawful (h : (u.crossing n).Lawful A R) : ((u.releaseWalk n).crossing n).Lawful A R := by
  unfold State.releaseWalk
  split
  · exact h
  · next w walk =>
    have cut := (u.notify (.release n)).modCrossing_self n fun c => { c with walk := none }
    have released (v : State) (at_n : v.crossing n = { u.crossing n with walk := none }) :
        ((v.enterWaiting checkActive n w.target).crossing n).Lawful A R := by
      refine (checkActive_lawful n A R).enterWaiting (by rw [at_n]) ?_ (.inl ?_) fun out => absurd (h.walking_runs walk) out
      · rw [h.target w walk]
        exact Crossing.settled_waits _
      · rw [at_n]
        exact h.target w walk
    dsimp only
    refine released _ ?_
    split
    · exact cut
    · exact cut

theorem endClearance_lawful (h : (u.crossing n).Lawful A R) : ((u.endClearance n).crossing n).Lawful A R := by
  unfold State.endClearance
  split
  · exact h
  · next w walk =>
    split
    · exact releaseWalk_lawful h
    · refine (checkActive_lawful n A R).enter ?_
      rw [State.modCrossing_self]
      have lit : (u.crossing n).state ≠ .dark := fun dark => by
        have walks := h.walking walk
        rw [dark] at walks
        exact absurd walks nofun
      exact h.goesOn (st := .buffer) (w := { w with count := w.buffer }) lit rfl nofun (h.target w walk) fun walks =>
        absurd walks (by decide)

/-! ### Deciding to walk (R58 to R61) -/

/-- R58, R61: a walk is committed at a crossing in REST where R70 allows it. -/
theorem commit_lawful (p : Plan) (h : (u.crossing n).Lawful A R) (st : (u.crossing n).state = .rest)
    (mode : (u.crossing n).mode = .normal ∨ (u.crossing n).mode = .recall) (allowed : A) :
    ((u.commit n p).crossing n).Lawful A R := by
  have settled : (u.crossing n).settled = .rest := by
    obtain same | ⟨fault, -⟩ := h.waits (by rw [st]; rfl)
    · exact same.symm.trans st
    · rw [st] at fault
      exact absurd fault nofun
  refine (checkActive_lawful n A R).enter ?_
  rw [State.modCrossing_self]
  exact h.goesOn (st := .starting) (w := u.committedWalk n p) (by rw [st]; exact nofun) rfl nofun rfl fun _ =>
    ⟨(Crossing.settled_rest settled).1, mode, allowed⟩

theorem startEvaluation_lawful (h : (u.crossing n).Lawful A R) (permits : u.tb.presence = .present → u.permit n = true → A) :
    ((u.startEvaluation n).crossing n).Lawful A R := by
  have read := (checkActive_lawful n A R).lawful u h
  have time := ((State.Kept.refl u).checkActive (n := n)).tb
  unfold State.startEvaluation
  dsimp only
  generalize checkActive n u = v at read time
  split
  next due =>
    obtain ⟨st, may⟩ := due
    split
    · exact read
    · next p _ =>
      split
      · unfold State.mayStart at may
        simp only [Bool.and_eq_true, Bool.or_eq_true, beq_iff_eq] at may
        obtain ⟨⟨⟨⟨⟨mode, present⟩, permit⟩, -⟩, -⟩, -⟩ := may
        have same : v.permit n = u.permit n := by
          unfold State.permit State.maskInForce
          rw [time]
        exact commit_lawful p read st mode (permits (time ▸ present) (same.symm.trans permit))
      · exact read
  · exact read

/-! ### The crossing's tick (R55) -/

theorem countStage_lawful (h : (u.crossing n).Lawful A R) : ((u.countStage n).crossing n).Lawful A R := by
  unfold State.countStage
  split
  · exact h
  · next w walk =>
    have counted (other : (u.crossing n).state ≠ .clearance) :
        ((u.modCrossing n fun c => { c with walk := some { w with count := w.count - 1 } }).crossing n).Lawful A R := by
      rw [State.modCrossing_self]
      exact h.recounted walk rfl other
    dsimp only
    split
    next st =>
      split
      · exact lightWalk_lawful h st
      · exact counted (by rw [st]; exact nofun)
    next st =>
      split
      · exact endWalk_lawful h st
      · exact counted (by rw [st]; exact nofun)
    next st =>
      split
      · exact endClearance_lawful h
      · have clearing := h.clearing st
        rw [State.modCrossing_self, State.modCrossing_self]
        refine Crossing.Clearing.lawful ⟨st, rfl, fun x is => ?_, fun y used => ?_, clearing.running⟩ fun x is => ?_
        · obtain rfl := Option.some.inj is
          exact h.target w walk
        · cases y
          · exact h.called .walk used
          · exact h.called .dont used
        · obtain rfl := Option.some.inj is
          exact countdownFor_shown _ _
    next st =>
      split
      · exact releaseWalk_lawful h
      · exact counted (by rw [st]; exact nofun)
    · exact h

theorem tickCrossing_lawful (h : (u.crossing n).Lawful A R) (permits : u.tb.presence = .present → u.permit n = true → A) :
    ((u.tickCrossing n).crossing n).Lawful A R := by
  have kept : u.Kept ((u.countStage n).windowStage n) := (State.Kept.refl u).countStage.checkActive.evaluateWindow
  have evaluated : (((u.countStage n).windowStage n).crossing n).Lawful A R :=
    ((checkActive_lawful n A R).lawful _ (countStage_lawful h)).of_legal (State.evaluateWindow_legal _ n)
  unfold State.tickCrossing State.startStage
  split
  · refine startEvaluation_lawful evaluated fun present permit => permits (kept.tb ▸ present) ?_
    have same : ((u.countStage n).windowStage n).permit n = u.permit n := by
      unfold State.permit State.maskInForce
      rw [kept.tb]
    exact same.symm.trans permit
  · exact evaluated

theorem releaseAtThisTick_lawful (was : State) (h : (u.crossing n).Lawful A R) :
    ((State.releaseAtThisTick was n u).crossing n).Lawful A R := by
  unfold State.releaseAtThisTick
  split
  · refine h.mod ?_
    unfold Crossing.modWalk Crossing.legal
    rw [Option.map_map]
    rfl
  · exact h

/-! ### Permits and the host (R70, R71) -/

theorem truncate_lawful {k : TruncationCause} (held : (u.crossing n).walk.isSome = true)
    (target : ∀ w, (u.crossing n).walk = some w → w.target = (u.crossing n).settled) (running : R) :
    ((u.truncate checkActive n k).crossing n).Lawful A R := by
  have noted : (u.noteTruncation n k).crossing n = (u.crossing n).modWalk fun w =>
      { w with truncation := some k, release := (u.tb.pos + w.clearance + w.buffer) % u.tb.cycle } :=
    u.modCrossing_self n fun c => c.modWalk fun w =>
      { w with truncation := some k, release := (u.tb.pos + w.clearance + w.buffer) % u.tb.cycle }
  unfold State.truncate
  refine (checkActive_lawful n A R).enterClearance ?_ (fun w has => ?_) running
  · rw [noted]
    exact Option.isSome_map.trans held
  · rw [noted] at has ⊢
    obtain ⟨v, is, rfl⟩ := Option.map_eq_some_iff.mp has
    exact target v is

/-- R70: after its permit fell a crossing is in no state that a permit allows. -/
theorem permitFalls_lawful (h : (u.crossing n).Lawful A R) : ((u.permitFalls n).crossing n).Lawful B R := by
  unfold State.permitFalls
  cases st : (u.crossing n).state with
  | starting => exact (checkActive_lawful n B R).cancel h.target (h.runs (by rw [st]; exact nofun))
  | walk =>
    have clean := (h.permitted (.inr st)).1
    exact (checkActive_lawful n B R).addNewCause h (by rw [clean]; rfl) fun _ => nofun
  | clearance | buffer =>
    exact (checkActive_lawful n B R).addCauseWith (h.allow fun walks => absurd (st ▸ walks) (by decide)) fun _ => nofun
  | dark | rest | hold | fault => exact h.allow fun walks => absurd (st ▸ walks) (by decide)

/-- R71: after the loss of the host a crossing is in no state that a permit allows. -/
theorem hostLossAt_lawful (h : (u.crossing n).Lawful A R) : ((u.hostLossAt n).crossing n).Lawful B R := by
  unfold State.hostLossAt
  cases st : (u.crossing n).state with
  | starting => exact (checkActive_lawful n B R).cancel h.target (h.runs (by rw [st]; exact nofun))
  | walk => exact truncate_lawful (by rw [h.record, st]; rfl) h.target (h.runs (by rw [st]; exact nofun))
  | clearance | buffer | dark | rest | hold | fault => exact h.allow fun walks => absurd (st ▸ walks) (by decide)

/-! ### Modes (R54) -/

/-- R54: a crossing without a walk takes its settled state. -/
theorem settle_lawful (none : (u.crossing n).walk = none) (running : R)
    (stays : (u.crossing n).settled = (u.crossing n).state → (u.crossing n).Lawful A R) : ((u.settle n).crossing n).Lawful A R := by
  unfold State.settle
  dsimp only
  split
  next same => exact stays same
  · exact (checkActive_lawful n A R).enterWaiting none (Crossing.settled_waits _) (.inl rfl) fun out => absurd running out

theorem leaveDark_lawful (none : (u.crossing n).walk = none) (running : R)
    (stays : (u.crossing n).settled = .dark → (u.crossing n).Lawful A R) : ((u.leaveDark n).crossing n).Lawful A R := by
  unfold State.leaveDark
  dsimp only
  split
  next dark => exact stays dark
  · have at_n := u.modCrossing_self n fun c => { c with served := c.served || c.inWindow }
    have entered (v : State) (same : v.crossing n = { u.crossing n with
        served := (u.crossing n).served || (u.crossing n).inWindow }) :
        ((v.enterWaiting checkActive n (u.crossing n).settled).crossing n).Lawful A R :=
      (checkActive_lawful n A R).enterWaiting (by rw [same]; exact none) (Crossing.settled_waits _)
        (.inl (by rw [same]; rfl)) fun out => absurd running out
    refine entered _ ?_
    split
    · exact at_n
    · exact at_n

theorem changeMode_lawful (mode : Mode) (h : (u.crossing n).Lawful A R) (running : R) :
    ((u.changeMode n mode).crossing n).Lawful A R := by
  have at_n := u.modCrossing_self n fun c => Crossing.retargeted { c with mode := mode }
  have target (w : Walk) (has : (Crossing.retargeted { u.crossing n with mode := mode }).walk = some w) :
      w.target = (Crossing.retargeted { u.crossing n with mode := mode }).settled := Crossing.retargeted_target _ w has
  have held : (Crossing.retargeted { u.crossing n with mode := mode }).walk.isSome = (u.crossing n).state.walks :=
    Option.isSome_map.trans h.record
  have resettled (waits : (u.crossing n).state.walks = false →
        (u.crossing n).state = ({ u.crossing n with mode := mode } : Crossing).settled)
      (permitted : (u.crossing n).state = .starting ∨ (u.crossing n).state = .walk → mode = .normal ∨ mode = .recall) :
      (Crossing.retargeted { u.crossing n with mode := mode }).Lawful A R :=
    h.resettled mode (u.crossing n).causes (fun st => .inl (waits st)) (fun st => ⟨(h.permitted st).1, permitted st⟩)
      fun out => absurd running out
  unfold State.changeMode
  generalize u.modCrossing n (fun c => Crossing.retargeted { c with mode := mode }) = v at at_n
  have state : (v.crossing n).state = (u.crossing n).state := by rw [at_n]; rfl
  have unwalked (st : (u.crossing n).state.walks = false) : (v.crossing n).walk = none := by
    rw [at_n]
    exact congrArg (Option.map _) (h.unwalked st)
  have settles (st : (u.crossing n).state.walks = false) (same : (v.crossing n).settled = (u.crossing n).state) :
      (v.crossing n).Lawful A R := by
    rw [at_n] at same ⊢
    exact resettled (fun _ => same.symm) fun walks => by
      obtain walks | walks := walks <;> rw [walks] at st <;> exact absurd st nofun
  dsimp only
  rw [state]
  cases st : (u.crossing n).state with
  | dark =>
    have waits : (u.crossing n).state.walks = false := by rw [st]; rfl
    exact leaveDark_lawful (unwalked waits) running fun same => settles waits (same.trans st.symm)
  | rest | hold | fault =>
    have waits : (u.crossing n).state.walks = false := by rw [st]; rfl
    exact settle_lawful (unwalked waits) running fun same => settles waits (same.trans state)
  | starting =>
    have cancels : ((v.cancel checkActive n).crossing n).Lawful A R :=
      (checkActive_lawful n A R).cancel (by rw [at_n]; exact target) running
    have stays (walks : mode = .normal ∨ mode = .recall) : (v.crossing n).Lawful A R := by
      rw [at_n]
      exact resettled (fun waits => absurd (st ▸ waits) (by decide)) fun _ => walks
    obtain rfl | rfl | walks := mode.cases_walks
    · exact cancels
    · exact cancels
    · obtain rfl | rfl := walks
      · exact stays (.inl rfl)
      · exact stays (.inr rfl)
  | walk =>
    have truncates (k : TruncationCause) : ((v.truncate checkActive n k).crossing n).Lawful A R :=
      truncate_lawful (by rw [at_n, held, st]; rfl) (by rw [at_n]; exact target) running
    have stays (walks : mode = .normal ∨ mode = .recall) : (v.crossing n).Lawful A R := by
      rw [at_n]
      exact resettled (fun waits => absurd (st ▸ waits) (by decide)) fun _ => walks
    obtain rfl | rfl | walks := mode.cases_walks
    · exact truncates _
    · exact truncates _
    · obtain rfl | rfl := walks
      · exact stays (.inl rfl)
      · exact stays (.inr rfl)
  | clearance | buffer =>
    dsimp only
    rw [at_n]
    exact resettled (fun waits => absurd (st ▸ waits) (by decide)) fun walks => absurd (st ▸ walks) (by decide)

end

end Sys2Proof.Machine
end

section
/-! SUPPORT. CLEAR FAULT and lamp faults keep the laws of the Sequencer at their crossing (spec 04, R72 to R76; spec 05, R91 to R94),
and every operation at another crossing keeps them. -/

namespace Sys2Proof.Machine

section
variable {A B R : Prop} {c d : Crossing} {s t u v : State} {n m : CrossingId}

/-! ### CLEAR FAULT (R76) -/

theorem Crossing.settled_waiting (settled : c.settled ≠ .dark) (sound : c.settled ≠ .fault) : c.causes = {} := by
  have on := Crossing.settled_on settled
  cases empty : c.causes.isEmpty with
  | true => exact CauseSet.eq_of_isEmpty empty
  | false => exact absurd (Crossing.settled_fault on empty) sound

theorem Crossing.remainingCauses_none (h : c.causes = {}) : c.remainingCauses = {} := by
  unfold Crossing.remainingCauses
  rw [h]
  rfl

theorem checkActive_legal (present : (u.crossing n).causes.planMemory = true) :
    ((checkActive n u).crossing n).legal = (u.crossing n).legal := by
  have read := readActive_legal n u
  have causes : ((readActive n u).crossing n).causes = (u.crossing n).causes := congrArg (fun k => k.2.2.1) read
  unfold checkActive
  dsimp only
  split
  · rw [addCauseWith_present readActive n .planMemory (readActive n u) (by
      change ((readActive n u).crossing n).causes.planMemory = true
      rw [causes]
      exact present)]
    exact read
  · exact read

theorem State.reenableChannels_legal (u : State) (n : CrossingId) :
    ((u.reenableChannels n).crossing n).legal = (u.crossing n).legal := by
  have use (ch : Channel) : (if ch.enabled = true then ch else { ch with enabled := true, openCount := 0 }).inUse = ch.inUse := by
    split <;> rfl
  unfold State.reenableChannels
  rw [State.modCrossing_self]
  unfold Crossing.legal Crossing.mapChannels
  dsimp only
  rw [use, use]

/-- R76: the causes that remain, at a crossing that is not in FAULT, or that keeps them all. -/
theorem Crossing.Lawful.cleared (h : c.Lawful A R) (other : c.state = .fault → c.remainingCauses = c.causes) :
    ({ c with causes := c.remainingCauses } : Crossing).retargeted.Lawful A R := by
  by_cases all : c.remainingCauses = c.causes
  · rw [all]
    exact h.resettled c.mode c.causes h.waits (fun st => ⟨(h.permitted st).1, (h.permitted st).2.1⟩) h.idle
  · have clean (none : c.causes = {}) : False := all ((Crossing.remainingCauses_none none).trans none.symm)
    refine h.resettled c.mode c.remainingCauses (fun waits => ?_) (fun st => absurd (h.permitted st).1 clean) h.idle
    obtain settled | ⟨fault, -⟩ := h.waits waits
    · by_cases dark : c.settled = .dark
      · have off := Crossing.settled_dark_iff.mp dark
        refine .inl ((settled.trans dark).trans (Crossing.settled_dark_iff.mpr ?_).symm)
        exact off
      · refine absurd (Crossing.settled_waiting dark fun fault => ?_) clean
        exact all (other (settled.trans fault))
    · exact absurd (other fault) all

theorem clearFault_lawful (h : (u.crossing n).Lawful A R) : ((u.clearFault n).crossing n).Lawful A R := by
  have read : ((if (u.crossing n).causes.planMemory then checkActive n u else u).crossing n).legal = (u.crossing n).legal := by
    split
    next present => exact checkActive_legal present
    · rfl
  unfold State.clearFault
  dsimp only
  generalize (if (u.crossing n).causes.planMemory then checkActive n u else u) = v at read
  generalize ((u.crossing n).causes.walkLamp || (u.crossing n).causes.dontLamp) = lamps
  have enabled : ((if lamps then v.reenableChannels n else v).crossing n).legal = (u.crossing n).legal := by
    split
    · exact (v.reenableChannels_legal n).trans read
    · exact read
  generalize (if lamps then v.reenableChannels n else v) = w at enabled
  have before := h.of_legal enabled
  have causes : (w.crossing n).causes = (u.crossing n).causes := congrArg (fun k => k.2.2.1) enabled
  have at_n := w.modCrossing_self n fun c => Crossing.retargeted { c with causes := c.remainingCauses }
  generalize w.modCrossing n (fun c => Crossing.retargeted { c with causes := c.remainingCauses }) = x at at_n
  have same : (x.crossing n).causes = (w.crossing n).remainingCauses := by rw [at_n]; rfl
  have state : (x.crossing n).state = (w.crossing n).state := by rw [at_n]; rfl
  split
  next all =>
    rw [at_n]
    exact before.cleared fun _ => same.symm.trans (all.trans causes.symm)
  · have settled : ((if ((x.notifyFault n).crossing n).state = .fault then (x.notifyFault n).settle n else x.notifyFault n).crossing n).Lawful
        A R := by
      split
      next fault =>
        have fault : (x.crossing n).state = .fault := fault
        have fault' : (w.crossing n).state = .fault := state.symm.trans fault
        have waits : (w.crossing n).state.walks = false := by rw [fault']; rfl
        have running : R := before.runs (by rw [fault']; exact nofun)
        have none : (x.crossing n).walk = none := by
          rw [at_n]
          exact congrArg (Option.map _) (before.unwalked waits)
        refine settle_lawful (u := x.notifyFault n) none running fun stays => ?_
        change (x.crossing n).settled = (x.crossing n).state at stays
        change (x.crossing n).Lawful A R
        rw [state, at_n] at stays
        rw [at_n]
        exact before.resettled (w.crossing n).mode _ (fun _ => .inl stays.symm)
          (fun walks => by rw [fault'] at walks; exact walks.elim nofun nofun) fun out => absurd running out
      next sound =>
        change (x.crossing n).Lawful A R
        rw [at_n]
        exact before.cleared fun is => absurd (state.trans is) sound
    cases lamps
    · exact settled
    · exact settled.toSequenced.heads

/-! ### Lamp faults (R91 to R93) -/

theorem State.disableChannel_lawful (x : Aspect) (h : (u.crossing n).Lawful A R) :
    ((u.disableChannel n x).crossing n).Lawful A R := by
  refine ⟨h.toSequenced.of_core (u.disableChannel_core n n x), ?_⟩
  have after : ((u.modCrossing n fun c => c.modChannel x fun ch =>
      { ch with enabled := false, inUse := false, actual := 0, applied := 0 }).crossing n).Called := fun y used => by
    rw [State.modCrossing_self] at used ⊢
    cases x <;> cases y
    · exact absurd used nofun
    · exact h.called .dont used
    · exact h.called .walk used
    · exact absurd used nofun
  have budget := Crossing.SameButApplied.legal (State.rebudget_same (u.modCrossing n fun c => c.modChannel x fun ch =>
      { ch with enabled := false, inUse := false, actual := 0, applied := 0 }) n)
  simp only [Crossing.legal, Prod.mk.injEq] at budget
  obtain ⟨state, -, -, -, -, -, walkLamp, dontLamp⟩ := budget
  refine after.of_same state fun y => ?_
  cases y
  · exact walkLamp
  · exact dontLamp

/-- R74: a channel's failure: a DONT channel fails in no walk. -/
theorem failChannel_lawful {x : Aspect} (h : (u.crossing n).Lawful A R) (permits : (u.crossing n).state = .walk → x ≠ .dont) :
    ((u.failChannel n x).crossing n).Lawful A R := by
  have state : ((u.disableChannel n x).crossing n).state = (u.crossing n).state :=
    Crossing.state_of_core (u.disableChannel_core n n x)
  refine (checkActive_lawful n A R).addCauseWith (State.disableChannel_lawful x h) fun st => ?_
  have other := permits (state.symm.trans st)
  cases x with
  | walk => exact nofun
  | dont => exact absurd rfl other

/-- R83: a lit channel is one that the interval state calls for. -/
theorem Crossing.Called.lit {x : Aspect} (h : c.Called) (lit : c.lit x = true) : c.state = .walk → x ≠ .dont := fun st is => by
  have used := (Bool.and_eq_true_iff.mp lit).1
  have calls := h x used
  rw [st, is] at calls
  exact absurd calls nofun

theorem testChannel_lawful (load : Nat) (x : Aspect) (h : (u.crossing n).Lawful A R) :
    ((u.testChannel load n x).crossing n).Lawful A R := by
  have counted (f : Channel → Nat) :
      ((u.modCrossing n fun c => c.modChannel x fun ch => { ch with openCount := f ch }).crossing n).Lawful A R := by
    refine h.mod ?_
    cases x <;> rfl
  unfold State.testChannel
  dsimp only
  split
  next testable =>
    have lit := (Bool.and_eq_true_iff.mp testable).1
    split
    · split
      · refine failChannel_lawful (counted _) fun st => h.called.lit lit ?_
        rw [State.modCrossing_self] at st
        cases x <;> exact st
      · exact counted _
    · exact counted _
  · exact h

/-! ### Another crossing -/

/-- The laws of a crossing read nothing that an operation at another one changes. -/
theorem lawful_closedAt (other : n ≠ m) (A R : Prop) : ClosedAt m fun u => (u.crossing n).Lawful A R where
  mod u f _ h := by
    rw [State.modCrossing_crossing, if_neg other]
    exact h
  heads u h := h.of_legal (Crossing.SameButApplied.legal (u.headsUpToDate_other (n := m) other))
  notify _ _ h := h
  plays u h := by
    rw [(u.queuePlaysTo_ownedAt m).1.crossing]
    exact h

theorem lawful_modOther (other : n ≠ m) (f : Crossing → Crossing) (h : (u.crossing n).Lawful A R) :
    ((u.modCrossing m f).crossing n).Lawful A R := by
  rw [State.modCrossing_crossing, if_neg other]
  exact h

theorem changeMode_away (other : n ≠ m) (mode : Mode) (h : (u.crossing n).Lawful A R) :
    ((u.changeMode m mode).crossing n).Lawful A R := by
  have cl := lawful_closedAt other A R
  have changed := lawful_modOther other (fun c => Crossing.retargeted { c with mode := mode }) h
  have read (v : State) (k : (v.crossing n).Lawful A R) : ((checkActive m v).crossing n).Lawful A R := cl.checkActive k
  unfold State.changeMode
  generalize u.modCrossing m (fun c => Crossing.retargeted { c with mode := mode }) = v at changed
  have settles : ((v.settle m).crossing n).Lawful A R := by
    unfold State.settle
    dsimp only
    split
    · exact changed
    · exact cl.enterWaiting read changed
  dsimp only
  split
  · unfold State.leaveDark
    dsimp only
    split
    · exact changed
    · refine cl.enterWaiting read ?_
      have served := lawful_modOther other (fun c => { c with served := c.served || c.inWindow }) changed
      split
      · exact served
      · exact served
  · exact settles
  · exact settles
  · exact settles
  · split
    · exact cl.cancel read changed
    · exact cl.cancel read changed
    · exact changed
    · exact changed
  · split
    · exact cl.truncate changed
    · exact cl.truncate changed
    · exact changed
    · exact changed
  · exact changed
  · exact changed

theorem clearFault_away (other : n ≠ m) (h : (u.crossing n).Lawful A R) : ((u.clearFault m).crossing n).Lawful A R := by
  have cl := lawful_closedAt other A R
  have read (v : State) (k : (v.crossing n).Lawful A R) : ((checkActive m v).crossing n).Lawful A R := cl.checkActive k
  have first : ((if (u.crossing m).causes.planMemory then checkActive m u else u).crossing n).Lawful A R := by
    split
    · exact read u h
    · exact h
  unfold State.clearFault
  dsimp only
  generalize (if (u.crossing m).causes.planMemory then checkActive m u else u) = v at first
  generalize ((u.crossing m).causes.walkLamp || (u.crossing m).causes.dontLamp) = lamps
  have enabled : ((if lamps then v.reenableChannels m else v).crossing n).Lawful A R := by
    split
    · exact lawful_modOther other _ first
    · exact first
  generalize (if lamps then v.reenableChannels m else v) = w at enabled
  have left := lawful_modOther other (fun c => Crossing.retargeted { c with causes := c.remainingCauses }) enabled
  generalize w.modCrossing m (fun c => Crossing.retargeted { c with causes := c.remainingCauses }) = x at left
  split
  · exact left
  · have settled : ((if ((x.notifyFault m).crossing m).state = .fault then (x.notifyFault m).settle m else x.notifyFault m).crossing n).Lawful
        A R := by
      split
      · unfold State.settle
        dsimp only
        split
        · exact left
        · exact cl.enterWaiting read (u := x.notifyFault m) left
      · exact left
    cases lamps
    · exact settled
    · exact cl.heads _ settled

theorem failChannel_away (other : n ≠ m) (x : Aspect) (h : (u.crossing n).Lawful A R) :
    ((u.failChannel m x).crossing n).Lawful A R := by
  have disabled := lawful_modOther other (fun c => c.modChannel x fun ch =>
    { ch with enabled := false, inUse := false, actual := 0, applied := 0 }) h
  exact (lawful_closedAt other A R).addCause (disabled.of_legal (Crossing.SameButApplied.legal (State.rebudget_same _ n)))

theorem testChannel_away (other : n ≠ m) (load : Nat) (x : Aspect) (h : (u.crossing n).Lawful A R) :
    ((u.testChannel load m x).crossing n).Lawful A R := by
  unfold State.testChannel
  dsimp only
  split
  · split
    · split
      · exact failChannel_away other x (lawful_modOther other _ h)
      · exact lawful_modOther other _ h
    · exact lawful_modOther other _ h
  · exact h

end

end Sys2Proof.Machine
end

section
/-! SUPPORT. What every operation keeps that ends and starts no interval but by a damaged record: reads, windows, needs, swaps, calls,
polls, transactions and the requests of the other blocks (spec 02, R24 to R29; spec 03; spec 06; spec 07; spec 09). -/

namespace Sys2Proof.Machine

section
variable {A B R : Prop} {c d : Crossing} {s t u v : State} {n m : CrossingId} {a : StationId}

/-- A property that is kept by what changes nothing the laws of the Sequencer read, by a new count of a walk outside CLEARANCE, and by
the checked reads. -/
structure ClosedUnderReads (P : State → Prop) : Prop where
  legal : ∀ u v : State, (∀ m, (v.crossing m).legal = (u.crossing m).legal) → P u → P v
  walk : ∀ (u : State) (m : CrossingId) (w x : Walk), (u.crossing m).walk = some w → x.target = w.target →
    (u.crossing m).state ≠ .clearance → P u → P (u.modCrossing m fun c => { c with walk := some x })
  active : ∀ (u : State) (m : CrossingId), P u → P (checkActive m u)
  planned : ∀ (u : State) (m : CrossingId), P u → P (checkPlanned m u)

theorem lawful_closedUnderReads (n : CrossingId) (A R : Prop) : ClosedUnderReads fun u => (u.crossing n).Lawful A R where
  legal _ _ same h := h.of_legal (same n)
  walk u m w x walk target other h := by
    by_cases at_n : n = m
    · subst at_n
      rw [State.modCrossing_self]
      exact h.recounted walk target other
    · exact lawful_modOther at_n _ h
  active u m h := by
    by_cases at_n : n = m
    · subst at_n
      exact (checkActive_lawful n A R).lawful u h
    · exact (lawful_closedAt at_n A R).checkActive h
  planned u m h := by
    by_cases at_n : n = m
    · subst at_n
      exact checkPlanned_lawful h
    · exact (lawful_closedAt at_n A R).checkPlanned h

/-! ### What the laws do not read -/

theorem State.modCrossing_legal (u : State) (n : CrossingId) (f : Crossing → Crossing) (same : ∀ c : Crossing, (f c).legal = c.legal)
    (m : CrossingId) : ((u.modCrossing n f).crossing m).legal = (u.crossing m).legal := by
  rw [State.modCrossing_crossing]
  split
  next at_n =>
    subst at_n
    exact same _
  · rfl

theorem State.mapChannels_legal (u : State) (f : Channel → Channel) (use : ∀ ch, (f ch).inUse = ch.inUse) (m : CrossingId) :
    ((u.mapChannels f).crossing m).legal = (u.crossing m).legal := by
  rw [State.mapChannels_crossing]
  unfold Crossing.legal Crossing.mapChannels
  dsimp only
  rw [use, use]

theorem Crossing.setPlace_legal (c : Crossing) (ap : Approach) (r : Option Call) : (c.setPlace ap r).legal = c.legal := by
  cases ap <;> rfl

theorem State.proceed_crossings (u : State) (x : Transaction) : (u.proceed x).crossings = u.crossings := by rw [State.proceed_eq]

theorem State.rebudget_legal (u : State) (m : CrossingId) : (u.rebudget.crossing m).legal = (u.crossing m).legal :=
  Crossing.SameButApplied.legal (State.rebudget_same u m)

theorem State.retargetHeads_legal (u : State) (m : CrossingId) : (u.retargetHeads.crossing m).legal = (u.crossing m).legal := by
  unfold State.retargetHeads
  rw [State.rebudget_legal]
  exact u.mapChannels_legal (fun c => { c with nominal := c.nominalFor u.tb.dayNight }) (fun _ => rfl) m

theorem Channel.rampStep_inUse (ch : Channel) : ch.rampStep.inUse = ch.inUse := by
  unfold Channel.rampStep
  split
  · rfl
  · split <;> rfl

theorem State.evaluateWindow_legal_all (u : State) (n m : CrossingId) :
    ((u.evaluateWindow n).crossing m).legal = (u.crossing m).legal := by
  by_cases at_n : m = n
  · subst at_n
    exact u.evaluateWindow_legal m
  · rw [State.evaluateWindow_eq, State.setCrossing_eq]
    have away := u.modCrossing_crossing n m fun _ => (u.crossing n).windowed (u.positionInWindow n)
    rw [if_neg at_n] at away
    exact congrArg Crossing.legal away

section
variable {P : State → Prop} (cl : ClosedUnderReads P)
include cl

/-! ### Windows, needs and swaps (R24, R56, R155) -/

theorem ClosedUnderReads.same (crossings : v.crossings = u.crossings) (h : P u) : P v :=
  cl.legal u v (fun m => by rw [State.crossing, crossings]; rfl) h

theorem ClosedUnderReads.mod (f : Crossing → Crossing) (same : ∀ c : Crossing, (f c).legal = c.legal) (h : P u) :
    P (u.modCrossing n f) := cl.legal u _ (u.modCrossing_legal n f same) h

theorem ClosedUnderReads.evaluateWindow (h : P u) : P (u.evaluateWindow n) :=
  cl.legal u _ (u.evaluateWindow_legal_all n) h

theorem ClosedUnderReads.queuePlaysTo (l : List StationId) (h : P u) : P (u.queuePlaysTo l) :=
  forEach_keeps P _ (fun a v k => cl.same (v.queuePlayTo_crossings a) k) l u h

theorem ClosedUnderReads.queuePlays (h : P u) : P (u.queuePlays checkActive n) := by
  have read := cl.active u n h
  unfold State.queuePlays
  dsimp only
  split
  · exact h
  · split
    · exact cl.queuePlaysTo _ read
    · exact read

theorem ClosedUnderReads.forCrossings {moves : Crossing → Bool} {f : CrossingId → State → State}
    (step : ∀ n u, P u → P (f n u)) (h : P u) : P (Machine.forCrossings moves f u) := by
  obtain ⟨order, d, -, -, made⟩ := forCrossings_order moves f u
  rw [made]
  have drawn : P { u with draws := d } := cl.same (u := u) rfl h
  exact forEach_keeps P f step order _ drawn

theorem ClosedUnderReads.serveNeeds (h : P u) : P (u.serveNeeds a) :=
  cl.legal u _ (fun m => by rw [(u.serveNeeds_cachesOnly a).crossing]) h

theorem ClosedUnderReads.recomputeNeeds (h : P u) : P (u.recomputeNeeds a) := by
  unfold State.recomputeNeeds
  split
  · exact cl.serveNeeds (cl.planned _ _ (cl.active _ _ h))
  · exact h

theorem ClosedUnderReads.recomputeAll (l : List StationId) (h : P u) : P (u.recomputeAll l) :=
  forEach_keeps P _ (fun _ _ k => cl.recomputeNeeds k) l u h

theorem ClosedUnderReads.recomputeEvery (h : P u) : P u.recomputeEvery :=
  cl.forCrossings (fun _ _ k => cl.recomputeAll _ k) h

theorem ClosedUnderReads.swapAt (h : P u) : P (u.swapAt n) := by
  unfold State.swapAt
  split
  · exact h
  · have read := cl.planned u n h
    generalize checkPlanned n u = v at read
    dsimp only
    split
    · exact read
    · next r _ =>
      have taken : P (v.modCrossing n fun c => { c with active := some r, planned := none, unusable := false }) :=
        cl.mod _ (fun _ => rfl) read
      generalize v.modCrossing n (fun c => { c with active := some r, planned := none, unusable := false }) = w at taken
      have served := cl.recomputeAll (w.ownedAt n) (cl.evaluateWindow (n := n) taken)
      generalize (w.evaluateWindow n).recomputeAll (w.ownedAt n) = x at served
      split
      · exact cl.queuePlays served
      · exact served

theorem ClosedUnderReads.swapWhen (b : Bool) (h : P u) : P (u.when b State.swapAll) := by
  cases b
  · exact h
  · have swapped := forEach_keeps P (fun m v => v.swapAt m) (fun _ _ k => cl.swapAt k) allCrossings u h
    exact swapped

/-! ### Calls (R33 to R43, R64, R66) -/

theorem ClosedUnderReads.placeChanged (ap : Approach) (presser : CallSource) (h : P u) : P (u.placeChanged n ap presser) := by
  have read := cl.active u n h
  unfold State.placeChanged
  dsimp only
  split
  · exact h
  · split
    · exact cl.queuePlaysTo _ read
    · exact read

theorem ClosedUnderReads.requestAck (newly : Bool) (h : P u) : P (u.requestAck n a newly) := by
  unfold State.requestAck
  dsimp only
  split
  · exact cl.same (State.queueUrgent_crossings ..) h
  · exact cl.same (State.queueUrgent_crossings ..) (cl.active u n h)

theorem ClosedUnderReads.registerAs (counted : Bool) (e : CallEvent) (h : P u) : P (u.registerAs counted e) := by
  have told (b : Bool) (x : Notice) {v : State} (k : P v) : P (if b then v.notify x else v) := by
    cases b
    · exact k
    · exact cl.same (u := v) rfl k
  have changed (b : Bool) {v : State} (k : P v) : P (if b then v.placeChanged e.crossing e.approach e.source else v) := by
    cases b
    · exact k
    · exact cl.placeChanged _ _ k
  have placed (r : Call) : P (u.modCrossing e.crossing fun c => c.setPlace e.approach (some r)) :=
    cl.mod _ (fun c => c.setPlace_legal e.approach (some r)) h
  unfold State.registerAs
  dsimp only
  split
  · exact changed _ (told _ _ (placed _))
  · split
    · exact changed _ (told _ _ (placed _))
    · exact cl.requestAck _ (changed _ (told _ _ (placed _)))

theorem ClosedUnderReads.tryJoin {e : CallEvent} {w : Walk} (p : Option Plan) (walk : (u.crossing e.crossing).walk = some w)
    (other : (u.crossing e.crossing).state ≠ .clearance) (h : P u) : P (u.tryJoin e w p) := by
  unfold State.tryJoin
  split
  · exact cl.registerAs _ e h
  · split
    · exact cl.walk u e.crossing w _ walk rfl other h
    · exact cl.registerAs _ e h

theorem ClosedUnderReads.tryExtend {e : CallEvent} {w : Walk} (p : Option Plan) (walk : (u.crossing e.crossing).walk = some w)
    (other : (u.crossing e.crossing).state ≠ .clearance) (h : P u) : P (u.tryExtend e w p) := by
  unfold State.tryExtend
  split
  · exact cl.registerAs _ e h
  · split
    · exact cl.registerAs _ e h
    · next q _ room _ =>
      split
      · have extended := cl.walk u e.crossing w (w.extended q room u.tb.tickPos u.tb.cycle) walk rfl other h
        dsimp only
        exact cl.same (State.notify_crossings ..) extended
      · exact cl.registerAs _ e h

theorem ClosedUnderReads.callEvent (e : CallEvent) (h : P u) : P (u.callEvent e) := by
  have walks : P (u.walkEvent e) := by
    have read := cl.active u e.crossing h
    unfold State.walkEvent
    dsimp only
    split
    next st walk => exact cl.tryJoin _ walk (by rw [st]; exact nofun) read
    next st walk => exact cl.tryExtend _ walk (by rw [st]; exact nofun) read
    · exact read
    · exact cl.registerAs _ e read
  have meets : P (match (u.crossing e.crossing).walk with
      | none => u
      | some w => if e.accessible && !w.accessible then u.walkEvent e else u) := by
    split
    · exact h
    · split
      · exact walks
      · exact h
  have registers := cl.registerAs (!e.upgrade) e h
  unfold State.callEvent
  cases (u.crossing e.crossing).state with
  | dark => exact h
  | starting | walk => exact meets
  | rest | hold | fault | clearance | buffer => exact registers

theorem ClosedUnderReads.decodePress (r : PressReport) (h : P u) : P (u.decodePress a r) := by
  unfold State.decodePress
  split
  · exact h
  · have pressed (f : Station → Station) : P (u.modStation a f) := cl.same (u.modStation_crossings a f) h
    dsimp only
    split
    · exact pressed _
    · exact cl.callEvent _ (pressed _)

/-! ### Stations, transactions and the Kerb Link -/

theorem ClosedUnderReads.stations (only : u.StationsOnly v) (h : P u) : P v := cl.same only.crossings h

theorem ClosedUnderReads.sampleFrom (r : PollReport) (h : P u) : P (u.sampleFrom a r) := by
  unfold State.sampleFrom State.takeSample
  split
  · exact cl.same (State.reevaluateLevel_crossings ..) (cl.same (u.modStation_crossings a _) h)
  · exact h

theorem ClosedUnderReads.pressAndSample (r : PollReport) (h : P u) : P (u.pressAndSample a r) := by
  obtain ⟨d, -, made⟩ := u.pressAndSample_cases a r
  have drawn : P { u with draws := d } := cl.same (u := u) rfl h
  obtain made | made := made
  · rw [made]
    exact cl.sampleFrom r (cl.decodePress _ drawn)
  · rw [made]
    exact cl.decodePress _ (cl.sampleFrom r drawn)

theorem ClosedUnderReads.pollOk (r : PollReport) (h : P u) : P (u.pollOk a r) := by
  have only := (State.StationsOnly.refl u).clearFailures (a := a)
  have retaken := (only.modStation (a := a) (f := fun x => x.report r)).enterTaking (a := a)
  have reported := cl.stations (only.takeReport (a := a) (r := r)) h
  unfold State.pollOk
  dsimp only
  split
  · exact cl.pressAndSample r reported
  · exact cl.stations retaken.notifyStation h
  · exact reported
  · exact cl.stations retaken.notifyStation h
  · exact cl.stations only h

theorem ClosedUnderReads.becomeOwned (h : P u) : P (u.becomeOwned a) := by
  have owned := cl.stations (((State.StationsOnly.refl u).modStation (a := a) (f := fun x => { x with owner := .owned })).notifyStation
    (a := a)) h
  unfold State.becomeOwned
  dsimp only
  generalize (u.modStation a fun x => { x with owner := .owned }).notifyStation a = v at owned
  split
  · exact owned
  · next b _ =>
    have read := cl.active v b.crossing owned
    refine cl.recomputeNeeds ?_
    split
    · exact cl.same (State.queuePlayTo_crossings ..) read
    · exact read

theorem ClosedUnderReads.settingDelivered (x : Setting) (again : Bool) (h : P u) : P (u.settingDelivered a x again) := by
  unfold State.settingDelivered
  split
  · exact h
  · have removed (f : Station → Station) : P (u.modStation a f) := cl.same (u.modStation_crossings a f) h
    dsimp only
    split
    · exact cl.becomeOwned (removed _)
    · exact removed _

theorem ClosedUnderReads.commitAnswer (good : Bool) (h : P u) : P (u.commitAnswer a good) := by
  have changed (f : Station → Station) : P (u.modStation a f) := cl.same (u.modStation_crossings a f) h
  unfold State.commitAnswer
  split
  · exact h
  · split
    · exact cl.recomputeNeeds (changed _)
    · split
      · exact changed _
      · refine cl.recomputeNeeds ?_
        split
        · exact cl.stations (State.StationsOnly.refl _).modStation.notifyStation (changed _)
        · exact changed _

theorem ClosedUnderReads.ends {x : Transaction} {onOk : State → State} (e : Ends x onOk) (h : P u) : P (onOk u) := by
  cases e with
  | poll r => exact cl.pollOk r h
  | play p => exact cl.same (State.modStation_crossings ..) h
  | ack => exact cl.same (State.modStation_crossings ..) h
  | setting y => exact cl.settingDelivered y _ h
  | opened => exact cl.same (State.modStation_crossings ..) h
  | blockSent => exact cl.same (State.modStation_crossings ..) h
  | commit good => exact cl.commitAnswer good h

theorem ClosedUnderReads.endTransaction {x : Transaction} {reply : KerbReply} {onOk : State → State} (e : Ends x onOk) (h : P u) :
    P (u.endTransaction x reply onOk) := by
  have linked (f : Link → Link) : P (u.modLink f) := cl.same (u.modLink_crossings f) h
  have counted {v : State} (k : P v) : P (v.countFailure x.station) := cl.stations (State.StationsOnly.refl v).countFailure k
  unfold State.endTransaction
  dsimp only
  refine cl.same (State.proceed_crossings _ x) ?_
  split
  · exact linked _
  · split
    · exact cl.ends e (cl.stations (State.StationsOnly.refl _).clearFailures (linked _))
    all_goals exact counted (linked _)

end

end

end Sys2Proof.Machine
end

section
/-! SUPPORT. The requests beside SYNC, the Kerb Link's events and the ends of intervals keep the laws of the Sequencer at every crossing,
the Timebase and the start-up state (spec 04, R51, R52, R70; spec 05, R83, R85). -/

namespace Sys2Proof.Machine

/-- The laws of the Sequencer are kept at every crossing, and what permits and RUNNING are read from stays. -/
structure State.KeepsWalks (s t : State) : Prop where
  tb : t.tb = s.tb
  startUp : t.startUp = s.startUp
  lawful : ∀ n A, (s.crossing n).Lawful A (s.startUp.operating = .running) → (t.crossing n).Lawful A (s.startUp.operating = .running)

section
variable {A R : Prop} {s t u v : State} {n m : CrossingId} {a : StationId}

theorem State.KeepsWalks.refl (s : State) : s.KeepsWalks s := ⟨rfl, rfl, fun _ _ h => h⟩

theorem State.KeepsWalks.trans (h : s.KeepsWalks t) (k : t.KeepsWalks u) : s.KeepsWalks u where
  tb := k.tb.trans h.tb
  startUp := k.startUp.trans h.startUp
  lawful n A law := by
    have kept := k.lawful n A
    rw [h.startUp] at kept
    exact kept (h.lawful n A law)

/-- What leaves every crossing, the Timebase and the start-up state alone. -/
theorem State.KeepsWalks.same (h : s.KeepsWalks t) (crossings : u.crossings = t.crossings) (tb : u.tb = t.tb)
    (startUp : u.startUp = t.startUp) : s.KeepsWalks u :=
  h.trans ⟨tb, startUp, fun n _ law => by
    rw [State.crossing, crossings]
    exact law⟩

theorem State.KeepsWalks.stations (h : s.KeepsWalks t) (only : t.StationsOnly u) : s.KeepsWalks u :=
  h.same only.crossings only.tb only.startUp

/-- What keeps all that `ClosedUnderReads` tells of. -/
theorem State.KeepsWalks.reads (h : s.KeepsWalks t) (kept : t.Kept u) (closed : ∀ P, ClosedUnderReads P → P t → P u) :
    s.KeepsWalks u :=
  h.trans ⟨kept.tb, kept.startUp, fun n A => closed _ (lawful_closedUnderReads n A _)⟩

theorem State.KeepsWalks.readsOrdered {p : Nat → Prop} (h : s.KeepsWalks t)
    (kept : ∃ d, p d ∧ ({ t with draws := d } : State).Kept u) (closed : ∀ P, ClosedUnderReads P → P t → P u) : s.KeepsWalks u := by
  obtain ⟨d, -, k⟩ := kept
  exact h.trans ⟨k.tb, k.startUp, fun n A => closed _ (lawful_closedUnderReads n A _)⟩

/-- What acts on crossing m alone. -/
theorem State.KeepsWalks.at (h : s.KeepsWalks t) (m : CrossingId) (kept : t.Kept u)
    (here : ∀ A, (t.crossing m).Lawful A (t.startUp.operating = .running) → (u.crossing m).Lawful A (t.startUp.operating = .running))
    (away : ∀ n A, n ≠ m → (t.crossing n).Lawful A (t.startUp.operating = .running) →
      (u.crossing n).Lawful A (t.startUp.operating = .running)) : s.KeepsWalks u := by
  refine h.trans ⟨kept.tb, kept.startUp, fun n A law => ?_⟩
  by_cases at_m : n = m
  · subst at_m
    exact here A law
  · exact away n A at_m law

/-! ### The requests beside SYNC -/

theorem State.KeepsWalks.modLink {f : Link → Link} (h : s.KeepsWalks t) : s.KeepsWalks (t.modLink f) :=
  h.same (u := t.modLink f) rfl rfl rfl

theorem State.KeepsWalks.setHead {x : Aspect} {f : Channel → Channel} (h : s.KeepsWalks t) (use : ∀ ch, (f ch).inUse = ch.inUse) :
    s.KeepsWalks (t.modCrossing n fun c => c.modChannel x f).rebudget := by
  refine h.reads (State.Kept.refl t).modCrossing.rebudget fun P cl law => cl.legal t _ (fun m => ?_) law
  rw [State.rebudget_legal, t.modCrossing_legal n _ (fun c => ?_) m]
  cases x
  · exact congrArg (fun b => (c.state, c.mode, c.causes, c.countdown, c.countdownOn, c.walk.map fun w => (w.target, w.count), b,
      c.dontLamp.inUse)) (use c.walkLamp)
  · exact congrArg (fun b => (c.state, c.mode, c.causes, c.countdown, c.countdownOn, c.walk.map fun w => (w.target, w.count),
      c.walkLamp.inUse, b)) (use c.dontLamp)

theorem State.KeepsWalks.setPatternRecord {k : PatternId} {p : Option Pattern} (h : s.KeepsWalks t) :
    s.KeepsWalks (t.setPatternRecord k p) := by
  unfold State.setPatternRecord
  have written : s.KeepsWalks { t with patterns := t.patterns.set k p } := h.same (u := { t with patterns := t.patterns.set k p }) rfl rfl rfl
  refine forEach_keeps s.KeepsWalks _ (fun a u law => ?_) allStations _ written
  split
  · exact law.reads (State.Kept.refl u).addSetting fun P cl => cl.same (State.addSetting_crossings ..)
  · exact law

theorem State.KeepsWalks.setClip {k : ClipId} {c : Clip} (h : s.KeepsWalks t) : s.KeepsWalks (t.setClip k c) :=
  h.same (u := t.setClip k c) rfl rfl rfl

theorem State.KeepsWalks.recomputeEvery (h : s.KeepsWalks t) : s.KeepsWalks t.recomputeEvery :=
  h.readsOrdered (State.Kept.refl t).recomputeEvery fun _ cl => cl.recomputeEvery

theorem State.KeepsWalks.clipLeftValid {k : ClipId} (h : s.KeepsWalks t) : s.KeepsWalks (t.clipLeftValid k) :=
  (h.stations ((State.StationsOnly.refl t).forEach (l := allStations) (f := fun a u => u.clipLeavesAt k a) fun _ _ only =>
    only.clipLeavesAt)).recomputeEvery

theorem State.KeepsWalks.clipBecameValid {k : ClipId} (h : s.KeepsWalks t) : s.KeepsWalks (t.clipBecameValid k) := by
  refine (h.stations ((State.StationsOnly.refl t).forEach (l := allStations) (f := fun a u => u.unbar k a) fun a u only => ?_)).recomputeEvery
  unfold State.unbar
  dsimp only
  split
  · split
    · exact only.modStation.modStation.notifyStation
    · exact only.modStation
  · exact only

theorem State.KeepsWalks.bind {x n ap : Byte} {f : BindFields} (h : s.KeepsWalks t) :
    s.KeepsWalks (handleBindStation x n ap f t).state := by
  unfold handleBindStation
  split
  · split
    · exact h
    · split
      · exact h.stations (State.StationsOnly.refl t).bindFresh
      · split
        · refine h.reads (State.Kept.refl t).bindSame fun P cl law => ?_
          unfold State.bindSame
          refine cl.recomputeNeeds (cl.same (State.reevaluateLevel_crossings ..) ?_)
          split
          · exact cl.same (State.addSetting_crossings ..) (cl.same (State.modStation_crossings ..) law)
          · exact cl.same (State.modStation_crossings ..) law
        · exact h.stations (State.StationsOnly.refl t).bindElsewhere
  · exact h

theorem State.KeepsWalks.setPattern {k p c i : Byte} {l : List PointFields} (h : s.KeepsWalks t) :
    s.KeepsWalks (handleSetPattern k p c i l t).state := by
  have read : s.KeepsWalks t.readAllPlans := h.readsOrdered (State.Kept.refl t).readAllPlans fun _ cl =>
    cl.forCrossings fun m u law => cl.planned _ m (cl.active u m law)
  unfold handleSetPattern
  split
  · split
    · dsimp only
      split
      · exact read
      · rw [done_state]
        exact read.setPatternRecord
    · rw [done_state]
      exact h.setPatternRecord
  · exact h

theorem State.KeepsWalks.clips {k : Byte} (h : s.KeepsWalks t) :
    (∀ length check, s.KeepsWalks (handleClipOpen k length check t).state) ∧ (∀ offset data, s.KeepsWalks (handleClipData k offset data t).state)
    ∧ s.KeepsWalks (handleClipClose k t).state ∧ s.KeepsWalks (handleClipErase k t).state := by
  refine ⟨fun length check => ?_, fun offset data => ?_, ?_, ?_⟩
  · unfold handleClipOpen
    split
    · exact h
    · split
      · exact h
      · next k _ =>
        dsimp only
        generalize (if (t.clip k).state = .empty then 0 else (t.clip k).blocks) = freed
        split
        · exact h
        · split
          · exact h
          · rw [done_state]
            split
            · exact h.setClip.clipLeftValid
            · exact h.setClip
  · unfold handleClipData
    split
    · exact h
    · dsimp only
      split
      · exact h
      · split
        · exact h
        · exact h.setClip
  · unfold handleClipClose
    split
    · exact h
    · dsimp only
      split
      · exact h
      · split
        · rw [done_state]
          exact h.setClip.clipBecameValid
        · exact h.setClip
  · unfold handleClipErase
    split
    · exact h
    · split
      · exact h
      · exact h.setClip
      · rw [done_state]
        exact h.setClip.clipLeftValid

/-- Every request but SYNC keeps the laws of the Sequencer. -/
theorem Owner.keepsWalks {kind : Byte} {owner : State → Answer} (o : Owner kind owner) (other : kind ≠ 0x01) (h : s.KeepsWalks t)
    (handled : t.handles kind = true) : s.KeepsWalks (owner t).state := by
  have refl := State.Kept.refl t
  cases o with
  | sync => exact absurd rfl other
  | setPlan n f =>
    unfold handleSetPlan
    split
    · exact h
    · split
      · split
        · exact h
        · split
          · exact h
          · exact h.reads refl.modCrossing.recomputeAll fun _ cl law => cl.recomputeAll _ (cl.mod _ (fun _ => rfl) law)
      · exact h
  | setMode n m =>
    unfold handleSetMode
    split
    · next n m _ _ =>
      split
      · exact h
      · split
        · exact h
        · have running := State.running_of_handles handled (by decide) (by decide)
          exact h.at n refl.changeMode (fun _ law => changeMode_lawful m law running) fun _ _ other law => changeMode_away other m law
    · exact h
  | clearFault n =>
    unfold handleClearFault
    split
    · exact h
    · next n _ =>
      rw [done_state]
      split
      · exact h
      · exact h.at n refl.clearFault (fun _ law => clearFault_lawful law) fun _ _ other law => clearFault_away other law
  | placeCall n ap acc =>
    unfold handlePlaceCall
    split
    · split
      · exact h
      · exact h.reads refl.callEvent fun _ cl => cl.callEvent _
    · exact h
  | cancelCall n ap =>
    unfold handleCancelCall
    split
    · next n ap _ _ =>
      split
      · exact h
      · exact h.reads refl.modCrossing.placeChanged fun _ cl law =>
          cl.placeChanged ap none (cl.mod _ (fun c => c.setPlace_legal ap none) law)
    · exact h
  | setHead n x c d e r =>
    unfold handleSetHead
    split
    · split
      · exact h.setHead fun _ => rfl
      · exact h
    · exact h
  | bindStation a n ap f => exact h.bind
  | unbindStation a =>
    unfold handleUnbindStation
    split
    · exact h
    · split
      · exact h
      · exact (h.stations (State.StationsOnly.refl t).clearWork).same (State.setStation_crossings ..) rfl rfl
  | configure =>
    rw [handleConfigure, done_state]
    exact (h.same (u := { t with configured := true }) rfl rfl rfl).stations (State.StationsOnly.refl _).takeOverBound
  | unconfigure =>
    unfold handleUnconfigure
    split
    · rw [done_state]
      exact (h.same (u := { t with configured := false }) rfl rfl rfl).stations
        ((State.StationsOnly.refl _).forEach fun _ _ only => only.revert)
    · exact h
  | resetKerbLink =>
    have reset := h.stations ((State.StationsOnly.refl t).forEach (l := allStations) (f := fun a u => u.kerbResetAt a) fun _ _ only =>
      only.kerbResetAt)
    rw [handleResetKerbLink, done_state, State.kerbReset]
    exact reset.modLink
  | setPattern k p c i l => exact h.setPattern
  | clipOpen k length check => exact h.clips.1 length check
  | clipData k offset data => exact h.clips.2.1 offset data
  | clipClose k => exact h.clips.2.2.1
  | clipErase k => exact h.clips.2.2.2
  | queryCrossing n =>
    unfold handleQueryCrossing
    split
    · exact h
    · next n _ => exact h.reads refl.checkActive.checkPlanned fun _ cl law => cl.planned _ n (cl.active t n law)
  | queryStation a =>
    unfold handleQueryStation
    split
    · exact h
    · dsimp only
      exact h.stations (State.StationsOnly.refl t).modStation
  | queryClip k =>
    unfold handleQueryClip
    split
    · exact h
    · exact h
  | queryStartUp => exact h
  | restart => exact h

/-! ### The Kerb Link -/

theorem State.KeepsWalks.afterBeacon (h : s.KeepsWalks t) : s.KeepsWalks t.afterBeacon := by
  unfold State.afterBeacon
  split
  · exact h.modLink
  · rw [State.periodicFrom_eq]
    exact h.same rfl rfl rfl

theorem State.KeepsWalks.takeOverBound {tell : Bool} (h : s.KeepsWalks t) : s.KeepsWalks (State.takeOverBound tell t) :=
  h.stations (State.StationsOnly.refl t).takeOverBound

theorem State.KeepsWalks.judgeBeacon {heard} (h : s.KeepsWalks t) : s.KeepsWalks (t.judgeBeacon heard) := by
  unfold State.judgeBeacon
  split
  · split
    · exact h.takeOverBound.afterBeacon
    · exact h.afterBeacon
  · exact h.modLink

theorem State.KeepsWalks.judgeRetry {heard} (h : s.KeepsWalks t) : s.KeepsWalks (t.judgeRetry heard) := by
  unfold State.judgeRetry
  split
  · exact h.modLink.takeOverBound.afterBeacon
  · exact h.modLink

theorem State.KeepsWalks.lineFaultRevert (h : s.KeepsWalks t) : s.KeepsWalks t.lineFaultRevert :=
  h.stations (State.StationsOnly.refl t).lineFaultRevert

theorem State.KeepsWalks.openFrame (h : s.KeepsWalks t) : s.KeepsWalks t.openFrame := by
  have beacon {v : State} {retried : Bool} (k : s.KeepsWalks v) : s.KeepsWalks (v.sendBeacon retried) :=
    k.same (u := v.sendBeacon retried) rfl rfl rfl
  have fault {v : State} (k : s.KeepsWalks v) : s.KeepsWalks v.faultFrame := by
    unfold State.faultFrame
    dsimp only
    split
    · split
      · exact beacon k.modLink.lineFaultRevert
      · exact beacon k.modLink
    · split
      · exact k.modLink.lineFaultRevert
      · exact k.modLink
  unfold State.openFrame
  dsimp only
  refine State.KeepsWalks.modLink ?_
  split
  · exact beacon h.modLink
  · exact fault h.modLink

theorem State.KeepsWalks.proceed (h : s.KeepsWalks t) (x : Transaction) : s.KeepsWalks (t.proceed x) := by
  rw [State.proceed_eq]
  exact h.same rfl rfl rfl

theorem Ends.keepsWalks {x : Transaction} {onOk : State → State} (e : Ends x onOk) (h : s.KeepsWalks t) : s.KeepsWalks (onOk t) := by
  have refl := State.Kept.refl t
  have closed (P : State → Prop) (cl : ClosedUnderReads P) : P t → P (onOk t) := cl.ends e
  cases e with
  | poll r => exact h.readsOrdered refl.pollOk closed
  | play p => exact h.reads refl.playDelivered closed
  | ack => exact h.reads refl.ackDelivered closed
  | setting x => exact h.reads refl.settingDelivered closed
  | opened => exact h.reads refl.modJob closed
  | blockSent => exact h.reads refl.modJob closed
  | commit good => exact h.reads refl.commitAnswer closed

theorem State.KeepsWalks.endTransaction {x : Transaction} {reply : KerbReply} {onOk : State → State} (h : s.KeepsWalks t)
    (e : Ends x onOk) : s.KeepsWalks (t.endTransaction x reply onOk) := by
  have counted {v : State} (k : s.KeepsWalks v) : s.KeepsWalks (v.countFailure x.station) :=
    k.stations (State.StationsOnly.refl v).countFailure
  unfold State.endTransaction
  dsimp only
  refine State.KeepsWalks.proceed ?_ x
  split
  · exact h.modLink
  · split
    · exact e.keepsWalks (h.modLink.stations (State.StationsOnly.refl _).clearFailures)
    all_goals exact counted h.modLink

/-! ### The ends of intervals and the lamp faults (R62 to R69, R91) -/

theorem Crossing.runsOut_state {c : Crossing} {st : IntervalState} (due : c.runsOut st = true) : c.state = st := by
  unfold Crossing.runsOut at due
  exact beq_iff_eq.mp (Bool.and_eq_true_iff.mp due).1

end

end Sys2Proof.Machine
end

section
/-! SUPPORT. The laws of the Sequencer through a tick, the loss of the host, a SYNC, the self-test and every step; O59 (spec 04, R51, R52,
R70; spec 05, R83, R85). -/

namespace Sys2Proof.Machine

/-- R51, R52, R70, R83, R85: the laws of the Sequencer at every crossing, under the permits and the operating state of the part. -/
def State.WalksLawful (s : State) : Prop := ∀ n, (s.crossing n).Lawful
  (s.tb.presence = .present ∧ s.tb.mask.getLsbD n.val = true) (s.startUp.operating = .running)

section
variable {A B R : Prop} {c : Crossing} {s t u v : State} {n m : CrossingId}

theorem State.KeepsWalks.walksLawful (h : s.KeepsWalks t) (law : s.WalksLawful) : t.WalksLawful := fun n => by
  rw [h.tb, h.startUp]
  exact h.lawful n _ (law n)

/-- R70: a permit in force is one of a PRESENT host. -/
theorem State.permit_iff (s : State) (n : CrossingId) :
    s.permit n = true ↔ s.tb.presence = .present ∧ s.tb.mask.getLsbD n.val = true := by
  unfold State.permit State.maskInForce
  cases s.tb.presence with
  | present => exact ⟨fun bit => ⟨rfl, bit⟩, fun ⟨_, bit⟩ => bit⟩
  | lost => simp

/-- A crossing in no state that a permit allows. -/
theorem Crossing.Lawful.resting (h : c.Lawful False R) : c.Lawful A R := h.allow fun st => (h.permitted st).2.2.elim

/-! ### The loss of the host (R11, R71) -/

theorem State.loseHost_lawful (law : (s.crossing n).Lawful A R) : (s.loseHost.crossing n).Lawful B R := by
  unfold State.loseHost
  obtain ⟨order, d, perm, -, made⟩ := forCrossings_order (fun c => c.state == .starting || c.state == .walk)
    (fun n s => s.hostLossAt n) ((s.modTimebase fun b =>
      { b with presence := .lost, fresh := Config.freshLimit, correction := 0 }).notify (.cycle .lost))
  dsimp only
  rw [made]
  have away {P : Prop} (m : CrossingId) (other : m ≠ n) (u : State) (h : (u.crossing n).Lawful P R) :
      ((u.hostLossAt m).crossing n).Lawful P R := (lawful_closedAt other.symm P R).hostLossAt h
  exact forEach_turns (A := fun u => (u.crossing n).Lawful A R) (B := fun u => (u.crossing n).Lawful B R) (x := n)
    (fun u h => hostLossAt_lawful h) order (fun m _ => away m) (fun m _ => away m)
    (perm.nodup_iff.mpr nodup_allCrossings) (perm.mem_iff.mpr (mem_allCrossings n)) _ law

theorem State.loseHost_startUp (s : State) : s.loseHost.startUp = s.startUp := by
  obtain ⟨d, -, kept⟩ := (State.Kept.refl ((s.modTimebase fun b =>
    { b with presence := .lost, fresh := Config.freshLimit, correction := 0 }).notify (.cycle .lost))).forCrossings
      (moves := fun c => c.state == .starting || c.state == .walk) (f := fun n s => s.hostLossAt n) fun _ _ _ k => k.hostLossAt
  exact kept.startUp

theorem State.WalksLawful.loseHost (law : s.WalksLawful) : s.loseHost.WalksLawful := fun n => by
  rw [s.loseHost_startUp]
  exact State.loseHost_lawful (law n)

/-! ### A tick (R2, R55, R88, R91) -/

theorem State.WalksLawful.countFreshness (law : s.WalksLawful) : s.countFreshness.WalksLawful := by
  unfold State.countFreshness
  split
  · exact law
  · split
    · exact law.loseHost
    · exact law

theorem State.WalksLawful.tickCrossing (law : s.WalksLawful) (was : State) (n : CrossingId) :
    ((State.releaseAtThisTick was n s).tickCrossing n).WalksLawful := fun m => by
  have released := (State.Kept.refl s).releaseAtThisTick (was := was) (n := n)
  have kept := released.tickCrossing (n := n)
  rw [kept.tb, kept.startUp]
  by_cases here : m = n
  · subst here
    refine tickCrossing_lawful (releaseAtThisTick_lawful was (law m)) fun _ permit => ?_
    have allowed := (State.permit_iff _ m).mp permit
    rw [released.tb] at allowed
    exact allowed
  · have cl := lawful_closedAt here (s.tb.presence = .present ∧ s.tb.mask.getLsbD m.val = true) (s.startUp.operating = .running)
    exact cl.tickCrossing (cl.releaseAtThisTick (law m))

theorem State.WalksLawful.doWork (law : s.WalksLawful) (was : State) (load : Vector Nat 16) (wrap : Bool) (w : TickWork) :
    (State.doWork was load wrap w s).WalksLawful := by
  have refl := State.KeepsWalks.refl s
  have kept := State.Kept.refl s
  cases w with
  | crossing n => exact law.tickCrossing was n
  | swap =>
    refine (refl.reads ?_ fun _ cl => cl.swapWhen wrap).walksLawful law
    cases wrap
    · exact kept
    · exact kept.swapAll
  | freshness => exact law.countFreshness
  | ramps => exact (refl.reads kept.rampAll fun _ cl => cl.legal s _ (s.mapChannels_legal _ Channel.rampStep_inUse)).walksLawful law
  | test n x =>
    exact (refl.at n kept.testChannel (fun _ h => testChannel_lawful _ x h) fun _ _ other h => testChannel_away other _ x h).walksLawful law

theorem State.WalksLawful.upset (law : s.WalksLawful) (x : Upset) : (s.upset x).WalksLawful := by
  have refl := State.KeepsWalks.refl s
  have marked (n : CrossingId) (f : Crossing → Crossing) (same : ∀ c : Crossing, (f c).legal = c.legal) :
      (s.modCrossing n f).WalksLawful :=
    (refl.reads (State.Kept.refl s).modCrossing fun _ cl => cl.mod f same).walksLawful law
  cases x with
  | plan n slot correctable =>
    cases slot
    · exact marked n _ fun _ => rfl
    · exact marked n _ fun _ => rfl
  | clipByte k i v => exact refl.setClip.walksLawful law

theorem State.WalksLawful.tick (law : s.WalksLawful) (i : TickInputs) : (s.tick i).WalksLawful := by
  have moved : (s.modTimebase Timebase.advanced).WalksLawful := law
  have opened : ((s.modTimebase Timebase.advanced).when (s.modTimebase Timebase.advanced).running State.openFrame).WalksLawful := by
    unfold State.when
    split
    · exact (State.KeepsWalks.refl _).openFrame.walksLawful moved
    · exact moved
  have worked := forEach_keeps State.WalksLawful (State.doWork s i.load s.tb.wraps) (fun w u k => k.doWork s i.load s.tb.wraps w)
    (workOf i) _ opened
  exact forEach_keeps State.WalksLawful (fun x u => u.upset x) (fun x u k => k.upset x) i.upsets _ worked

/-! ### SYNC (R5 to R14, R70) -/

section
variable {P : State → Prop} (cl : ClosedUnderReads P)
include cl

theorem ClosedUnderReads.cycleChanged (was : State) (h : P u) : P (State.cycleChanged was u) :=
  cl.forCrossings (fun m v k => by
    have read := cl.active v m k
    dsimp only
    split
    · exact read
    · exact cl.evaluateWindow read) h

theorem ClosedUnderReads.syncPosition (found : Presence) (cycle pos : Nat) (h : P u) : P (u.syncPosition found cycle pos) := by
  have stepped {v : State} (k : P v) : P (v.stepTo cycle pos) := cl.same (State.modTimebase_crossings ..) k
  have told (x : Notice) {v : State} (k : P v) : P (v.notify x) := cl.same (State.notify_crossings ..) k
  unfold State.syncPosition
  cases found with
  | lost =>
    dsimp only
    split
    · exact cl.cycleChanged _ (stepped h)
    · split
      · exact cl.swapWhen _ (stepped (told _ h))
      · exact cl.cycleChanged _ (stepped (told _ (told _ h)))
  | present =>
    dsimp only
    split
    · exact cl.cycleChanged _ (stepped (told _ h))
    · split
      · exact cl.same (State.modTimebase_crossings ..) h
      · exact cl.swapWhen _ (stepped (told _ h))

end

theorem State.turn_legal (u : State) (d : DayNight) (n : CrossingId) : ((u.turn d).crossing n).legal = (u.crossing n).legal := by
  have turned : (u.turn d).crossing n = (u.modTimebase fun b => { b with dayNight := d }).retargetHeads.crossing n := by
    rw [State.crossing, (u.turn_heads d).1]
    rfl
  rw [turned, State.retargetHeads_legal]
  rfl

/-- The effects of a SYNC but the fall of the crossing's own permit. -/
theorem State.doSync_lawful {found : Presence} {cycle pos : Nat} {d : DayNight} {w : SyncWork} (other : w ≠ .fall n)
    (h : (u.crossing n).Lawful A R) : ((State.doSync found cycle pos d w u).crossing n).Lawful A R := by
  have cl := lawful_closedUnderReads n A R
  cases w with
  | fall m =>
    have apart : n ≠ m := fun same => other (same ▸ rfl)
    exact (lawful_closedAt apart A R).permitFalls h
  | turn => exact cl.legal u _ (u.turn_legal d) h
  | position => exact cl.syncPosition found cycle pos h

theorem State.WalksLawful.acceptSync (law : s.WalksLawful) (cycle pos : Nat) (mask : Byte) (d : DayNight) :
    (s.acceptSync cycle pos mask d).WalksLawful := fun n => by
  obtain ⟨-, -, -, -, startUp, -⟩ := s.acceptSync_beside cycle pos mask d
  have time := s.acceptSync_tb cycle pos mask d
  rw [Timebase.synced_eq] at time
  rw [startUp, time]
  dsimp only
  by_cases falls : SyncWork.fall n ∈ s.syncWorks mask d
  · refine Crossing.Lawful.resting (R := s.startUp.operating = .running) ?_
    exact State.acceptSync_turns (A := fun u => (u.crossing n).Lawful _ (s.startUp.operating = .running))
      (B := fun u => (u.crossing n).Lawful False (s.startUp.operating = .running)) s (.fall n) falls (law n)
      (fun u h => permitFalls_lawful h) (fun w _ other u h => State.doSync_lawful other h) (fun w _ other u h => State.doSync_lawful other h)
  · obtain ⟨order, perm, -, made⟩ := s.acceptSync_order cycle pos mask d
    have kept : ((s.acceptSync cycle pos mask d).crossing n).Lawful (s.tb.presence = .present ∧ s.tb.mask.getLsbD n.val = true)
        (s.startUp.operating = .running) := by
      rw [made]
      exact forEach_keeps_of_mem (P := fun u => (u.crossing n).Lawful (s.tb.presence = .present ∧ s.tb.mask.getLsbD n.val = true)
        (s.startUp.operating = .running)) order
        (fun w inside u h => State.doSync_lawful (fun same => falls (same ▸ perm.mem_iff.mp inside)) h) _ (law n)
    refine kept.allow fun st => ⟨rfl, ?_⟩
    have permit := (s.permit_iff n).mpr (kept.permitted st).2.2
    by_contra unset
    exact falls (State.mem_syncWorks_fall.mpr ⟨permit, eq_false_of_ne_true unset⟩)

theorem State.WalksLawful.handleSync (law : s.WalksLawful) (cycle pos : Half) (mask day : Byte) :
    (handleSync cycle pos mask day s).state.WalksLawful := by
  unfold Machine.handleSync
  split
  · exact law
  · split
    · exact law.acceptSync _ _ _ _
    · exact law

/-! ### The self-test (R171, R172) -/

/-- A crossing of a part that is not RUNNING is DARK with mode OFF, which every law allows. -/
theorem Crossing.Lawful.unlit (h : c.Lawful A False) : c.Lawful B R := by
  obtain ⟨dark, off⟩ := h.idle not_false
  obtain ⟨⟨record, target, waits, -, -, blank, -⟩, called⟩ := h
  refine ⟨⟨record, target, waits, fun st => ?_, fun _ st => ?_, blank, fun _ => ⟨dark, off⟩⟩, called⟩
  · rw [dark] at st
    exact st.elim nofun nofun
  · rw [dark] at st
    exact absurd st nofun

/-- A crossing that holds its reset values. -/
theorem Crossing.reset_lawful : ({} : Crossing).Lawful A R := by
  refine ⟨⟨rfl, nofun, fun _ => .inl rfl, fun st => st.elim nofun nofun, fun _ => nofun, fun _ => rfl, fun _ => ⟨rfl, rfl⟩⟩, fun x => ?_⟩
  cases x <;> exact nofun

/-- Every crossing is DARK with mode OFF and lawful. -/
def State.Unlit (s : State) : Prop := ∀ n, (s.crossing n).Lawful False False

theorem State.WalksLawful.unlit (law : s.WalksLawful) (idle : s.startUp.operating ≠ .running) : s.Unlit := fun n => by
  have h := law n
  rw [eq_false idle] at h
  exact h.unlit

theorem State.Unlit.walksLawful (h : s.Unlit) : s.WalksLawful := fun n => (h n).unlit

theorem State.Unlit.legal (h : s.Unlit) (same : ∀ n, (t.crossing n).legal = (s.crossing n).legal) : t.Unlit := fun n =>
  (h n).of_legal (same n)

/-- R172: a pulse that fails adds its cause at a crossing that is DARK. -/
theorem State.Unlit.pulseFailed (h : s.Unlit) (n : CrossingId) (x : Aspect) : (s.pulseFailed n x).Unlit := fun m => by
  have disabled : ((s.disableChannel n x).crossing m).Lawful False False := by
    by_cases here : m = n
    · subst here
      exact State.disableChannel_lawful x (h m)
    · exact (lawful_modOther here _ (h m)).of_legal (Crossing.SameButApplied.legal (State.rebudget_same _ m))
  change (((s.disableChannel n x).modCrossing n fun c => { c with causes := c.causes.add (lampCause x) }).crossing m).Lawful False False
  by_cases here : m = n
  · subst here
    have dark := (disabled.idle not_false).1
    have unwalked := disabled.unwalked (by rw [dark]; rfl)
    rw [State.modCrossing_self]
    refine (disabled.caused (lampCause x) (.inl dark)).of_legal ?_
    unfold Crossing.legal Crossing.caused Crossing.retargeted Crossing.modWalk
    dsimp only
    rw [unwalked]
    rfl
  · exact lawful_modOther here _ disabled

theorem State.Unlit.pulseAll (h : s.Unlit) (v : Vector Pulse 16) : (s.pulseAll v).Unlit := by
  refine forEach_keeps State.Unlit _ (fun n u k => ?_) allCrossings s h
  have first : (if pulseFails v[channelIndex n .walk] then u.pulseFailed n .walk else u).Unlit := by
    split
    · exact k.pulseFailed n .walk
    · exact k
  dsimp only
  split
  · exact first.pulseFailed n .dont
  · exact first

theorem State.Unlit.checkEffect (h : s.Unlit) (check : Check) (found : CheckInputs) : (s.checkEffect check found).Unlit := by
  have same {t : State} (crossings : t.crossings = s.crossings) : t.Unlit := h.legal fun n => by
    rw [State.crossing, crossings]
    rfl
  unfold State.checkEffect
  cases check with
  | planMemory =>
    refine h.legal fun n => ?_
    have emptied : ({ s with crossings := tableMap Crossing.emptied s.crossings } : State).crossing n = (s.crossing n).emptied :=
      tableMap_getElem _ _ _ _
    exact (congrArg Crossing.legal emptied).trans rfl
  | clipMemory =>
    dsimp only
    split
    · exact same rfl
    · exact same rfl
  | headDrivers => exact h.pulseAll found.pulses
  | kerbLine =>
    dsimp only
    split
    · exact h
    · exact same rfl
  | configRom | workMemory | streetLine => exact h

theorem State.Unlit.completeCheck (h : s.Unlit) (check : Check) (found : CheckInputs) : (s.completeCheck check found).Unlit := by
  have begun (f : StartUp → StartUp) : ((s.modStartUp f).checkEffect check found).Unlit :=
    State.Unlit.checkEffect (s := s.modStartUp f) h check found
  have ends (o : OperatingState) {t : State} (k : t.Unlit) : (t.endSelfTest o).Unlit := by
    unfold State.endSelfTest
    dsimp only
    split
    · exact k
    · exact k
  unfold State.completeCheck
  dsimp only
  split
  · split
    · exact begun _
    · exact ends _ (begun _)
  · split
    · exact begun _
    · exact ends _ (begun _)
  · exact ends _ (begun _)
  · exact begun _

/-! ### Every step -/

theorem State.WalksLawful.handling (law : s.WalksLawful) : s.handling.WalksLawful := law

theorem Owner.walksLawful {kind : Byte} {owner : State → Answer} (o : Owner kind owner) (law : s.WalksLawful)
    (handled : s.handles kind = true) : (owner s).state.WalksLawful := by
  by_cases sync : kind = 0x01
  · cases o with
    | sync cycle pos mask day => exact law.handleSync cycle pos mask day
    | _ => exact absurd sync (by decide)
  · exact (o.keepsWalks sync (State.KeepsWalks.refl s) handled).walksLawful law

theorem State.Runs.walksLawful (h : s.Runs t) (law : s.WalksLawful) : t.WalksLawful := by
  have refl := State.KeepsWalks.refl s
  have kept := State.Kept.refl s
  have resets (crossings : ∀ n, t.crossing n = {}) : t.WalksLawful := fun n => by
    rw [crossings]
    exact Crossing.reset_lawful
  cases h with
  | street f _ => exact law
  | request tag o free handled => exact o.walksLawful law.handling handled
  | powerOn => exact resets State.reset_crossing
  | selfTest => exact resets State.reset_crossing
  | check found awaits =>
    have testing := ((s.startUp.awaits_iff found).1 awaits).1
    exact ((law.unlit (by rw [testing]; exact nofun)).completeCheck found.check found).walksLawful
  | tick i => exact law.tick i
  | hostLost _ => exact law.loseHost
  | leadEnd n due =>
    have st := Crossing.runsOut_state due
    exact (refl.at n kept.lightWalk (fun _ h => lightWalk_lawful h st) fun _ _ other h => (lawful_closedAt other _ _).lightWalk h).walksLawful
      law
  | walkEnd n due =>
    have st := Crossing.runsOut_state due
    refine (refl.at n kept.endWalk (fun _ h => endWalk_lawful h st) fun _ A other h => ?_).walksLawful law
    have cl := lawful_closedAt other A (s.startUp.operating = .running)
    exact cl.enterClearance (fun _ => cl.checkActive) h
  | clearanceEnd n _ =>
    exact (refl.at n kept.endClearance (fun _ h => endClearance_lawful h) fun _ _ other h =>
      (lawful_closedAt other _ _).endClearance h).walksLawful law
  | bufferEnd n _ =>
    exact (refl.at n kept.releaseWalk (fun _ h => releaseWalk_lawful h) fun _ _ other h =>
      (lawful_closedAt other _ _).releaseWalk h).walksLawful law
  | lampOpen n x due =>
    have lit := (Bool.and_eq_true_iff.mp due).1
    have counted := refl.reads kept.modCrossing fun _ cl => cl.mod (n := n)
      (fun c => c.modChannel x fun ch => { ch with openCount := Config.openLimit }) fun c => by cases x <;> rfl
    refine (counted.at n (State.Kept.refl _).failChannel (fun _ h => failChannel_lawful h fun st => (law n).called.lit lit ?_)
      fun _ _ other h => failChannel_away other x h).walksLawful law
    rw [State.modCrossing_self] at st
    cases x <;> exact st
  | lampShort n x due =>
    have lit : (s.crossing n).lit x = true := by
      by_contra unlit
      unfold State.lampCurrent at due
      rw [if_neg unlit] at due
      exact absurd due (Nat.lt_irrefl 0)
    exact (refl.at n kept.failChannel (fun _ h => failChannel_lawful h ((law n).called.lit lit))
      fun _ _ other h => failChannel_away other x h).walksLawful law
  | beacon heard => exact refl.judgeBeacon.walksLawful law
  | retry heard => exact refl.judgeRetry.walksLawful law
  | reversion _ => exact refl.modLink.lineFaultRevert.walksLawful law
  | quietEnd => exact refl.modLink.takeOverBound.walksLawful law
  | transaction x reply _ ends => exact (refl.endTransaction ends).walksLawful law

end

/-- Settles O59: the laws of the Sequencer at each crossing, through every operation that a step can be. -/
theorem walkOnlyUnderPermit : Obligations.WalkOnlyUnderPermit := by
  intro s t walk countdown stepped
  obtain ⟨q, runs⟩ := step_runs stepped
  have law : ({ s with pending := q } : State).WalksLawful := s.walkLaw_iff.mp ⟨walk, countdown⟩
  exact t.walkLaw_iff.mpr (runs.walksLawful law)

end Sys2Proof.Machine
end
